-- ==== Sys2Proof/Word.lean ====
section
/-! DEFINITION. Bytes and the multi-byte fields of the formats section (spec/09_the_bay_port.md, 9.7): most
significant byte first. Everything else of this block is numbers, names and lists, not words. -/

namespace Sys2Proof

/-- One byte of a floor link frame, a request or a reply. -/
abbrev Byte := BitVec 8

/-- The 32 flags of the summary word and of the enable mask (9.3). -/
abbrev FlagWord := BitVec 32

/-- A number as one byte. -/
def byteOf (n : Nat) : Byte := BitVec.ofNat 8 n

end Sys2Proof
end

