-- ==== Sys2Proof/Syntax.lean ====
section
/-! DEFINITION. The commands of the Pelzbar 410: one constructor of `Instr` for each row of
spec/opcode_table.json, with the operands that the rule of the row names. A command is a bay port request, another
event of the bay port, a frame taken from the floor link, another event of the link, an event of the clock or of a
timer, or an event on one of the single lines. -/

namespace Sys2Proof

/-! ## Floor link frames (R63) -/

/-- The eight frame kinds of R63, in the order that gives their codes (9.7). -/
inductive FrameKind where
  | beacon | offer | answer | release | receipt | call | hold | done
  deriving DecidableEq, Repr

/-- The payload of a BEACON (R63, 9.7). The two halves of the state byte stay codes, since a good frame may carry a
code that names no state. -/
structure BeaconMsg where
  bay : Nat
  bayCode : Nat
  depCode : Nat
  drops : List Nat
  minutes : Nat
  urgency : Nat
  free : Nat
  interval : Nat
  deriving DecidableEq, Repr

/-- One pallet of an OFFER. -/
structure OfferItem where
  label : Nat
  depot : Nat
  mass : Nat
  deriving DecidableEq, Repr

/-- The payload of an OFFER; the count k is the number of items. -/
structure OfferMsg where
  origin : Nat
  target : Nat
  group : Nat
  size : Nat
  items : List OfferItem
  deriving DecidableEq, Repr

/-- One verdict of an ANSWER, as its code: an item whose code names no verdict is ignored (R107). -/
structure AnswerItem where
  label : Nat
  verdict : Nat
  deriving DecidableEq, Repr

/-- The payload of an ANSWER; the target is the sender. -/
structure AnswerMsg where
  target : Nat
  origin : Nat
  group : Nat
  items : List AnswerItem
  deriving DecidableEq, Repr

/-- The payload of a RELEASE. -/
structure ReleaseMsg where
  origin : Nat
  target : Nat
  label : Nat
  deriving DecidableEq, Repr

/-- The payload of a RECEIPT; origin 0 addresses all (R63). -/
structure ReceiptMsg where
  bay : Nat
  origin : Nat
  label : Nat
  deriving DecidableEq, Repr

/-- The payload of a CALL. -/
structure CallMsg where
  bay : Nat
  number : Nat
  deriving DecidableEq, Repr

/-- The payload of a HOLD. -/
structure HoldMsg where
  bay : Nat
  caller : Nat
  number : Nat
  labels : List Nat
  deriving DecidableEq, Repr

/-- The payload of a DONE. -/
structure DoneMsg where
  bay : Nat
  deriving DecidableEq, Repr

/-- A frame's payload, with its kind. -/
inductive Body where
  | beacon (m : BeaconMsg)
  | offer (m : OfferMsg)
  | answer (m : AnswerMsg)
  | release (m : ReleaseMsg)
  | receipt (m : ReceiptMsg)
  | call (m : CallMsg)
  | hold (m : HoldMsg)
  | done (m : DoneMsg)
  deriving DecidableEq, Repr

/-! ## Operands of the bay port's requests -/

/-- What every request frame carries (R154, R155): its sequence number, and whether its parameters have the number and
width that the request and its options byte call for (R155, test 4). -/
structure ReqHead where
  seq : Nat
  formOk : Bool
  deriving DecidableEq, Repr

/-- The parameters of DOCK. C, P and K must be given, H and E may be omitted (R20). -/
structure DockParams where
  drops : List Nat
  capacity : Option Nat
  payload : Option Nat
  handling : Option Nat
  expected : Option Nat
  cutoff : Option Nat
  deriving DecidableEq, Repr

/-- The mode of a TIP START (R25): COUNTED with its count, OPEN, or a code that is neither. -/
inductive TipModeArg where
  | counted (n : Nat)
  | openEnded
  | neither
  deriving DecidableEq, Repr

/-- The decline notice mode (R108, R162). -/
inductive DeclineMode where
  | all | first | none
  deriving DecidableEq, Repr

/-- The strap inputs as sampled at power-on (R163): the bay number, the link rate code, the group size code, NOFINAL
and AUTOCLOSE. -/
structure Straps where
  bay : Nat
  rate : Nat
  size : Nat
  noFinal : Bool
  autoClose : Bool
  deriving DecidableEq, Repr

/-! ## The commands -/

/-- The commands of the block, one constructor for each row of spec/opcode_table.json, in the table's order. -/
inductive Instr where
  /-- DOCK (R20, R21). -/
  | dock (h : ReqHead) (p : DockParams)
  /-- DECLARE (R23). -/
  | declare (h : ReqHead) (label depot mass : Nat)
  /-- TIP START (R25). -/
  | tipStart (h : ReqHead) (mode : TipModeArg)
  /-- TIP OFF (R28), the depot and the mass optional. -/
  | tipOff (h : ReqHead) (label : Nat) (depot mass : Option Nat)
  /-- TIP END (R26). -/
  | tipEnd (h : ReqHead)
  /-- LOAD (R38). -/
  | load (h : ReqHead) (label : Nat)
  /-- UNLOAD BACK (R39). -/
  | unloadBack (h : ReqHead)
  /-- ARRIVE (R130), the origin optional. -/
  | arrive (h : ReqHead) (label depot mass : Nat) (origin : Option Nat)
  /-- DEPART (R40), with or without ABANDON. -/
  | depart (h : ReqHead) (abandon : Bool)
  /-- WITHDRAW (R114). -/
  | withdraw (h : ReqHead) (label : Nat)
  /-- HALT INTAKE (R127). -/
  | haltIntake (h : ReqHead)
  /-- RESUME INTAKE (R128). -/
  | resumeIntake (h : ReqHead)
  /-- CLOSE (R140). -/
  | close (h : ReqHead)
  /-- REOPEN (R150). -/
  | reopen (h : ReqHead)
  /-- SET CUTOFF (R22). -/
  | setCutoff (h : ReqHead) (cutoff : Nat)
  /-- SET EXPECTED (R22). -/
  | setExpected (h : ReqHead) (expected : Nat)
  /-- SET CLOCK (R51); the minute may be missing. -/
  | setClock (h : ReqHead) (minute : Option Nat)
  /-- SET NOTICES (R162); the mode is absent where its code is none of the three. -/
  | setNotices (h : ReqHead) (mask : FlagWord) (mode : Option DeclineMode)
  /-- READ STATUS (R156). -/
  | readStatus (h : ReqHead)
  /-- READ NOTICE (R160). -/
  | readNotice (h : ReqHead)
  /-- READ SUMMARY (R161). -/
  | readSummary (h : ReqHead)
  /-- READ DECK (R157): position 0 asks for the rear. -/
  | readDeck (h : ReqHead) (position : Nat)
  /-- READ LANE (R37). -/
  | readLane (h : ReqHead)
  /-- READ HOLDS (R136). -/
  | readHolds (h : ReqHead)
  /-- READ TRANSFER (R116). -/
  | readTransfer (h : ReqHead)
  /-- READ DIRECTORY (R95). -/
  | readDirectory (h : ReqHead)
  /-- READ COUNTERS (R77, R157). -/
  | readCounters (h : ReqHead)
  /-- CLEAR BAY (R165). -/
  | clearBay (h : ReqHead)
  /-- RESTART LINK (R82, R166). -/
  | restartLink (h : ReqHead)
  /-- A request frame that begins while a request is in progress (R154). -/
  | busy (seq : Nat)
  /-- A broken request frame (R155, test 2), with its sequence number where it was received. -/
  | badFrame (seq : Option Nat)
  /-- A request frame whose code names no request (R155, test 3). -/
  | unknown (seq code : Nat)
  /-- More than 20 ms between two bytes of a request frame (R155, test 2). -/
  | interByteTimeout (seq : Option Nat)
  /-- The last byte of a reply has been sent (R154). -/
  | replySent
  /-- A BEACON taken (R88). -/
  | beacon (key : Nat) (m : BeaconMsg)
  /-- An OFFER taken (R122). -/
  | offer (key : Nat) (m : OfferMsg)
  /-- An ANSWER taken (R107). -/
  | answer (key : Nat) (m : AnswerMsg)
  /-- A RELEASE taken (R129). -/
  | release (key : Nat) (m : ReleaseMsg)
  /-- A RECEIPT taken (R113). -/
  | receipt (key : Nat) (m : ReceiptMsg)
  /-- A CALL taken (R143). -/
  | call (key : Nat) (m : CallMsg)
  /-- A HOLD taken (R144). -/
  | hold (key : Nat) (m : HoldMsg)
  /-- A DONE taken (R115, R135). -/
  | done (key : Nat) (m : DoneMsg)
  /-- A frame heard and found bad (R72, R76). -/
  | badFrameHeard
  /-- A good frame whose objection slot reads dominant (R72). -/
  | objectedFrameDropped
  /-- A good frame that bears the own bay number (R75), with its kind. -/
  | duplicateBay (kind : FrameKind)
  /-- The line has been quiet for the quiet gap (R69). -/
  | quietGapStart
  /-- Another station's key, heard bit by bit while the own key is sent (R70). -/
  | lostContention (heard : Nat)
  /-- A transmit failure of the present attempt (R71, R73). -/
  | transmitFailure
  /-- The own frame has passed its objection slot (R73). -/
  | transmitComplete
  /-- The free room of the transmit queue is offered to the producers that are owed it (R81). -/
  | queueRoomOffered
  /-- One second of quiet while LISTENING (R66). -/
  | quietTimerExpiry
  /-- The 30th second boundary in FAULTED (R68). -/
  | rejoinTimerExpiry
  /-- A rising edge of the hall clock line (R45), with the microseconds of oscillator time that passed since the last
  oscillator-timed command. -/
  | hallClockPulse (elapsed : Nat)
  /-- 1.5 s with no pulse (R45). -/
  | pulseSilence
  /-- The oscillator's second boundary (R46). -/
  | secondBoundary
  /-- The beacon timer has expired (R86). -/
  | beaconTimerExpiry
  /-- A peer's entry has gone stale (R89). -/
  | directoryEntryExpiry (bay : Nat)
  /-- A peer's unreachable mark has run out (R90). -/
  | unreachableMarkExpiry (bay : Nat)
  /-- The hold timer of the open group for a target has reached 20 s (R102). -/
  | holdTimerExpiry (target : Nat)
  /-- The answer timer of an outstanding send has expired (R110, R111). -/
  | answerTimerExpiry (target group : Nat)
  /-- The travel timer of an ACCEPTED entry has run out (R112). -/
  | travelTimerExpiry (label : Nat)
  /-- The sixth second boundary after the call start (R145). -/
  | callWindowEnd
  /-- The wait limit has reached 0 (R148). -/
  | waitLimitExpiry
  /-- A pending start is tried again at a second boundary (R141). -/
  | automaticStart
  /-- The qualified shutter-closed line goes active (R141, R164). -/
  | shutterClosed
  /-- The qualified shutter-closed line goes inactive (R149, R150, R164). -/
  | shutterOpened
  /-- Power-on (R167), with the strap pins and the shutter level it finds. -/
  | powerOn (straps : Straps) (shutter : Bool)
  /-- The reset pin goes active, or the supply falls (R167). -/
  | resetAsserted
  /-- A byte other than the request start byte where a frame would begin (R155, test 1). -/
  | nonStartByteDiscarded (byte : Nat)
  deriving DecidableEq, Repr

end Sys2Proof
end

