-- ==== Sys2Proof/Decode.lean ====
section
/-! DEFINITION. The rows of spec/opcode_table.json give no bits, so no word spells a command and the decoder reads none
(Log 2). How the bytes of a request frame and of a floor link frame spell commands is in
Sys2Proof/Machine/PortFormats.lean and Sys2Proof/Machine/LinkFormats.lean. -/

namespace Sys2Proof

/-- The command that a table word spells: none, since no row of the table has bits. -/
def decodeTableWord (_nbits _w : Nat) : Option Instr := none

end Sys2Proof
end

