-- ==== Sys2Proof/Config.lean ====
section
/-! DEFINITION. The numbers the manual fixes, each with its rule, and the straps that `State.reset` takes (Log 1). The
manual leaves no result of a command open, so this block has no free value. -/

namespace Sys2Proof.Config

/-- A second, in the microseconds in which the oscillator measurements are kept (Log 3). -/
def second : Nat := 1000000
/-- The shortest distance between a good pulse and the one before it, 0.9 s (R45). -/
def pulseShortest : Nat := 900000
/-- The longest distance between a good pulse and the one before it, 1.1 s (R45). -/
def pulseLongest : Nat := 1100000
/-- The silence that makes a silence event, 1.5 s (R45). -/
def silenceLimit : Nat := 1500000
/-- A good pulse closer than this to an oscillator boundary makes no boundary of its own, 0.5 s (R46). -/
def alignWindow : Nat := 500000
/-- The line quiet that brings LISTENING to JOINED, 1 s (R66). -/
def quietLimit : Nat := 1000000
/-- The good pulses in a row that bring REFERENCE (R50). -/
def goodPulses : Nat := 64
/-- The bad pulses in a row that bring FALLBACK (R48). -/
def badPulses : Nat := 3
/-- The frames taken that bring LISTENING to JOINED (R66). -/
def joinFrames : Nat := 3
/-- The slots of the transmit queue (R78). -/
def queueSlots : Nat := 16
/-- The slots of the transmit queue that classes 2 and 3 may fill (R78). -/
def offerSlots : Nat := 12
/-- The consecutive transmit failures that fault the link (R74). -/
def failureLimit : Nat := 16
/-- The half mark of the receive error count (R76). -/
def halfMark : Nat := 32768
/-- The second boundaries spent in FAULTED (R68). -/
def rejoinSeconds : Nat := 30
/-- The seconds an unreachable mark runs (R90). -/
def unreachableSeconds : Nat := 60
/-- The second boundaries an open group waits (R102). -/
def holdSeconds : Nat := 20
/-- The second boundaries an answer is waited for (R105). -/
def answerSeconds : Nat := 2
/-- The sends of one group (R111). -/
def sendLimit : Nat := 3
/-- The second boundaries of the call window (R142). -/
def windowSeconds : Nat := 6
/-- The open groups at one time (R99). -/
def openGroupLimit : Nat := 8
/-- The entries of the Transfer Table (R97). -/
def tableSlots : Nat := 96
/-- The records of a declined set (R97). -/
def declinedLimit : Nat := 4
/-- The records of the named set (R138). -/
def namedLimit : Nat := 64
/-- The labels of one HOLD frame and the items of one ANSWER frame (R143, R146). -/
def frameItems : Nat := 8
/-- The records of the notice queue other than an OVERRUN (R159). -/
def noticeSlots : Nat := 31
/-- The records of the busy list (R154). -/
def busySlots : Nat := 16
/-- The greatest mass of a pallet, and the mass of a reconciliation hold (R146). -/
def greatestMass : Nat := 120
/-- The greatest value of the change count (R87). -/
def changeLimit : Nat := 4294967295

/-- DESIGN CHOICE (unsafe, Log 1): the straps of `State.reset`, which the manual leaves to the hall: bay 3 of
spec/10_a_night_at_four_doors.md, 250 kbit/s, G = 4, NOFINAL and AUTOCLOSE clear as in that chapter. -/
def resetStraps : Straps := { bay := 3, rate := 1, size := 2, noFinal := false, autoClose := false }

end Sys2Proof.Config
end

