-- ==== Sys2Proof/Machine/State.lean ====
section
/-! DEFINITION. Every piece of state the manual gives the Pelzbar 410, as plain data, one structure for each block,
the replies of the bay port, and the state after reset. Values that a rule works out from other state (depth, O, free
spaces, the advised pallet, the output lines) are functions in the other files of this folder. -/

namespace Sys2Proof.Machine

/-! ## Named values -/

/-- The bay state (R19). -/
inductive BayState where
  | vacant | docked
  deriving DecidableEq, Repr

/-- The departure state while a trailer is docked (R138). -/
inductive DepState where
  | openBay | calling | waiting | closed
  deriving DecidableEq, Repr

/-- The tag of a deck entry (R2). -/
inductive Tag where
  | inbound | outbound
  deriving DecidableEq, Repr

/-- The direction of a deck fault (R1). -/
inductive FaultDir where
  | overflow | underflow
  deriving DecidableEq, Repr

/-- The mode of a running tip run (R24). -/
inductive TipMode where
  | counted | openEnded
  deriving DecidableEq, Repr

/-- Why a tip run ended (R24). -/
inductive TipReason where
  | count | ended | empty | abort
  deriving DecidableEq, Repr

/-- The source state of the Time Base (R44). -/
inductive ClockSource where
  | reference | fallback | returning
  deriving DecidableEq, Repr

/-- Why FALLBACK was entered (R48). -/
inductive FallbackCause where
  | badPulses | noPulse
  deriving DecidableEq, Repr

/-- The line state (R62). -/
inductive LineState where
  | detached | listening | joined | faulted
  deriving DecidableEq, Repr

/-- Why JOINED was entered (R67). -/
inductive JoinCause where
  | quiet | frames
  deriving DecidableEq, Repr

/-- The verdicts of offer evaluation, in the order that gives their codes (R63). -/
inductive Verdict where
  | accept | noTrailer | closing | stalled | wrongDepot | duplicate | loadedPast | tooLate | tableFull | full | heavy
  deriving DecidableEq, Repr

/-- The outcome of a sequence compare (R12). -/
inductive Compare where
  | openDeck | ahead | level | behind
  deriving DecidableEq, Repr

/-- The result of the admission test (R120). -/
inductive Admission where
  | noSpace | noMass | admitted
  deriving DecidableEq, Repr

/-- Whether a group closed full, short or empty (R99). -/
inductive GroupKind where
  | full | short | empty
  deriving DecidableEq, Repr

/-- The causes of an automatic start (R141). -/
inductive StartCause where
  | shutter | autocloseReady | autocloseCutoff
  deriving DecidableEq, Repr

/-- The causes of a CLOSED notice, in the order of the notice table of 9.3. -/
inductive CloseCause where
  | callEnd | waitEmpty | waitLimit | shutterOpened
  deriving DecidableEq, Repr

/-- The causes of a CALL_ABANDONED notice, in the order of the notice table of 9.3. -/
inductive AbandonCause where
  | shutter | link
  deriving DecidableEq, Repr

/-- The notice kinds, in the order that gives their codes (9.3). -/
inductive NoticeKind where
  | tipDone | orderCorrected | undeclared | deliver | parked | declined | astray | delivered | missed | strayReceipt
  | lateRelease | voided | ready | callAbandoned | closed | cutoffNear | cutoffReached | linkUp | linkDown
  | duplicateBay | errorsHalf | clockFallback | clockRestored | deckFault | overrun
  deriving DecidableEq, Repr

/-- The refusal codes, in the order that gives their codes (R155). -/
inductive RefusalCode where
  | busy | badFrame | unknown | badValue | notDocked | alreadyDocked | clockUnset | cutoffPassed | runActive | noRun
  | deckFull | deckEmpty | notAtRear | deckNotClear | sequence | notInLane | duplicate | wrongDepot | noSpace | tooHeavy
  | tooLate | tableFull | notClosed | laneNotEmpty | notFound | linkBusy
  deriving DecidableEq, Repr

/-- The 29 requests, in the order that gives their codes (R155). -/
inductive Request where
  | dock | declare | tipStart | tipOff | tipEnd | load | unloadBack | arrive | depart | withdraw | haltIntake
  | resumeIntake | close | reopen | setCutoff | setExpected | setClock | setNotices | readStatus | readNotice
  | readSummary | readDeck | readLane | readHolds | readTransfer | readDirectory | readCounters | clearBay | restartLink
  deriving DecidableEq, Repr

/-! ## The blocks -/

/-- An entry of the deck (R2); the rank and the receipt-owed mark belong to OUTBOUND entries. -/
structure DeckEntry where
  tag : Tag
  label : Nat
  depot : Nat
  mass : Nat
  rank : Option Nat
  owed : Bool
  deriving DecidableEq, Repr

/-- The Deck Stack (R1): the entries from the nose to the rear, and the fault status. The capacity it binds is the
docking record's. -/
structure Deck where
  entries : List DeckEntry
  fault : Option FaultDir
  deriving DecidableEq, Repr

/-- The docking record (R19). -/
structure Docking where
  drops : List Nat
  capacity : Nat
  payload : Nat
  handling : Nat
  expected : Nat
  cutoff : Nat
  deriving DecidableEq, Repr

/-- An entry of the Lane (R34). -/
structure LaneEntry where
  label : Nat
  depot : Nat
  rank : Nat
  mass : Nat
  origin : Nat
  unannounced : Bool
  owed : Bool
  deriving DecidableEq, Repr

/-- The Run Counter (R24): the mode while RUNNING, absent while IDLE. -/
structure RunCounter where
  mode : Option TipMode
  remaining : Option Nat
  tipped : Nat
  lastReason : TipReason
  deriving DecidableEq, Repr

/-- The Time Base (R44), with its measurements on the oscillator in microseconds (R45, R46). -/
structure TimeBase where
  source : ClockSource
  goodRun : Nat
  badRun : Nat
  seconds : Nat
  minute : Nat
  clockSet : Bool
  fallback : Nat
  warned : Bool
  m : Nat
  sincePulse : Option Nat
  silence : Nat
  sinceBoundary : Nat
  untilBoundary : Nat
  byOscillator : Bool
  deriving DecidableEq, Repr

/-- A frame waiting in the transmit queue, with the key it was queued with (R78); `onLine` marks the frame of the
present attempt (R69). -/
structure Queued where
  key : Nat
  body : Body
  onLine : Bool
  deriving DecidableEq, Repr

/-- The Floor Link Interface (R62). `beaconWaiting` is the replacement of R79 that waits for the end of the present
attempt, and `objection` says whether this station drove the objection slot of the frame last heard (R72). `quiet` is
the quiet timer: the microseconds known to have passed since it last started from 0, and absent while it has started
from 0 since the last command that the oscillator times (Log 49). -/
structure Link where
  line : LineState
  quiet : Option Nat
  valid : Nat
  queue : List Queued
  failures : Nat
  errors : Nat
  half : Bool
  fails : Nat
  held : Bool
  rejoin : Option Nat
  duplicate : Bool
  badStrap : Bool
  beaconWaiting : Bool
  objection : Bool
  deriving DecidableEq, Repr

/-- An entry of the Route Directory (R87). -/
structure DirEntry where
  bay : Nat
  bayState : BayState
  departure : Option DepState
  drops : List Nat
  minutes : Nat
  since : Nat
  urgency : Nat
  free : Nat
  interval : Nat
  stamp : Nat
  unreachable : Option Nat
  deriving DecidableEq, Repr

/-- The beaconed fields that are compared with the last beacon (R85). -/
structure BeaconContent where
  bayState : BayState
  departure : Option DepState
  drops : List Nat
  free : Nat
  urgency : Nat
  deriving DecidableEq, Repr

/-- The Route Directory: its entries in bay order, the change count (R87), and the own beacon's interval, timer and
last content (R85, R86). -/
structure Directory where
  entries : List DirEntry
  changes : Nat
  interval : Nat
  timer : Option Nat
  last : BeaconContent
  deriving DecidableEq, Repr

/-- A record of a declined set (R97, R108): the bay, and its content stamp where it had an entry. -/
structure DeclineRecord where
  bay : Nat
  stamp : Option Nat
  deriving DecidableEq, Repr

/-- The answer timer of an OFFERED entry (R97): seconds left, or expired while a resend waits. -/
inductive AnswerTimer where
  | left (seconds : Nat)
  | expired
  deriving DecidableEq, Repr

/-- The state of a transfer entry, with the fields present in that state (R97). The travel timer is absent when it
has run out. -/
inductive TransferState where
  | parked
  | queued (target : Nat)
  | offered (target group sends : Nat) (timer : AnswerTimer)
  | accepted (target : Nat) (travel : Option Nat)
  deriving DecidableEq, Repr

/-- An entry of the Transfer Table (R97). -/
structure TransferEntry where
  label : Nat
  depot : Nat
  mass : Nat
  state : TransferState
  astray : Bool
  declined : List DeclineRecord
  deriving DecidableEq, Repr

/-- An open group (R99). -/
structure OpenGroup where
  target : Nat
  members : List Nat
  timer : Nat
  deriving DecidableEq, Repr

/-- A closed group of the send list (R99). `number` is absent only while the group is pending without one (R106). -/
structure ClosedGroup where
  target : Nat
  number : Option Nat
  members : List Nat
  kind : GroupKind
  resend : Bool
  inQueue : Bool
  pending : Bool
  deriving DecidableEq, Repr

/-- The last-closed record of a target (R99). -/
structure LastClosed where
  number : Nat
  full : Bool
  deriving DecidableEq, Repr

/-- What the Offer Assembler keeps for a target (R99); a target with no record has counter 0 and no last-closed
record. -/
structure TargetRecord where
  bay : Nat
  next : Nat
  last : Option LastClosed
  deriving DecidableEq, Repr

/-- The Offer Assembler (R99). The waiting entries are the QUEUED entries that belong to no group (Log 33). -/
structure Assembler where
  openGroups : List OpenGroup
  sendList : List ClosedGroup
  targets : List TargetRecord
  deriving DecidableEq, Repr

/-- A hold (R118); depot and rank are absent on a reconciliation hold (R146). -/
structure Hold where
  label : Nat
  depot : Option Nat
  rank : Option Nat
  mass : Nat
  origin : Nat
  minute : Nat
  deriving DecidableEq, Repr

/-- The number kept for an origin (R119). -/
structure KeptNumber where
  bay : Nat
  number : Nat
  deriving DecidableEq, Repr

/-- The Hold Table with the owing list, in bay order, and the numbers kept (R118, R119). -/
structure HoldTable where
  holds : List Hold
  owing : List Nat
  kept : List KeptNumber
  deriving DecidableEq, Repr

/-- A record of the named set (R138). -/
structure NamedRecord where
  label : Nat
  bay : Nat
  deriving DecidableEq, Repr

/-- Departure Control (R138). `ready` and `autoWas` are READY and the AUTOCLOSE READY condition as last worked out
(R139, R141); `retry` says that a pending start is to be tested at this second boundary (R141). -/
structure Departure where
  state : Option DepState
  callNumber : Nat
  window : Option Nat
  named : List NamedRecord
  allowance : Option Nat
  startPending : List StartCause
  doneOwed : Bool
  lamp : Bool
  halt : Bool
  ready : Bool
  autoWas : Bool
  retry : Bool
  deriving DecidableEq, Repr

/-- A notice record (R158). -/
structure Notice where
  kind : NoticeKind
  minute : Nat
  second : Nat
  param1 : Nat
  param2 : Nat
  deriving DecidableEq, Repr

/-- The notice side of the Bay Port (R158 to R162, R108). -/
structure Notices where
  queue : List Notice
  summary : FlagWord
  mask : FlagWord
  mode : DeclineMode
  marks : List Nat
  deriving DecidableEq, Repr

/-- The levels of the reset pin and of the qualified shutter-closed line (R164, R167). -/
structure Pins where
  resetHeld : Bool
  shutter : Bool
  deriving DecidableEq, Repr

/-! ## Replies of the bay port -/

/-- The snapshot READ STATUS returns, block by block (R156). -/
structure Status where
  bay : BayState
  docking : Option Docking
  free : Nat
  beaconedFree : Nat
  depth : Nat
  outbound : Nat
  outboundMass : Nat
  rearRank : Option Nat
  deckFault : Option FaultDir
  run : RunCounter
  source : ClockSource
  goodRun : Nat
  clockSet : Bool
  minute : Nat
  seconds : Nat
  fallback : Nat
  margin : Nat
  m : Nat
  urgency : Nat
  lastUrgency : Nat
  departure : Option DepState
  callNumber : Nat
  windowLeft : Option Nat
  namedCount : Nat
  allowance : Option Nat
  waitLimit : Option Nat
  startPending : List StartCause
  doneOwed : Bool
  lamp : Bool
  ready : Bool
  halt : Bool
  line : LineState
  queued : Nat
  failures : Nat
  half : Bool
  duplicate : Bool
  badStrap : Bool
  notices : Nat
  overrun : Bool
  mask : FlagWord
  mode : DeclineMode
  straps : Straps
  deriving DecidableEq, Repr

/-- What READ HOLDS returns after the holds (R136). -/
structure Budget where
  outbound : Nat
  lane : Nat
  holds : Nat
  free : Nat
  beaconedFree : Nat
  outboundMass : Nat
  laneMass : Nat
  heldMass : Nat
  capacity : Option Nat
  payload : Option Nat
  spare : Option Nat
  deriving DecidableEq, Repr

/-- What READ COUNTERS returns (R77, R157). -/
structure Counters where
  errors : Nat
  half : Bool
  fails : Nat
  held : Bool
  line : LineState
  queued : Nat
  queuedLow : Nat
  failures : Nat
  deriving DecidableEq, Repr

/-- An entry as READ DIRECTORY returns it: the entry and this door's entries QUEUED or OFFERED toward it (R95). -/
structure DirLine where
  entry : DirEntry
  pledged : Nat
  deriving DecidableEq, Repr

/-- The data of a reply, in the order of the request's description (9.7). -/
inductive ReplyData where
  | none
  | dock (m urgency payload handling expected : Nat)
  | depth (depth : Nat)
  | tipStart (mode : TipMode) (remaining : Option Nat)
  | tipOff (toLane : Bool) (target : Option Nat) (running : Bool) (remaining : Option Nat) (tipped : Nat)
  | tipEnd (tipped : Nat)
  | load (outcome : Compare) (depth urgency : Nat)
  | unloadBack (label depth urgency : Nat)
  | arrive (held : Bool) (origin lane : Nat) (receiptQueued mismatch : Bool)
  | depart (abandoned urgency : Nat)
  | withdraw (state : TransferState)
  | intake (halt : Bool) (free : Nat)
  | closing (departure : Option DepState) (callNumber : Nat)
  | setCutoff (m : Nat)
  | setExpected (expected urgency : Nat)
  | setClock (minute m : Nat) (source : ClockSource)
  | setNotices (mask : FlagWord) (mode : DeclineMode)
  | status (s : Status)
  | notice (record : Option Notice)
  | summary (word : FlagWord)
  | deck (depth : Nat) (capacity : Option Nat) (position : Option Nat) (entry : Option DeckEntry) (fault : Option FaultDir)
  | lane (entries : List LaneEntry) (advice : Option LaneEntry)
  | holds (holds : List Hold) (owing : List Nat) (halt : Bool) (budget : Budget)
  | transfer (entries : List TransferEntry) (openGroups : List OpenGroup) (waiting : List Nat)
      (sendList : List ClosedGroup) (targets : List TargetRecord)
  | directory (lines : List DirLine) (interval : Nat) (timerRuns : Bool) (last : BeaconContent)
  | counters (c : Counters)
  | clearBay (line : LineState) (urgency : Nat)
  | restartLink (line : LineState) (flushed : Nat)
  | busy (count : Nat)
  deriving DecidableEq, Repr

/-- Whether a request was taken or refused (R154). -/
inductive Answer where
  | ok (request : Request) (data : ReplyData)
  | refused (code : RefusalCode) (data : ReplyData)
  deriving DecidableEq, Repr

/-- A reply (R154, R155): the sequence number, the answer and the number of notices queued. -/
structure Reply where
  seq : Nat
  answer : Answer
  notices : Nat
  deriving DecidableEq, Repr

/-- A record of the busy list (R154). -/
structure BusyRecord where
  seq : Nat
  count : Nat
  deriving DecidableEq, Repr

/-- The request side of the Bay Port (R154): the request-in-progress flag, the busy list, and the reply being sent. -/
structure Port where
  inProgress : Bool
  busy : List BusyRecord
  reply : Option Reply
  deriving DecidableEq, Repr

/-! ## The machine -/

/-- One controller: every block, and the commands that wait (first in, first out). -/
structure State where
  pins : Pins
  straps : Straps
  port : Port
  notes : Notices
  docking : Option Docking
  deck : Deck
  lane : List LaneEntry
  run : RunCounter
  time : TimeBase
  urgency : Nat
  link : Link
  dir : Directory
  table : List TransferEntry
  asm : Assembler
  store : HoldTable
  dep : Departure
  pending : List Instr
  deriving DecidableEq, Repr

/-- The reasons a step can stop with a fault: none. The manual describes no event that stops the controller, so this
type has no constructor, and a model that claims a fault claims too much (safe). -/
inductive Fault where
  deriving DecidableEq, Repr

/-- The reasons a step can be refused. -/
inductive Refusal where
  /-- Raised by `exec` for a command whose meaning is not written yet (safe: nothing is claimed of it). No arm of this
  model raises it. -/
  | notModelled (mnemonic : String)
  deriving DecidableEq, Repr

/-! ## Power-on values -/

/-- The enable mask with every kind enabled: bits 0 to 24 (R162, 9.7). -/
def allKinds : FlagWord := 33554431

/-- Whether a bay number strap is valid (R65, R163). -/
def strapValid (p : Straps) : Bool := decide (1 ≤ p.bay ∧ p.bay ≤ 60)

/-- The last beaconed content at power-on (R96). -/
def BeaconContent.initial : BeaconContent :=
  { bayState := .vacant, departure := none, drops := [], free := 0, urgency := 0 }

/-- The Notice Queue, summary word, mask, mode and marks at power-on and at CLEAR BAY (R168). -/
def Notices.initial : Notices := { queue := [], summary := 0, mask := allKinds, mode := .first, marks := [] }

/-- The Time Base at power-on (R61). -/
def TimeBase.initial : TimeBase :=
  { source := .returning, goodRun := 0, badRun := 0, seconds := 0, minute := 0, clockSet := false, fallback := 0,
    warned := false, m := 0, sincePulse := none, silence := 0, sinceBoundary := 0, untilBoundary := Config.second,
    byOscillator := true }

/-- The Floor Link Interface at power-on and at CLEAR BAY: through DETACHED to LISTENING where the strap is valid
(R65, R83). -/
def Link.initial (p : Straps) : Link :=
  { line := if strapValid p then .listening else .detached, quiet := some 0, valid := 0, queue := [], failures := 0,
    errors := 0, half := false, fails := 0, held := false, rejoin := none, duplicate := false,
    badStrap := !strapValid p, beaconWaiting := false, objection := false }

/-- The Route Directory at power-on and at CLEAR BAY (R96). -/
def Directory.initial : Directory :=
  { entries := [], changes := 0, interval := 4, timer := none, last := BeaconContent.initial }

/-- Departure Control at power-on and at CLEAR BAY (R153). -/
def Departure.initial : Departure :=
  { state := none, callNumber := 0, window := none, named := [], allowance := none, startPending := [],
    doneOwed := false, lamp := false, halt := false, ready := false, autoWas := false, retry := false }

/-- Every block's power-on state, for the straps sampled and the shutter level found (R163, R164, R167); the commands
that wait are the model's own and stay. -/
def State.powerOn (p : Straps) (shutter : Bool) (pending : List Instr) : State :=
  { pins := { resetHeld := false, shutter := shutter }
    straps := p
    port := { inProgress := false, busy := [], reply := none }
    notes := Notices.initial
    docking := none
    deck := { entries := [], fault := none }
    lane := []
    run := { mode := none, remaining := some 0, tipped := 0, lastReason := .abort }
    time := TimeBase.initial
    urgency := 0
    link := Link.initial p
    dir := Directory.initial
    table := []
    asm := { openGroups := [], sendList := [], targets := [] }
    store := { holds := [], owing := [], kept := [] }
    dep := Departure.initial
    pending := pending }

/-- The machine right after power-on (R167), with the straps and the shutter level of Log 1 and no command waiting. -/
def State.reset : State := State.powerOn Config.resetStraps false []

end Sys2Proof.Machine
end

