-- ==== Sys2Proof/Machine/Operands.lean ====
section
/-! DEFINITION. The operand forms of the commands: the ranges a request or a frame must lie in, the values that are
clamped, and the codes of named lists (spec/00_scope.md Conventions, spec/09_the_bay_port.md 9.7). -/

namespace Sys2Proof.Machine

/-! ## Ranges and clamps -/

/-- A depot code of 1..999. -/
def depotOk (d : Nat) : Bool := decide (1 ≤ d ∧ d ≤ 999)

/-- A bay number of 1..60. -/
def bayOk (b : Nat) : Bool := decide (1 ≤ b ∧ b ≤ 60)

/-- A minute of day of 0..1439. -/
def minuteOk (k : Nat) : Bool := decide (k ≤ 1439)

/-- No value twice in a list. -/
def distinct : List Nat → Bool
  | [] => true
  | x :: xs => !xs.contains x && distinct xs

/-- A value brought into lo..hi. -/
def clamp (lo hi x : Nat) : Nat := max lo (min hi x)

/-- A mass above 120 is clamped to 120 (R23, R28, R122, R130). -/
def clampMass (m : Nat) : Nat := min m Config.greatestMass

/-- A drop list of at most 3 distinct codes of 1..999 (R20). -/
def dropsOk (ds : List Nat) : Bool := decide (ds.length ≤ 3) && ds.all depotOk && distinct ds

/-- The drop rank of a depot: its position on the drop list, counted from 1 (R2). -/
def rankOf (drops : List Nat) (depot : Nat) : Option Nat :=
  match drops with
  | [] => none
  | d :: ds => if d = depot then some 1 else (rankOf ds depot).map (· + 1)

/-- The offer group size G of a group size code (R163). -/
def groupSize (p : Straps) : Nat := 2 ^ p.size

/-- The link rate of a link rate code, in kbit/s; the fourth code selects 250 (R62, R163). -/
def linkRate (p : Straps) : Nat :=
  match p.rate with
  | 0 => 125
  | 2 => 500
  | _ => 250

/-! ## Codes of named lists: the position in the list as the manual first gives it, counting from 1 (9.7, Log 20) -/

/-- The code of a bay state. -/
def BayState.code : BayState → Nat
  | .vacant => 1
  | .docked => 2

/-- The bay state of a code; a code of neither names none. -/
def BayState.ofCode : Nat → Option BayState
  | 1 => some .vacant
  | 2 => some .docked
  | _ => none

/-- The code of a departure state. -/
def DepState.code : DepState → Nat
  | .openBay => 1
  | .calling => 2
  | .waiting => 3
  | .closed => 4

/-- The departure state a code carries: the outer option is absent where the code names nothing, the inner where the
state is absent (code 0). -/
def DepState.ofCode : Nat → Option (Option DepState)
  | 0 => some none
  | 1 => some (some .openBay)
  | 2 => some (some .calling)
  | 3 => some (some .waiting)
  | 4 => some (some .closed)
  | _ => none

/-- The code of a verdict: ACCEPT is 1 and HEAVY 11. -/
def Verdict.code : Verdict → Nat
  | .accept => 1
  | .noTrailer => 2
  | .closing => 3
  | .stalled => 4
  | .wrongDepot => 5
  | .duplicate => 6
  | .loadedPast => 7
  | .tooLate => 8
  | .tableFull => 9
  | .full => 10
  | .heavy => 11

/-- The verdict of a code, where it is one of the eleven (R107). -/
def Verdict.ofCode : Nat → Option Verdict
  | 1 => some .accept
  | 2 => some .noTrailer
  | 3 => some .closing
  | 4 => some .stalled
  | 5 => some .wrongDepot
  | 6 => some .duplicate
  | 7 => some .loadedPast
  | 8 => some .tooLate
  | 9 => some .tableFull
  | 10 => some .full
  | 11 => some .heavy
  | _ => none

/-- The code of a tip run's termination reason, in the order of R24. -/
def TipReason.code : TipReason → Nat
  | .count => 1
  | .ended => 2
  | .empty => 3
  | .abort => 4

/-- The code of a deck fault's direction, in the order of R1. -/
def FaultDir.code : FaultDir → Nat
  | .overflow => 1
  | .underflow => 2

/-- The code of a line state, in the order of R62. -/
def LineState.code : LineState → Nat
  | .detached => 1
  | .listening => 2
  | .joined => 3
  | .faulted => 4

/-- The code of a cause of joining, in the order of R67. -/
def JoinCause.code : JoinCause → Nat
  | .quiet => 1
  | .frames => 2

/-- The code of a cause of FALLBACK, in the order of R48. -/
def FallbackCause.code : FallbackCause → Nat
  | .badPulses => 1
  | .noPulse => 2

/-- The code of a cause of CLOSED, in the order of the notice table of 9.3. -/
def CloseCause.code : CloseCause → Nat
  | .callEnd => 1
  | .waitEmpty => 2
  | .waitLimit => 3
  | .shutterOpened => 4

/-- The code of a cause of CALL_ABANDONED, in the order of the notice table of 9.3. -/
def AbandonCause.code : AbandonCause → Nat
  | .shutter => 1
  | .link => 2

/-- A parameter of two parts: the first part in the third byte and the second in the fourth (9.7). -/
def twoParts (a b : Nat) : Nat := a * 256 + b

end Sys2Proof.Machine

namespace Sys2Proof

/-! ## Frames -/

/-- The code of a frame kind (9.7). -/
def FrameKind.code : FrameKind → Nat
  | .beacon => 1
  | .offer => 2
  | .answer => 3
  | .release => 4
  | .receipt => 5
  | .call => 6
  | .hold => 7
  | .done => 8

/-- The kind of a payload. -/
def Body.kind : Body → FrameKind
  | .beacon _ => .beacon
  | .offer _ => .offer
  | .answer _ => .answer
  | .release _ => .release
  | .receipt _ => .receipt
  | .call _ => .call
  | .hold _ => .hold
  | .done _ => .done

/-- The class of a frame kind (R59). -/
def FrameKind.cls : FrameKind → Nat
  | .receipt => 0
  | .call => 0
  | .hold => 0
  | .done => 0
  | .answer => 1
  | .release => 1
  | .offer => 2
  | .beacon => 3

/-- The bay a payload names as its sender: the first field of its kind (R63). -/
def Body.sender : Body → Nat
  | .beacon m => m.bay
  | .offer m => m.origin
  | .answer m => m.target
  | .release m => m.origin
  | .receipt m => m.bay
  | .call m => m.bay
  | .hold m => m.bay
  | .done m => m.bay

/-- The payload length of a kind for the counts it carries (R63). -/
def Body.length : Body → Nat
  | .beacon m => 8 + 2 * m.drops.length
  | .offer m => 5 + 7 * m.items.length
  | .answer m => 4 + 5 * m.items.length
  | .release _ => 6
  | .receipt _ => 6
  | .call _ => 2
  | .hold m => 4 + 4 * m.labels.length
  | .done _ => 1

end Sys2Proof

namespace Sys2Proof.Machine

/-- The class a key carries (R59). -/
def keyClass (key : Nat) : Nat := key / 16384

/-- The sending bay a key carries (R59). -/
def keyBay (key : Nat) : Nat := key % 64

/-- The tests of framing of R63 that concern the fields of a whole frame: a payload of at most 64 bytes, the class of
the kind in the key, a sending bay of 1..60, and the same bay in the payload. -/
def framingOk (key : Nat) (b : Body) : Bool :=
  decide (b.length ≤ 64 ∧ keyClass key = b.kind.cls ∧ keyBay key = b.sender) && bayOk (keyBay key)

end Sys2Proof.Machine
end

