-- ==== Sys2Proof/Machine/Flags.lean ====
section
/-! DEFINITION. The flags of the summary word and the enable mask, the raising of a notice and its place in the queue
(R158, R159), and the output lines that are worked out from the state (R160, R164, R167). -/

namespace Sys2Proof.Machine

/-- The code of a notice kind: its position in the table of 9.3, counting from 1. -/
def NoticeKind.code : NoticeKind → Nat
  | .tipDone => 1
  | .orderCorrected => 2
  | .undeclared => 3
  | .deliver => 4
  | .parked => 5
  | .declined => 6
  | .astray => 7
  | .delivered => 8
  | .missed => 9
  | .strayReceipt => 10
  | .lateRelease => 11
  | .voided => 12
  | .ready => 13
  | .callAbandoned => 14
  | .closed => 15
  | .cutoffNear => 16
  | .cutoffReached => 17
  | .linkUp => 18
  | .linkDown => 19
  | .duplicateBay => 20
  | .errorsHalf => 21
  | .clockFallback => 22
  | .clockRestored => 23
  | .deckFault => 24
  | .overrun => 25

/-- The flag of a kind: bit code − 1 of the word (9.7). -/
def NoticeKind.flag (k : NoticeKind) : FlagWord := BitVec.ofNat 32 (2 ^ (k.code - 1))

/-- Whether a word has a kind's flag set. -/
def hasFlag (w : FlagWord) (k : NoticeKind) : Bool := w &&& k.flag != 0

/-- Whether an OVERRUN record stands in the queue (R159). -/
def hasOverrun (q : List Notice) : Bool := q.any (fun r => r.kind == .overrun)

/-- The OVERRUN record with its count risen by 1, stopping at 65,535 (R159). -/
def bumpOverrun (q : List Notice) : List Notice :=
  q.map (fun r => if r.kind = .overrun then { r with param2 := min 65535 (r.param2 + 1) } else r)

/-- Latching a kind's flag in the summary word (R158). -/
def Notices.latch (n : Notices) (k : NoticeKind) : Notices := { n with summary := n.summary ||| k.flag }

/-- A record placed in the queue (R159): it joins the end, or is discarded and counted in the OVERRUN record. -/
def Notices.place (n : Notices) (r : Notice) : Notices :=
  if n.queue.length < Config.noticeSlots ∨ (n.queue.length = Config.noticeSlots ∧ hasOverrun n.queue) then
    { n with queue := n.queue ++ [r] }
  else if n.queue.length = Config.noticeSlots then
    { n with queue := n.queue ++ [{ r with kind := .overrun, param1 := r.kind.code, param2 := 1 }] }.latch .overrun
  else
    { n with queue := bumpOverrun n.queue }

/-- Raising a notice (R158): the flag is latched, and an enabled kind makes a record with T and the seconds. -/
def raise (k : NoticeKind) (param1 param2 : Nat) (s : State) : State :=
  let n := s.notes.latch k
  { s with notes :=
      if hasFlag n.mask k then
        n.place { kind := k, minute := s.time.minute, second := s.time.seconds, param1 := param1, param2 := param2 }
      else n }

/-! ## Output lines -/

/-- The attention line is active while the queue holds a record, and not while the reset pin is held (R160, R167). -/
def attention (s : State) : Bool := !s.pins.resetHeld && !s.notes.queue.isEmpty

/-- The ready-to-depart lamp output (R164, R167). -/
def lampOutput (s : State) : Bool := !s.pins.resetHeld && s.dep.lamp

/-- Whether the link transmitter is on (4.2, R167). -/
def transmitterOn (s : State) : Bool := !s.pins.resetHeld && s.link.line == .joined

/-- Whether this station drives the objection slot of a frame it finds bad (R72). -/
def objects (s : State) : Bool := (s.link.line == .listening || s.link.line == .joined) && !s.link.half

end Sys2Proof.Machine
end

