-- ==== Sys2Proof/Machine/Ops.lean ====
section
/-! DEFINITION. The shared operations over the blocks that every family of commands uses: the deck as a stack (chapter
1), the lane's advice (R36), the budget and the admission test (R120), the arithmetic of time and urgency (R52, R53,
R57, R60), the precedence key (R59), the transmit queue (R78, R79), the own beacon (R84, R85) and owed RECEIPTs (R133). -/

namespace Sys2Proof.Machine

/-! ## The deck -/

/-- The number of INBOUND entries (R5): the depth while the deck holds them, since the tags never mix (R16). -/
def inboundCount (d : Deck) : Nat := (d.entries.filter (fun e => e.tag == .inbound)).length

/-- The OUTBOUND count O (R5). -/
def outboundCount (d : Deck) : Nat := (d.entries.filter (fun e => e.tag == .outbound)).length

/-- The OUTBOUND mass (R5). -/
def outboundMass (d : Deck) : Nat := ((d.entries.filter (fun e => e.tag == .outbound)).map (·.mass)).sum

/-- The rear rank: the drop rank of the rear entry while it is OUTBOUND (R5). -/
def rearRank (d : Deck) : Option Nat :=
  match d.entries.getLast? with
  | some e => if e.tag = .outbound then e.rank else none
  | none => none

/-- The sequence compare of a candidate rank with the rear rank (R12). -/
def compareRank (d : Deck) (rank : Nat) : Compare :=
  match rearRank d with
  | none => .openDeck
  | some r => if rank < r then .ahead else if rank = r then .level else .behind

/-- The result of a push (R6). -/
inductive PushResult where
  | mixed
  | full
  | placed (d : Deck)
  deriving DecidableEq, Repr

/-- A push at the rear of a deck of capacity C (R6). -/
def pushDeck (capacity : Nat) (e : DeckEntry) (d : Deck) : PushResult :=
  if d.entries.any (fun x => x.tag != e.tag) then .mixed
  else if capacity ≤ d.entries.length then .full
  else .placed { d with entries := d.entries ++ [e] }

/-- The entry that carries a label, with its inward count from the rear (R4). -/
def examineLabel (d : Deck) (label : Nat) : Option (Nat × DeckEntry) :=
  match d.entries.findIdx? (fun e => e.label == label) with
  | none => none
  | some i => (d.entries[i]?).map (fun e => (d.entries.length - 1 - i, e))

/-- The exchange of the rear entry with the entry at an inward count (R10). -/
def exchangeRear (depth : Nat) (es : List DeckEntry) : List DeckEntry :=
  match es[es.length - 1]?, es[es.length - 1 - depth]? with
  | some rear, some e => (es.set (es.length - 1) e).set (es.length - 1 - depth) rear
  | _, _ => es

/-- Recording a deck fault (R14): flag and direction set, and DECK_FAULT raised with the direction and the depth. -/
def recordFault (dir : FaultDir) (s : State) : State :=
  raise .deckFault dir.code s.deck.entries.length { s with deck := { s.deck with fault := some dir } }

/-- The receipt-owed mark of the OUTBOUND deck entry of a label (R7): an INBOUND entry has no mark (R2). -/
def setDeckOwed (label : Nat) (owed : Bool) (d : Deck) : Deck :=
  { d with entries := d.entries.map (fun e =>
      if e.label = label ∧ e.tag = .outbound then { e with owed := owed } else e) }

/-! ## The lane -/

/-- The receipt-owed mark of the lane entry of a label. -/
def setLaneOwed (label : Nat) (owed : Bool) (lane : List LaneEntry) : List LaneEntry :=
  lane.map (fun e => if e.label = label then { e with owed := owed } else e)

/-- The advised next pallet: the highest rank, and among equal ranks the oldest (R36). -/
def advised : List LaneEntry → Option LaneEntry
  | [] => none
  | e :: es =>
    match advised es with
    | none => some e
    | some a => if a.rank ≤ e.rank then some e else some a

/-- The lane mass. -/
def laneMass (lane : List LaneEntry) : Nat := (lane.map (·.mass)).sum

/-! ## The budget -/

/-- The held mass. -/
def heldMass (holds : List Hold) : Nat := (holds.map (·.mass)).sum

/-- O plus the lane entries plus the holds (R120). -/
def usedSpaces (s : State) : Nat := outboundCount s.deck + s.lane.length + s.store.holds.length

/-- The OUTBOUND mass plus the lane mass plus the held mass (R120). -/
def usedMass (s : State) : Nat := outboundMass s.deck + laneMass s.lane + heldMass s.store.holds

/-- The door's free spaces (R19). -/
def freeSpaces (s : State) : Nat :=
  match s.docking with
  | none => 0
  | some d => d.capacity - usedSpaces s

/-- The beaconed free spaces: 0 while the intake is halted (R84). -/
def beaconedFree (s : State) : Nat := if s.dep.halt then 0 else freeSpaces s

/-- The admission test for a further pallet (R120); while VACANT it is not reached. -/
def admission (mass : Nat) (s : State) : Admission :=
  match s.docking with
  | none => .noSpace
  | some d =>
    if d.capacity ≤ usedSpaces s then .noSpace
    else if d.payload < usedMass s + mass then .noMass
    else .admitted

/-- The docked trailer's drop list, empty while VACANT. -/
def dropList (s : State) : List Nat :=
  match s.docking with
  | none => []
  | some d => d.drops

/-- The bay state (R19): DOCKED while there is a docking record. -/
def bayState (s : State) : BayState := if s.docking.isSome then .docked else .vacant

/-- A label on the deck. -/
def onDeck (s : State) (label : Nat) : Bool := s.deck.entries.any (fun e => e.label == label)
/-- A label in the lane. -/
def inLane (s : State) (label : Nat) : Bool := s.lane.any (fun e => e.label == label)
/-- A label in the Hold Table. -/
def inHolds (s : State) (label : Nat) : Bool := s.store.holds.any (fun e => e.label == label)
/-- A label in the Transfer Table. -/
def inTable (s : State) (label : Nat) : Bool := s.table.any (fun e => e.label == label)

/-! ## Time and urgency -/

/-- The raw minutes to cutoff (R52). -/
def rawMinutes (t k : Nat) : Nat :=
  let d := (k + 1440 - t) % 1440
  if d = 0 ∨ 720 < d then 0 else d

/-- The fallback margin (R53). -/
def margin (tb : TimeBase) : Nat := if tb.source = .reference then 0 else min 15 (1 + tb.fallback / 10)

/-- The effective minutes to a cutoff (R53). -/
def effectiveMinutes (tb : TimeBase) (k : Nat) : Nat := rawMinutes tb.minute k - margin tb

/-- The urgency of a docked door (R57). -/
def urgencyFor (m expected outbound handling : Nat) : Nat :=
  let n := expected - outbound
  let w := handling * n
  if n = 0 then 0
  else if 60 * m ≤ w then 255
  else min 254 (7680 / ((60 * m - w) / 60 + 30))

/-- The own urgency as it stands to be (R57): 0 while VACANT. -/
def urgencyNow (s : State) : Nat :=
  match s.docking with
  | none => 0
  | some d => urgencyFor s.time.m d.expected (outboundCount s.deck) d.handling

/-- A significant change of urgency (R58). -/
def significant (a b : Nat) : Bool :=
  decide (a + 16 ≤ b ∨ b + 16 ≤ a) || decide (a = 0) != decide (b = 0) || decide (a = 255) != decide (b = 255)

/-- The transit estimate between two bays, in minutes (R60). -/
def transit (a b : Nat) : Nat := 2 + (max a b - min a b) / 6

/-- The precedence key (R59). -/
def precedenceKey (cls urgency bay : Nat) : Nat := cls * 16384 + (255 - urgency) * 64 + bay

/-! ## The transmit queue -/

/-- The directory entry of a bay. -/
def dirEntry (s : State) (bay : Nat) : Option DirEntry := s.dir.entries.find? (fun e => e.bay == bay)

/-- The urgency a frame's key uses (R59): for an OFFER the target's as the directory holds it, or 0 with no entry, and
for every other kind the own. -/
def usedUrgency (s : State) : Body → Nat
  | .offer m => ((dirEntry s m.target).map (·.urgency)).getD 0
  | _ => s.urgency

/-- The key of a frame handed to the queue now (R59). -/
def keyFor (s : State) (b : Body) : Nat := precedenceKey b.kind.cls (usedUrgency s b) s.straps.bay

/-- A frame put in key order, after the frames of equal key (R78). -/
def insertQueued (f : Queued) : List Queued → List Queued
  | [] => [f]
  | g :: gs => if f.key < g.key then f :: g :: gs else g :: insertQueued f gs

/-- The frames of class 2 or 3 in a queue (R78). -/
def lowCount (q : List Queued) : Nat := (q.filter (fun f => decide (2 ≤ f.body.kind.cls))).length

/-- Room for a frame of a class (R79): 16 slots in all, of which classes 2 and 3 may fill 12. -/
def hasRoom (cls : Nat) (q : List Queued) : Bool :=
  decide (q.length < Config.queueSlots) && (decide (cls < 2) || decide (lowCount q < Config.offerSlots))

/-- A queue placed in the Floor Link Interface. -/
def setQueue (q : List Queued) (s : State) : State := { s with link := { s.link with queue := q } }

/-- A frame handed to the queue (R79): placed with its key where it finds room, and the producer told. A BEACON goes
by `placeBeacon`. -/
def handFrame (b : Body) (s : State) : Option State :=
  if hasRoom b.kind.cls s.link.queue then
    some (setQueue (insertQueued { key := keyFor s b, body := b, onLine := false } s.link.queue) s)
  else none

/-- A frame handed to the queue by a producer that lets it go where there is no room (R80). -/
def handOrDrop (b : Body) (s : State) : State := (handFrame b s).getD s

/-! ## The own beacon -/

/-- The beaconed fields as they stand (R84, R85). -/
def contentNow (s : State) : BeaconContent :=
  match s.docking with
  | none => { bayState := .vacant, departure := none, drops := [], free := 0, urgency := 0 }
  | some d =>
    { bayState := .docked, departure := s.dep.state, drops := d.drops, free := beaconedFree s, urgency := s.urgency }

/-- The BEACON built of the values that stand (R84). -/
def buildBeacon (s : State) : BeaconMsg :=
  let c := contentNow s
  { bay := s.straps.bay
    bayCode := c.bayState.code
    depCode := (c.departure.map DepState.code).getD 0
    drops := c.drops
    minutes := if s.docking.isSome then s.time.m else 0
    urgency := c.urgency
    free := c.free
    interval := s.dir.interval }

/-- Whether a queued frame is a BEACON. -/
def isBeacon (f : Queued) : Bool := f.body.kind == .beacon

/-- The last beaconed content taken from the values that stand (R85). -/
def noteBeaconed (s : State) : State := { s with dir := { s.dir with last := contentNow s } }

/-- The own beacon put in the queue at its place in key order. -/
def queueBeacon (q : List Queued) (s : State) : State :=
  let b := Body.beacon (buildBeacon s)
  noteBeaconed (setQueue (insertQueued { key := keyFor s b, body := b, onLine := false } q) s)

/-- A BEACON handed to the queue (R79): it takes the slot of the queued one, or waits for the end of that one's
attempt, or needs room as an OFFER does; whether it was placed is told. -/
def placeBeacon (s : State) : State × Bool :=
  match s.link.queue.find? isBeacon with
  | some f =>
    if f.onLine then (noteBeaconed { s with link := { s.link with beaconWaiting := true } }, true)
    else (queueBeacon (s.link.queue.filter (fun g => !isBeacon g)) s, true)
  | none => if hasRoom 3 s.link.queue then (queueBeacon s.link.queue s, true) else (s, false)

/-- The beacon timer restarted at a value, where it runs: while the line state is JOINED (R86). -/
def restartBeaconTimer (n : Nat) (s : State) : State :=
  { s with dir := { s.dir with timer := if s.link.line = .joined then some n else none } }

/-- A beaconed change (R85): the interval is set to 4 s, a beacon is handed to the queue and the timer restarts. -/
def beaconedChange (s : State) : State :=
  restartBeaconTimer 4 (placeBeacon { s with dir := { s.dir with interval := 4 } }).1

/-- Whether a new value that is handed over, `new` where `old` stood, differs from the last beaconed one (R85). -/
def newsOf (old new last : BeaconContent) : Bool :=
  (new.bayState != old.bayState && new.bayState != last.bayState)
    || (new.departure != old.departure && new.departure != last.departure)
    || (new.drops != old.drops && new.drops != last.drops)
    || (new.free != old.free && new.free != last.free)

/-- The beaconed fields that changed since `before` handed to the Route Directory (R85). -/
def announce (before s : State) : State :=
  if newsOf (contentNow before) (contentNow s) s.dir.last then beaconedChange s else s

/-- The beaconed free spaces handed over as they stand (R85, R127, R128): a beaconed change where they differ from the
last beaconed ones. -/
def handFree (s : State) : State := if (contentNow s).free = s.dir.last.free then s else beaconedChange s

/-- U recomputed and compared with the last beaconed U (R58). -/
def recomputeUrgency (s : State) : State :=
  let s1 := { s with urgency := urgencyNow s }
  if significant s1.urgency s1.dir.last.urgency then beaconedChange s1 else s1

/-! ## RECEIPTs -/

/-- A RECEIPT asked for (R133, R145): queued, or owed on the lane or deck entry of the label (R7, R35). Whether it was
queued is told. -/
def askReceipt (label origin : Nat) (s : State) : State × Bool :=
  match handFrame (.receipt { bay := s.straps.bay, origin := origin, label := label }) s with
  | some t => (t, true)
  | none =>
    ({ s with lane := setLaneOwed label true s.lane, deck := setDeckOwed label true s.deck }, false)

end Sys2Proof.Machine
end

