-- ==== Sys2Proof/Machine/Assembler.lean ====
section
/-! DEFINITION. The shared operations of the Transfer Table, the Offer Assembler and target selection (chapters 5 and
6): leaving and joining groups (R100, R101), closing them (R102, R103, R106), building OFFERs (R104) and completing them
(R105), choosing a door (R93, R94), and sending entries back to selection together (R92, R98). -/

namespace Sys2Proof.Machine

/-! ## The table and the groups -/

/-- The Transfer Table replaced. -/
def setTable (t : List TransferEntry) (s : State) : State := { s with table := t }

/-- The Offer Assembler replaced. -/
def setAsm (a : Assembler) (s : State) : State := { s with asm := a }

/-- The entry of a label. -/
def entryOf (s : State) (label : Nat) : Option TransferEntry := s.table.find? (fun e => e.label == label)

/-- The state of the entry of a label changed. -/
def setTransferState (label : Nat) (st : TransferState) (s : State) : State :=
  setTable (s.table.map (fun e => if e.label = label then { e with state := st } else e)) s

/-- The target a transfer state names (R97). -/
def TransferState.target : TransferState → Option Nat
  | .parked => none
  | .queued t => some t
  | .offered t _ _ _ => some t
  | .accepted t _ => some t

/-- Whether an entry is QUEUED toward a bay. -/
def queuedTo (bay : Nat) (e : TransferEntry) : Bool :=
  match e.state with
  | .queued t => t == bay
  | _ => false

/-- Whether an entry is OFFERED toward a bay. -/
def offeredTo (bay : Nat) (e : TransferEntry) : Bool :=
  match e.state with
  | .offered t _ _ _ => t == bay
  | _ => false

/-- Whether an entry is ACCEPTED toward a bay. -/
def acceptedTo (bay : Nat) (e : TransferEntry) : Bool :=
  match e.state with
  | .accepted t _ => t == bay
  | _ => false

/-- The labels of the entries that meet a test, oldest first. -/
def labelsWhere (p : TransferEntry → Bool) (s : State) : List Nat := (s.table.filter p).map (·.label)

/-- The labels of the PARKED entries. -/
def parkedLabels (s : State) : List Nat := labelsWhere (fun e => e.state == .parked) s

/-- Whether a label is a member of an open group or of a group of the send list. -/
def grouped (a : Assembler) (label : Nat) : Bool :=
  a.openGroups.any (fun g => g.members.contains label) || a.sendList.any (fun g => g.members.contains label)

/-- The waiting entries: QUEUED, and in no group, in Transfer Table order (R99). -/
def waitingEntries (s : State) : List TransferEntry :=
  s.table.filter (fun e =>
    match e.state with
    | .queued _ => !grouped s.asm e.label
    | _ => false)

/-- What the Offer Assembler keeps for a target (R99). -/
def targetRecord (a : Assembler) (bay : Nat) : TargetRecord :=
  (a.targets.find? (fun r => r.bay == bay)).getD { bay := bay, next := 0, last := none }

/-- A target's record put in bay order. -/
def putTarget (r : TargetRecord) : List TargetRecord → List TargetRecord
  | [] => [r]
  | x :: xs => if r.bay < x.bay then r :: x :: xs else if r.bay = x.bay then r :: xs else x :: putTarget r xs

/-- A label leaves whatever group it belongs to (R100): an open group with no member left is dissolved, and a resend
that has lost every member before it is built is discarded (R104). -/
def leaveGroups (label : Nat) (s : State) : State :=
  setAsm { s.asm with
    openGroups := (s.asm.openGroups.map (fun g => { g with members := g.members.filter (· != label) })).filter
      (fun g => !g.members.isEmpty)
    sendList := (s.asm.sendList.map (fun g => { g with members := g.members.filter (· != label) })).filter
      (fun g => !(g.resend && !g.inQueue && g.members.isEmpty)) } s

/-! ## Closing groups -/

/-- A group appended to the send list with the next number of its target, which becomes the target's last closed
(R102, R103). -/
def closeNumbered (target : Nat) (members : List Nat) (kind : GroupKind) (a : Assembler) : Assembler :=
  let r := targetRecord a target
  { a with
    sendList := a.sendList ++ [{ target := target, number := some r.next, members := members, kind := kind,
                                 resend := false, inQueue := false, pending := false }]
    targets := putTarget { r with next := (r.next + 1) % 256,
                                  last := some { number := r.next, full := kind == .full } } a.targets }

/-- An open group taken out of the open groups. -/
def dropOpen (target : Nat) (a : Assembler) : Assembler :=
  { a with openGroups := a.openGroups.filter (fun g => g.target != target) }

/-- A group closes full or short by its number of members (R102). -/
def closeOpen (g : OpenGroup) (s : State) : State :=
  setAsm (closeNumbered g.target g.members (if g.members.length = groupSize s.straps then .full else .short)
    (dropOpen g.target s.asm)) s

/-- An empty final group closed for a target (R103). -/
def closeEmpty (target : Nat) (s : State) : State := setAsm (closeNumbered target [] .empty s.asm) s

/-- A group that closes full while no tip run is RUNNING is followed at once by an empty final group, unless NOFINAL is
set (R103). -/
def closeFull (g : OpenGroup) (s : State) : State :=
  let t := closeOpen g s
  if s.run.mode.isNone && !s.straps.noFinal then closeEmpty g.target t else t

/-- An open group closed as pending by RESTART LINK: no number is taken (R106). -/
def closePending (g : OpenGroup) (s : State) : State :=
  let a := dropOpen g.target s.asm
  setAsm { a with sendList := a.sendList ++ [{ target := g.target, number := none, members := g.members,
                                               kind := .short, resend := false, inQueue := false,
                                               pending := true }] } s

/-! ## Joining groups -/

/-- An entry handed to the Offer Assembler (R100): it joins its target's open group, or opens one where fewer than 8
are open, or waits; a group that reaches G members closes full. -/
def joinGroup (label target : Nat) (s : State) : State :=
  match s.asm.openGroups.find? (fun g => g.target == target) with
  | some g =>
    let g' := { g with members := g.members ++ [label] }
    if g'.members.length = groupSize s.straps then closeFull g' s
    else setAsm { s.asm with openGroups := s.asm.openGroups.map (fun x => if x.target = target then g' else x) } s
  | none =>
    if s.asm.openGroups.length < Config.openGroupLimit then
      let g : OpenGroup := { target := target, members := [label], timer := 0 }
      if groupSize s.straps = 1 then closeFull g s
      else setAsm { s.asm with openGroups := s.asm.openGroups ++ [g] } s
    else s

/-- One pass over waiting entries, in the order given (R101). -/
def servePass (es : List TransferEntry) (s : State) : State :=
  es.foldl (fun t e =>
    match e.state with
    | .queued target => joinGroup e.label target t
    | _ => t) s

/-- The waiting entries served (R101), pass after pass until one places nothing: a group that closes in a pass frees a
place for the next. It closes full with a number also during a RESTART LINK (Log 52). -/
def serveLoop : Nat → State → State
  | 0, s => s
  | n + 1, s =>
    let t := servePass (waitingEntries s) s
    if (waitingEntries t).length < (waitingEntries s).length then serveLoop n t else t

/-- The waiting entries served (R101). -/
def serveWaiting (s : State) : State := serveLoop s.table.length s

/-- Every open group closed in the way given, the one opened first before the others (Log 40), the waiting entries served
after each (R101, R102, R106), until none is open (Log 12). A group that they fill closes full by the way, with a number
of its own, at RESTART LINK too (Log 52). -/
def closeLoop (close : OpenGroup → State → State) : Nat → State → State
  | 0, s => s
  | n + 1, s =>
    match s.asm.openGroups with
    | [] => s
    | g :: _ => closeLoop close n (serveWaiting (close g s))

/-- Every open group closed in the way given. -/
def closeAll (close : OpenGroup → State → State) (s : State) : State :=
  closeLoop close (s.asm.openGroups.length + s.table.length) s

/-! ## Building OFFERs -/

/-- The items of a group's OFFER, in the order of joining (R104). -/
def offerItems (s : State) (members : List Nat) : List OfferItem :=
  members.filterMap (fun l => (entryOf s l).map (fun e => { label := e.label, depot := e.depot, mass := e.mass }))

/-- The OFFER of a group (R104). -/
def offerBody (s : State) (g : ClosedGroup) : Body :=
  .offer { origin := s.straps.bay, target := g.target, group := g.number.getD 0, size := groupSize s.straps,
           items := offerItems s g.members }

/-- Whether a group may be built (R104): WAITING, not pending, no group of its target IN QUEUE, none before it. -/
def buildable (before after : List ClosedGroup) (g : ClosedGroup) : Bool :=
  !g.inQueue && !g.pending && !before.any (fun x => x.target == g.target)
    && !after.any (fun x => x.target == g.target && x.inQueue)

/-- The send list gone through from the oldest, each group that may be built handed to the queue (R104). -/
def buildList (s : State) (before : List ClosedGroup) : List ClosedGroup → State × List ClosedGroup
  | [] => (s, before)
  | g :: after =>
    if buildable before after g then
      match handFrame (offerBody s g) s with
      | some t => buildList t (before ++ [{ g with inQueue := true }]) after
      | none => buildList s (before ++ [g]) after
    else buildList s (before ++ [g]) after

/-- The groups that qualify are built, oldest first, until the room is used (R104). -/
def buildReady (s : State) : State :=
  let r := buildList s [] s.asm.sendList
  setAsm { r.1.asm with sendList := r.2 } r.1

/-- What follows each change of the groups: the waiting entries are served (R101) and the send list is looked through
(R104). -/
def tidyGroups (s : State) : State := buildReady (serveWaiting s)

/-! ## Target selection -/

/-- This door's entries QUEUED or OFFERED toward a bay (R93, R95). -/
def pledged (s : State) (bay : Nat) : Nat :=
  (s.table.filter (fun e => queuedTo bay e || offeredTo bay e)).length

/-- Whether a directory entry is a candidate for a transfer entry (R93). -/
def candidate (s : State) (e : TransferEntry) (d : DirEntry) : Bool :=
  d.bayState == .docked && d.departure == some .openBay && d.unreachable.isNone && d.bay != s.straps.bay
    && d.drops.contains e.depot && decide (pledged s d.bay < d.free)
    && !e.declined.any (fun r => r.bay == d.bay && r.stamp == some d.stamp)

/-- The one of two candidates that is chosen: the lower minutes to cutoff, then the lower bay number (R94). -/
def better (a b : DirEntry) : DirEntry :=
  if a.minutes < b.minutes ∨ (a.minutes = b.minutes ∧ a.bay ≤ b.bay) then a else b

/-- The candidate chosen among several (R94). -/
def chooseBay : List DirEntry → Option DirEntry
  | [] => none
  | d :: ds =>
    match chooseBay ds with
    | none => some d
    | some b => some (better d b)

/-- Target selection for one entry (R94, R98): QUEUED toward the bay chosen and handed to the Offer Assembler, or
PARKED, with the PARKED notice where the entry comes into PARKED. -/
def selectTarget (notify : Bool) (label : Nat) (s : State) : State :=
  match entryOf s label with
  | none => s
  | some e =>
    match chooseBay (s.dir.entries.filter (candidate s e)) with
    | some d => tidyGroups (joinGroup label d.bay (setTransferState label (.queued d.bay) s))
    | none =>
      let t := setTransferState label .parked s
      if notify then raise .parked e.label e.depot t else t

/-- An entry leaves its group or send, its timers, number, count and target absent (R98, steps 1 to 3). Until its
selection is run it stands as PARKED. -/
def goBack (label : Nat) (s : State) : State := leaveGroups label (setTransferState label .parked s)

/-- Entries sent back, and PARKED entries re-evaluated, run selection one at a time, the oldest first (R92, R98). The
waiting entries are served and the send list looked through once, when all that go back have left (Log 43). -/
def reselect (back parked : List Nat) (s : State) : State :=
  let t := tidyGroups (back.foldl (fun u l => goBack l u) s)
  (labelsWhere (fun e => back.contains e.label || parked.contains e.label) t).foldl
    (fun u l => selectTarget (back.contains l) l u) t

/-- A new transfer entry (R31, R41), not yet selected. -/
def addEntry (label depot mass : Nat) (s : State) : State :=
  setTable (s.table ++ [{ label := label, depot := depot, mass := mass, state := .parked, astray := false,
                          declined := [] }]) s

/-- An entry removed from the table and from its group or send (R100, R113, R114). -/
def removeEntry (label : Nat) (s : State) : State :=
  tidyGroups (leaveGroups label (setTable (s.table.filter (fun e => e.label != label)) s))

/-- What a DONE or a VACANT beacon does to the entries toward a bay (R115): ACCEPTED ones become PARKED with MISSED, in
Transfer Table order (Log 56), the others go back to selection, run with the PARKED entries given. -/
def applyDone (bay : Nat) (parked : List Nat) (s : State) : State :=
  let missed := labelsWhere (acceptedTo bay) s
  let back := labelsWhere (fun e => queuedTo bay e || offeredTo bay e) s
  reselect back parked (missed.foldl (fun t l => raise .missed l bay (setTransferState l .parked t)) s)

/-! ## Runs, completions and restarts -/

/-- The groups at the end of a tip run (R27, R103): every open group closes short, then an empty final group for each
target whose last closed group was full, unless NOFINAL is set; the groups are offered to the queue. -/
def endRunGroups (s : State) : State :=
  let t := closeAll closeOpen s
  let finals := (t.asm.targets.filter (fun r => (r.last.map (·.full)).getD false)).map (·.bay)
  buildReady (if s.straps.noFinal then t else finals.foldl (fun u b => closeEmpty b u) t)

/-- An OFFER has completed transmission (R105): its group leaves the send list, and the entries still members become
OFFERED with 2 s to run. -/
def completeOffer (target : Nat) (s : State) : State :=
  match s.asm.sendList.find? (fun g => g.target == target && g.inQueue) with
  | none => s
  | some g =>
    let sends (e : TransferEntry) : Nat :=
      match e.state with
      | .offered _ _ n _ => if g.resend then n + 1 else 1
      | _ => 1
    setTable (s.table.map (fun e =>
        if g.members.contains e.label then
          { e with state := .offered target (g.number.getD 0) (sends e) (.left Config.answerSeconds) }
        else e))
      (setAsm { s.asm with sendList := s.asm.sendList.filter (fun x => !(x.target == target && x.inQueue)) } s)

/-- The groups at a RESTART LINK (R106): a group whose frame is flushed is WAITING and pending again, but a resend with
no member left is discarded (R104, Log 51); then every open group closes as pending, and a group that waiting entries
fill meanwhile closes full (Log 52). -/
def restartGroups (s : State) : State :=
  let flushed := s.asm.sendList.map (fun g => if g.inQueue then { g with inQueue := false, pending := true } else g)
  closeAll closePending
    (setAsm { s.asm with sendList := flushed.filter (fun g => !(g.resend && g.members.isEmpty)) } s)

/-- One pending group at the join: it takes a number where it has none, as if closed under R102 (R106). -/
def releaseGroup (g : ClosedGroup) (a : Assembler) : Assembler :=
  match g.number, g.pending with
  | none, true =>
    let r := targetRecord a g.target
    { a with
      sendList := a.sendList ++ [{ g with number := some r.next, pending := false }]
      targets := putTarget { r with next := (r.next + 1) % 256,
                                    last := some { number := r.next, full := g.kind == .full } } a.targets }
  | _, _ => { a with sendList := a.sendList ++ [{ g with pending := false }] }

/-- The pending groups released at the join, in send list order (R106). -/
def releasePending (s : State) : State :=
  buildReady (setAsm (s.asm.sendList.foldl (fun a g => releaseGroup g a) { s.asm with sendList := [] }) s)

end Sys2Proof.Machine
end

