-- ==== Sys2Proof/Machine/Closing.lean ====
section
/-! DEFINITION. The shared operations of Departure Control and the Hold Table (chapters 7 and 8): READY (R139), starting
a call (R141, R142), holds made and removed (R121), the reconciliation (R145, R146), entering WAITING and CLOSED (R147,
R149), abandoning a call (R150), and the free room offered to owed frames (R81). -/

namespace Sys2Proof.Machine

/-- Departure Control replaced. -/
def setDep (d : Departure) (s : State) : State := { s with dep := d }

/-- The Hold Table replaced. -/
def setStore (h : HoldTable) (s : State) : State := { s with store := h }

/-! ## READY and the automatic start -/

/-- Whether the bay is READY (R139). -/
def readyNow (s : State) : Bool :=
  s.dep.state == some .openBay && s.store.owing.isEmpty && s.store.holds.isEmpty && s.lane.isEmpty

/-- The docking record's expected load, 0 while VACANT. -/
def expectedLoad (s : State) : Nat := (s.docking.map (·.expected)).getD 0

/-- READY worked out afresh: a change from false to true raises READY with O and E (R139). -/
def checkReady (s : State) : State :=
  let r := readyNow s
  let t := setDep { s.dep with ready := r } s
  if r && !s.dep.ready then raise .ready (outboundCount s.deck) (expectedLoad s) t else t

/-- The condition of AUTOCLOSE READY: READY and O at least E (R141). -/
def autocloseNow (s : State) : Bool := s.dep.ready && decide (expectedLoad s ≤ outboundCount s.deck)

/-- The three conditions of an automatic start (R141). -/
def canStart (s : State) : Bool :=
  s.run.mode.isNone && hasRoom 0 s.link.queue && (s.link.line == .joined || s.time.m == 0)

/-- A change of the departure state: it is handed on as a beaconed change (R138). -/
def setDepState (d : Option DepState) (s : State) : State := beaconedChange (setDep { s.dep with state := d } s)

/-- The call starts (R142): the number, the CALL, the sets emptied, CALLING, the window timer; READY becomes false. -/
def startCall (s : State) : State :=
  let n := (s.dep.callNumber + 1) % 256
  let t := handOrDrop (.call { bay := s.straps.bay, number := n }) (setDep { s.dep with callNumber := n } s)
  let u := setDepState (some .calling) (setDep { t.dep with named := [], startPending := [], retry := false } t)
  setDep { u.dep with window := some 0, ready := false, autoWas := false } u

/-- An automatic start for a cause (R141): made at once where it can be, otherwise the cause becomes pending, after the
causes that are (Log 47). -/
def autoStart (c : StartCause) (s : State) : State :=
  if canStart s then startCall s
  else if s.dep.startPending.contains c then s
  else setDep { s.dep with startPending := s.dep.startPending ++ [c] } s

/-- The AUTOCLOSE READY condition worked out afresh: becoming true while OPEN makes an automatic start (R141). -/
def checkAutoclose (s : State) : State :=
  let c := autocloseNow s
  let t := setDep { s.dep with autoWas := c } s
  if s.straps.autoClose && c && !s.dep.autoWas && s.dep.state == some .openBay then autoStart .autocloseReady t else t

/-- What follows a change of the departure state, the holds, the lane, the owing list, O or E (R139, R141). -/
def settle (s : State) : State := checkAutoclose (checkReady s)

/-! ## Holds -/

/-- A hold made at the end of the collection (R118). -/
def addHold (h : Hold) (s : State) : State := setStore { s.store with holds := s.store.holds ++ [h] } s

/-- A hold taken out of the collection. -/
def dropHold (label : Nat) (s : State) : State :=
  setStore { s.store with holds := s.store.holds.filter (fun h => h.label != label) } s

/-- A hold removed, the new free spaces handed on at once (R121). -/
def removeHold (label : Nat) (s : State) : State := announce s (dropHold label s)

/-- The holds that meet a test removed one by one; where there are any, VOIDED is raised with their count and the call
number (R145, R149). -/
def voidHolds (p : Hold → Bool) (s : State) : State :=
  let gone := (s.store.holds.filter p).map (·.label)
  let t := gone.foldl (fun u l => removeHold l u) s
  if gone.isEmpty then t else raise .voided gone.length t.dep.callNumber t

/-! ## Entering CLOSED, WAITING and OPEN -/

/-- The wait limit: the lesser of M and the transit allowance (R147). -/
def waitLimit (s : State) : Option Nat := s.dep.allowance.map (fun a => min s.time.m a)

/-- Entering CLOSED (R149). -/
def enterClosed (cause : CloseCause) (s : State) : State :=
  let t := voidHolds (fun _ => true) s
  let u := match handFrame (.done { bay := t.straps.bay }) t with
    | some v => v
    | none => setDep { t.dep with doneOwed := true } t
  let w := setDepState (some .closed)
    (setDep { u.dep with lamp := true, window := none, allowance := none, named := [] } u)
  settle (raise .closed cause.code w.dep.callNumber w)

/-- The holds left are handed to Departure Control: in WAITING an empty hold table brings CLOSED (R121, R148). -/
def holdGone (s : State) : State :=
  if s.dep.state = some .waiting ∧ s.store.holds = [] then enterClosed .waitEmpty s else s

/-- A call abandoned: the door returns to OPEN with its holds (R150, steps 1 and 2). -/
def returnToOpen (s : State) : State :=
  setDepState (some .openBay) (setDep { s.dep with window := none, allowance := none, named := [] } s)

/-- READY worked out on a return to OPEN: the AUTOCLOSE READY condition does not count as becoming true (R141), neither
under R150 nor where the link is lost (R151, Log 53). -/
def settleReturn (s : State) : State :=
  let t := checkReady s
  setDep { t.dep with autoWas := autocloseNow t } t

/-- A call abandoned with its notice, by the shutter (R150) or by the loss of the link (R151, Log 53). -/
def abandonCall (cause : AbandonCause) (s : State) : State :=
  let t := returnToOpen s
  settleReturn (raise .callAbandoned cause.code t.dep.callNumber t)

/-- The departure of the link from JOINED as Departure Control takes it (R151). -/
def linkLost (s : State) : State :=
  if s.dep.state = some .calling ∧ 0 < s.time.m then abandonCall .link s else s

/-- The cutoff-reached event handed to Departure Control (R56, R152). -/
def cutoffReached (s : State) : State :=
  match s.dep.state with
  | some .openBay =>
    if s.straps.autoClose then autoStart .autocloseCutoff s
    else raise .cutoffReached ((s.docking.map (·.cutoff)).getD 0) s.time.minute s
  | some .waiting => enterClosed .waitLimit s
  | _ => s

/-! ## Reconciliation -/

/-- Whether a label is on the deck or in the lane with its RECEIPT already owed (R145). -/
def receiptOwed (s : State) (label : Nat) : Bool :=
  s.lane.any (fun e => e.label == label && e.owed) || s.deck.entries.any (fun e => e.label == label && e.owed)

/-- A named label that the lane or the deck carries: its RECEIPT is handed over again unless one is owed (R145). -/
def receiptAgain (n : NamedRecord) (s : State) : State :=
  if (inLane s n.label || onDeck s n.label) && !receiptOwed s n.label then (askReceipt n.label n.bay s).1 else s

/-- Whether a named label is found nowhere: in no hold, lane entry, deck entry or transfer entry (R146). -/
def foundNowhere (s : State) (label : Nat) : Bool :=
  !inHolds s label && !inLane s label && !onDeck s label && !inTable s label

/-- Whether a reconciliation hold can be made (R146). -/
def canReconcile (s : State) : Bool :=
  decide (0 < s.time.m) && decide (s.store.holds.length < (s.docking.map (·.capacity)).getD 0)
    && admission Config.greatestMass s == .admitted

/-- One named label found nowhere (R146): a reconciliation hold is made, or the label is to be answered CLOSING. -/
def reconcileOne (n : NamedRecord) (acc : State × List NamedRecord) : State × List NamedRecord :=
  if foundNowhere acc.1 n.label then
    if canReconcile acc.1 then
      (announce acc.1 (addHold { label := n.label, depot := none, rank := none, mass := Config.greatestMass,
                                 origin := n.bay, minute := acc.1.time.minute } acc.1), acc.2)
    else (acc.1, acc.2 ++ [n])
  else acc

/-- A list cut into pieces of at most n (R143, R146). -/
def chunksOf {α : Type} (n : Nat) : Nat → List α → List (List α)
  | 0, _ => []
  | _ + 1, [] => []
  | fuel + 1, x :: xs => ((x :: xs).take n) :: chunksOf n fuel ((x :: xs).drop n)

/-- The labels of one bay answered CLOSING, up to 8 to a frame (R146). -/
def answerClosingTo (bay : Nat) (labels : List Nat) (s : State) : State :=
  (chunksOf Config.frameItems labels.length labels).foldl (fun t ls =>
    handOrDrop (.answer { target := t.straps.bay, origin := bay, group := t.dep.callNumber,
                          items := ls.map (fun l => { label := l, verdict := Verdict.closing.code }) }) t) s

/-- The naming bays of a list of records, each once, in the order they first come. -/
def baysOf (ns : List NamedRecord) : List Nat :=
  ns.foldl (fun bs n => if bs.contains n.bay then bs else bs ++ [n.bay]) []

/-- The CLOSING answers of a reconciliation, bay by bay (R146, Log 28). -/
def answerClosing (ns : List NamedRecord) (s : State) : State :=
  (baysOf ns).foldl (fun t b => answerClosingTo b ((ns.filter (fun n => n.bay == b)).map (·.label)) t) s

/-- The named labels found nowhere, in order, and then the CLOSING answers (R146). -/
def reconcileOthers (ns : List NamedRecord) (s : State) : State :=
  let r := ns.foldl (fun acc n => reconcileOne n acc) (s, [])
  answerClosing r.2 r.1

/-- Steps 3 and 4 of R145 for a list of named labels: first every arrived label, in the order of the list (Log 46), then
every other label; for the labels of one HOLD in WAITING too (R148, Log 60). -/
def reconcileNamed (ns : List NamedRecord) (s : State) : State :=
  reconcileOthers ns (ns.foldl (fun t n => receiptAgain n t) s)

/-- The greatest transit estimate between the own bay and the origins of the holds (R147). -/
def greatestTransit (s : State) : Nat :=
  (s.store.holds.map (fun h => transit s.straps.bay h.origin)).foldl max 0

/-- The outcome of the window (R147). -/
def windowOutcome (s : State) : State :=
  if s.store.holds = [] then enterClosed .callEnd s
  else
    let t := setDep { s.dep with allowance := some (2 + greatestTransit s), window := none } s
    if waitLimit t = some 0 then enterClosed .waitLimit t else setDepState (some .waiting) t

/-- The end of the call window (R145). -/
def endWindow (s : State) : State :=
  let named := s.dep.named
  let t := voidHolds (fun h => !named.any (fun n => n.label == h.label)) s
  windowOutcome (reconcileNamed named t)

/-! ## Free room offered -/

/-- The DONE that is owed (R81). -/
def offerDone (s : State) : State :=
  if s.dep.doneOwed then
    match handFrame (.done { bay := s.straps.bay }) s with
    | some t => setDep { t.dep with doneOwed := false } t
    | none => s
  else s

/-- The RECEIPT owed on a lane entry, addressed to its origin (R35, R81). -/
def offerLaneReceipt (e : LaneEntry) (s : State) : State :=
  match handFrame (.receipt { bay := s.straps.bay, origin := e.origin, label := e.label }) s with
  | some t => { t with lane := setLaneOwed e.label false t.lane }
  | none => s

/-- The RECEIPT owed on a deck entry, addressed to all (R7, R81). -/
def offerDeckReceipt (e : DeckEntry) (s : State) : State :=
  match handFrame (.receipt { bay := s.straps.bay, origin := 0, label := e.label }) s with
  | some t => { t with deck := setDeckOwed e.label false t.deck }
  | none => s

/-- The free room of the queue offered to DONE, to the owed RECEIPTs of the lane and of the deck, and to the Offer
Assembler, in that order (R81). -/
def offerRoom (s : State) : State :=
  let t := offerDone s
  let u := (t.lane.filter (·.owed)).foldl (fun x e => offerLaneReceipt e x) t
  let v := (u.deck.entries.filter (·.owed)).foldl (fun x e => offerDeckReceipt e x) u
  buildReady v

end Sys2Proof.Machine
end

