-- ==== Sys2Proof/Machine/LinkOps.lean ====
section
/-! DEFINITION. The shared operations of the Floor Link Interface (chapter 4): the line states and what entering and
leaving them brings (R65 to R68, R74, R75), the end of an attempt (R70, R71, R73, R79), a frame heard and taken (R63,
R64, R66, R72, R76), and the arbitration of keys (R69, R70). -/

namespace Sys2Proof.Machine

/-- The Floor Link Interface replaced. -/
def setLink (l : Link) (s : State) : State := { s with link := l }

/-- The Route Directory replaced. -/
def setDir (d : Directory) (s : State) : State := { s with dir := d }

/-! ## Line states -/

/-- Entering LISTENING (R66), the quiet timer started from 0; the rejoin timer stands stopped. -/
def enterListening (quiet : Option Nat) (s : State) : State :=
  setLink { s.link with line := .listening, valid := 0, failures := 0, quiet := quiet, rejoin := none } s

/-- Entering JOINED (R67): LINK_UP, the interval of 4 s with a beacon and the timer (R86), and the pending groups
(R106). -/
def enterJoined (cause : JoinCause) (s : State) : State :=
  let t := raise .linkUp cause.code s.link.fails (setLink { s.link with line := .joined } s)
  releasePending (beaconedChange t)

/-- The marks of the present attempt cleared from a queue. -/
def offLine (q : List Queued) : List Queued := q.map (fun f => { f with onLine := false })

/-- A beacon that waited for the end of the attempt takes its place (R79), with the values that stand then (R84) and the
key that U gives then (R59, Log 10). -/
def placeWaiting (s : State) : State :=
  if s.link.beaconWaiting then (placeBeacon (setLink { s.link with beaconWaiting := false } s)).1 else s

/-- An attempt ends with its frame still queued (R70, R71, R73). -/
def endAttempt (s : State) : State := placeWaiting (setQueue (offLine s.link.queue) s)

/-- A departure from JOINED to another line state (R67): the latch is set to 0 (R77), the beacon timer stops (R86), and
Departure Control is told (R151). -/
def leaveJoined (line : LineState) (s : State) : State :=
  let t := setLink { s.link with line := line, held := false } s
  linkLost (setDir { t.dir with timer := none } t)

/-- FAULTED entered (R68): the rejoin timer starts from 0 unless the duplicate-bay mark is set. -/
def startRejoin (s : State) : State :=
  setLink { s.link with line := .faulted, rejoin := if s.link.duplicate then none else some 0 } s

/-- The link fail count risen by 1, stopping at 255 (R74). -/
def countFail (s : State) : State := setLink { s.link with fails := min 255 (s.link.fails + 1) } s

/-- The failure threshold reached (R74). -/
def thresholdFault (s : State) : State :=
  let t := countFail s
  startRejoin (leaveJoined .faulted (raise .linkDown t.link.fails t.link.queue.length t))

/-- A duplicate bay heard (R75). -/
def duplicateHeard (kind : FrameKind) (s : State) : State :=
  let t := raise .duplicateBay s.straps.bay kind.code (setLink { s.link with duplicate := true } s)
  match t.link.line with
  | .joined => startRejoin (leaveJoined .faulted (endAttempt (countFail t)))
  | .listening => startRejoin (countFail t)
  | .faulted => setLink { t.link with rejoin := none } t
  | .detached => t

/-! ## Frames heard -/

/-- The line was active: while LISTENING the quiet timer restarts (R66), and the objection slot was driven or not. -/
def lineActive (drove : Bool) (s : State) : State :=
  setLink { s.link with quiet := none, objection := drove } s

/-- A bad frame counted as its check ends, and the half mark set when the count reaches it (R72, R76). -/
def countError (s : State) : State :=
  let n := min 65535 (s.link.errors + 1)
  let t := setLink { s.link with errors := n } s
  if Config.halfMark ≤ n ∧ t.link.half = false then
    raise .errorsHalf n t.link.line.code (setLink { t.link with half := true } t)
  else t

/-- A bad frame heard (R72, R76): counted at its check, and then objected to in its slot where the station may still
object. The frame that sets the half mark is not objected to. -/
def badFrame (s : State) : State :=
  let t := countError s
  lineActive (objects t) t

/-- A frame taken is counted while LISTENING; the third brings JOINED (R66). -/
def countTaken (s : State) : State :=
  if s.link.line = .listening then
    let t := setLink { s.link with valid := s.link.valid + 1 } s
    if Config.joinFrames ≤ t.link.valid then enterJoined .frames t else t
  else s

/-- A frame heard with no objection (R63, R64, R66, R72, R75): nothing is heard in DETACHED or while the reset pin is
held; a frame whose fields break the framing of R63 is bad; one that bears the own bay number is a duplicate bay;
otherwise it is taken, handed to its block, and counted. -/
def takeFrame (key : Nat) (b : Body) (handOn : State → State) (s : State) : State :=
  if s.pins.resetHeld || s.link.line == .detached then s
  else if !framingOk key b then badFrame s
  else if keyBay key = s.straps.bay then duplicateHeard b.kind (lineActive false s)
  else countTaken (handOn (lineActive false s))

/-! ## Arbitration -/

/-- Whether a station that sends the key `own` withdraws where the line also carries `heard` (R70): at the first bit,
from the most significant, where it sent recessive 1 and reads dominant 0. -/
def withdrawsFrom : Nat → Nat → Nat → Bool
  | 0, _, _ => false
  | n + 1, own, heard =>
    match own.testBit n, heard.testBit n with
    | true, false => true
    | false, true => false
    | _, _ => withdrawsFrom n own heard

/-- The arbitration over the 16 bits of the key (R70). -/
def withdraws (own heard : Nat) : Bool := withdrawsFrom 16 own heard

end Sys2Proof.Machine
end

