-- ==== Sys2Proof/Machine/Timers.lean ====
section
/-! DEFINITION. The timers' expiries. Each acts where its timer is due and is without effect otherwise (Log 4):
`secondTick` in Sys2Proof/Machine/Clock.lean counts the timers, and the expiry commands carry the expiries out. An
expiry that is still due at the next second boundary is carried out there by `expireDue` (Log 5). -/

namespace Sys2Proof.Machine

/-- The rejoin timer's 30th boundary (R68): LISTENING. -/
def expireRejoin (s : State) : State :=
  if s.link.line = .faulted ∧ s.link.duplicate = false ∧ s.link.rejoin = some Config.rejoinSeconds then
    enterListening (some 0) s
  else s

/-- Whether the beaconed fields that stand differ from the last beaconed content (R86), U by a significant change
(Log 9). -/
def contentDiffers (s : State) : Bool :=
  let c := contentNow s
  let l := s.dir.last
  c.bayState != l.bayState || c.departure != l.departure || c.drops != l.drops || c.free != l.free
    || significant c.urgency l.urgency

/-- The beacon timer's expiry (R86): the interval doubles, to 64 s at most, or returns to 4 s where something differs,
and a beacon is handed to the queue; where it is dropped the interval is as before. -/
def expireBeacon (s : State) : State :=
  if s.link.line = .joined ∧ s.dir.timer = some 0 then
    let n := if contentDiffers s then 4 else min 64 (2 * s.dir.interval)
    let r := placeBeacon (setDir { s.dir with interval := n } s)
    if r.2 then restartBeaconTimer n r.1
    else setDir { r.1.dir with interval := s.dir.interval, timer := some s.dir.interval } r.1
  else s

/-- A stale directory entry removed (R89), its QUEUED entries sent back to selection (R91). -/
def expireEntry (bay : Nat) (s : State) : State :=
  match dirEntry s bay with
  | none => s
  | some e =>
    if 3 * e.interval ≤ e.since then
      reselect (labelsWhere (queuedTo bay) s) []
        (setDir { s.dir with entries := s.dir.entries.filter (fun x => x.bay != bay) } s)
    else s

/-- The unreachable mark of a bay. -/
def setUnreachable (bay : Nat) (mark : Option Nat) (s : State) : State :=
  setDir { s.dir with
    entries := s.dir.entries.map (fun x => if x.bay = bay then { x with unreachable := mark } else x) } s

/-- An unreachable mark run out (R90): it is cleared and the PARKED entries are re-evaluated (R91). -/
def expireUnreachable (bay : Nat) (s : State) : State :=
  match dirEntry s bay with
  | none => s
  | some e => if e.unreachable = some 0 then reselect [] (parkedLabels s) (setUnreachable bay none s) else s

/-- The hold timer of an open group at 20 s (R102): it closes short. -/
def expireHold (target : Nat) (s : State) : State :=
  match s.asm.openGroups.find? (fun g => g.target == target) with
  | none => s
  | some g => if Config.holdSeconds ≤ g.timer then tidyGroups (closeOpen g s) else s

/-- Whether an entry is OFFERED in a send whose answer timer is due (R110). -/
def answerDue (target group : Nat) (e : TransferEntry) : Bool :=
  match e.state with
  | .offered t g _ (.left 0) => t == target && g == group
  | _ => false

/-- Whether an entry's send was the third (R111). -/
def thirdSend (e : TransferEntry) : Bool :=
  match e.state with
  | .offered _ _ n _ => decide (Config.sendLimit ≤ n)
  | _ => false

/-- An answer timer marked expired (R110). -/
def timerExpired (e : TransferEntry) : TransferEntry :=
  match e.state with
  | .offered t g n _ => { e with state := .offered t g n .expired }
  | _ => e

/-- The answer timer of an outstanding send (R110): a resend of its entries is appended, or, after the third send, the
target is marked unreachable and its entries go back to selection (R111). -/
def expireAnswer (target group : Nat) (s : State) : State :=
  let due := s.table.filter (answerDue target group)
  let labels := due.map (·.label)
  if due.isEmpty then s
  else if due.any thirdSend then
    let queued := if (dirEntry s target).isSome then labelsWhere (queuedTo target) s else []
    reselect (labels ++ queued) [] (setUnreachable target (some Config.unreachableSeconds) s)
  else
    let t := setTable (s.table.map (fun e => if answerDue target group e then timerExpired e else e)) s
    buildReady (setAsm { t.asm with sendList := t.asm.sendList ++
      [{ target := target, number := some group, members := labels,
         kind := if labels.length = groupSize s.straps then .full else .short,
         resend := true, inQueue := false, pending := false }] } t)

/-- The travel timer of an ACCEPTED entry run out (R112): ASTRAY once in the entry's life. -/
def expireTravel (label : Nat) (s : State) : State :=
  match entryOf s label with
  | none => s
  | some e =>
    match e.state with
    | .accepted target (some 0) =>
      let t := setTable (s.table.map (fun x =>
        if x.label = label then { x with state := .accepted target none, astray := true } else x)) s
      if e.astray then t else raise .astray label target t
    | _ => s

/-- The end of the call window (R145), where it is due in CALLING. -/
def expireWindow (s : State) : State :=
  if s.dep.state = some .calling ∧ s.dep.window = some Config.windowSeconds then endWindow s else s

/-- The wait limit at 0 in WAITING (R148). -/
def expireWait (s : State) : State :=
  if s.dep.state = some .waiting ∧ waitLimit s = some 0 then enterClosed .waitLimit s else s

/-- A pending start tried again at a second boundary (R141). -/
def retryStart (s : State) : State :=
  if s.dep.retry then
    let t := setDep { s.dep with retry := false } s
    if s.dep.state == some .openBay && !s.dep.startPending.isEmpty && canStart s then startCall t else t
  else s

/-- Every expiry that is due, carried out in the order of the table's rows, and within a row in the order of the table
that holds the timers: bay order, order of opening, Transfer Table order (Log 5). -/
def expireDue (s : State) : State :=
  let a := expireBeacon (expireRejoin s)
  let b := (a.dir.entries.map (·.bay)).foldl (fun t x => expireEntry x t) a
  let c := (b.dir.entries.map (·.bay)).foldl (fun t x => expireUnreachable x t) b
  let d := (c.asm.openGroups.map (·.target)).foldl (fun t x => expireHold x t) c
  let sends := d.table.filterMap (fun e =>
    match e.state with
    | .offered t g _ (.left 0) => some (t, g)
    | _ => none)
  let e := sends.foldl (fun t x => expireAnswer x.1 x.2 t) d
  let f := (e.table.map (·.label)).foldl (fun t x => expireTravel x t) e
  retryStart (expireWait (expireWindow f))

end Sys2Proof.Machine
end

