-- ==== Sys2Proof/Machine/Clock.lean ====
section
/-! DEFINITION. The shared operations of the Time Base (chapter 3): the recomputation of M with its cutoff tests (R54 to
R56), second and minute boundaries (R46, R47), the oscillator measurements (R45, R46), and the pulse and silence rules
of the three source states (R48 to R50). -/

namespace Sys2Proof.Machine

/-- The Time Base replaced. -/
def setTime (t : TimeBase) (s : State) : State := { s with time := t }

/-- The cutoff tests of a recomputation whose previous value was `before` (R55, R56): the warning first, then the
cutoff-reached event. -/
def cutoffTests (before cutoff : Nat) (s : State) : State :=
  let t := if s.time.m ≤ 15 ∧ s.time.warned = false then
      raise .cutoffNear s.time.m cutoff (setTime { s.time with warned := true } s)
    else s
  if t.time.m = 0 ∧ 0 < before then cutoffReached t else t

/-- M recomputed while DOCKED (R54), and handed to the Urgency Unit; while VACANT M is held. -/
def recomputeM (s : State) : State :=
  match s.docking with
  | none => s
  | some d =>
    cutoffTests s.time.m d.cutoff (recomputeUrgency (setTime { s.time with m := effectiveMinutes s.time d.cutoff } s))

/-- A directory entry's minutes to cutoff aged (R89). -/
def ageMinutes (e : DirEntry) : DirEntry := { e with minutes := e.minutes - 1 }

/-- A travel timer counted down (R112). -/
def countTravel (e : TransferEntry) : TransferEntry :=
  match e.state with
  | .accepted t (some n) => { e with state := .accepted t (some (n - 1)) }
  | _ => e

/-- A minute boundary (R47): T and f advance, M and U are recomputed, and the minute timers count. -/
def minuteBoundary (s : State) : State :=
  let t := setTime { s.time with
    minute := if s.time.clockSet then (s.time.minute + 1) % 1440 else 0
    fallback := if s.time.source = .reference then s.time.fallback else min 1439 (s.time.fallback + 1) } s
  let u := recomputeUrgency (recomputeM t)
  let v := setDir { u.dir with entries := u.dir.entries.map ageMinutes } u
  let w := setTable (v.table.map countTravel) v
  if w.dep.state = some .waiting then setDep { w.dep with allowance := w.dep.allowance.map (· - 1) } w else w

/-- A directory entry's second timers counted (R89, R90). -/
def countEntry (e : DirEntry) : DirEntry :=
  { e with since := e.since + 1, unreachable := e.unreachable.map (· - 1) }

/-- An answer timer counted down (R105). -/
def countAnswer (e : TransferEntry) : TransferEntry :=
  match e.state with
  | .offered t g n (.left k) => { e with state := .offered t g n (.left (k - 1)) }
  | _ => e

/-- Every timer that counts second boundaries, counted (R46): rejoin, beacon, directory, hold, answer and call window
timers; a pending start is to be tested (R141). -/
def countSeconds (s : State) : State :=
  { s with
    link := { s.link with rejoin := s.link.rejoin.map (fun n => min Config.rejoinSeconds (n + 1)) }
    dir := { s.dir with timer := s.dir.timer.map (· - 1), entries := s.dir.entries.map countEntry }
    asm := { s.asm with openGroups := s.asm.openGroups.map (fun g => { g with timer := g.timer + 1 }) }
    table := s.table.map countAnswer
    dep := { s.dep with
      window := s.dep.window.map (fun n => min Config.windowSeconds (n + 1))
      retry := !s.dep.startPending.isEmpty && s.dep.state == some .openBay } }

/-- A second boundary (R46): expiries still due are carried out (Log 5), the second timers count, the seconds counter
advances, and from 59 it goes to 0 with a minute boundary. -/
def secondTick (s : State) : State :=
  let t := countSeconds (expireDue s)
  if t.time.seconds = 59 then minuteBoundary (setTime { t.time with seconds := 0 } t)
  else setTime { t.time with seconds := t.time.seconds + 1 } t

/-- The quiet timer after time that passed on the oscillator: the time since a start within it is not known (Log 49). -/
def quietAfter (us : Nat) : Option Nat → Nat
  | none => 0
  | some n => min Config.quietLimit (n + us)

/-- Oscillator time that passes: the measurements of R45 and R46 and, while LISTENING, the quiet timer (R66). -/
def passTime (us : Nat) (s : State) : State :=
  { s with
    time := { s.time with
      sincePulse := s.time.sincePulse.map (· + us)
      silence := s.time.silence + us
      sinceBoundary := s.time.sinceBoundary + us
      untilBoundary := s.time.untilBoundary - us }
    link := { s.link with
      quiet := if s.link.line = .listening then some (quietAfter us s.link.quiet) else s.link.quiet } }

/-- A boundary made now, by the oscillator or by a pulse; the oscillator's next is 1 s after it (R46). -/
def makeBoundary (byOscillator : Bool) (s : State) : State :=
  secondTick (setTime { s.time with sinceBoundary := 0, untilBoundary := Config.second,
                                    byOscillator := byOscillator } s)

/-- A good pulse aligns the seconds (R46): close after an oscillator boundary it moves the next one, and otherwise it
is a boundary of its own. -/
def alignSecond (s : State) : State :=
  if s.time.byOscillator ∧ s.time.sinceBoundary < Config.alignWindow then
    setTime { s.time with untilBoundary := Config.second } s
  else makeBoundary false s

/-- Entering FALLBACK (R48). -/
def enterFallback (cause : FallbackCause) (s : State) : State :=
  let t := setTime { s.time with source := .fallback, goodRun := 0, badRun := 0, fallback := 0 } s
  recomputeM (raise .clockFallback cause.code t.time.minute t)

/-- Entering REFERENCE at the pulse that completes the count (R50). -/
def enterReference (s : State) : State :=
  let t := alignSecond (setTime { s.time with source := .reference, goodRun := Config.goodPulses, badRun := 0 } s)
  let u := raise .clockRestored t.time.fallback t.time.minute t
  recomputeM (setTime { u.time with fallback := 0 } u)

/-- A good pulse under the rule of the present source state (R48, R49, R50). -/
def goodPulse (s : State) : State :=
  match s.time.source with
  | .reference => alignSecond (setTime { s.time with badRun := 0 } s)
  | .fallback => setTime { s.time with source := .returning, goodRun := 1 } s
  | .returning =>
    if Config.goodPulses ≤ s.time.goodRun + 1 then enterReference s
    else setTime { s.time with goodRun := s.time.goodRun + 1 } s

/-- A bad pulse under the rule of the present source state (R48, R49, R50). -/
def badPulse (s : State) : State :=
  match s.time.source with
  | .reference =>
    if Config.badPulses ≤ s.time.badRun + 1 then enterFallback .badPulses s
    else setTime { s.time with badRun := s.time.badRun + 1 } s
  | .fallback => s
  | .returning => setTime { s.time with goodRun := 0 } s

/-- A silence event under the rule of the present source state (R48, R49, R50). -/
def silenceEvent (s : State) : State :=
  match s.time.source with
  | .reference => enterFallback .noPulse s
  | .fallback => s
  | .returning => setTime { s.time with goodRun := 0 } s

/-- Whether a pulse at a distance from the one before it is good (R45). -/
def pulseGood (distance : Nat) : Bool :=
  decide (Config.pulseShortest ≤ distance ∧ distance ≤ Config.pulseLongest)

/-- A pulse that arrives (R45): classified by its distance from the pulse before it; the first has none. -/
def pulseArrives (s : State) : State :=
  let t := setTime { s.time with sincePulse := some 0, silence := 0 } s
  match s.time.sincePulse with
  | none => t
  | some d => if pulseGood d then goodPulse t else badPulse t

end Sys2Proof.Machine
end

