-- ==== Sys2Proof/Machine/PortOps.lean ====
section
/-! DEFINITION. The discipline of the bay port (R154, R155): how a request frame is taken, refused for its form, put on
the busy list, and answered; and the gate of the reset pin (R167). -/

namespace Sys2Proof.Machine

/-- An event that happens only while the reset pin is not held (R167). -/
def live (f : State → State) (s : State) : State := if s.pins.resetHeld then s else f s

/-- What a request does when its own tests have run: the state after it, and a refusal or the data of the reply. -/
abbrev Result := State × Except RefusalCode ReplyData

/-- A request refused with no effect. -/
def refuse (c : RefusalCode) (s : State) : Result := (s, .error c)

/-- A request taken. -/
def accept (d : ReplyData) (s : State) : Result := (s, .ok d)

/-- A frame that begins while a request is in progress (R154): a record of its own, or, at 16 records, counted in the
newest. -/
def addBusy (seq : Nat) : List BusyRecord → List BusyRecord
  | l =>
    if l.length < Config.busySlots then l ++ [{ seq := seq, count := 1 }]
    else
      match l.getLast? with
      | none => l
      | some r => l.dropLast ++ [{ r with count := min 255 (r.count + 1) }]

/-- A frame put on the busy list. -/
def recordBusy (seq : Nat) (s : State) : State := { s with port := { s.port with busy := addBusy seq s.port.busy } }

/-- A reply begun (R154, R155): the request is in progress until it has been sent, and the reply carries the number of
notices queued after the request. -/
def sendReply (seq : Nat) (a : Answer) (s : State) : State :=
  { s with port := { s.port with
      inProgress := true, reply := some { seq := seq, answer := a, notices := s.notes.queue.length } } }

/-- The answer of a request's result. -/
def answerOf (r : Request) : Except RefusalCode ReplyData → Answer
  | .ok d => .ok r d
  | .error c => .refused c .none

/-- A request frame that arrives (R154, R155): put on the busy list while a request is in progress, refused BAD_VALUE
where its parameters have not the form called for, and otherwise carried out and answered. -/
def request (h : ReqHead) (r : Request) (body : State → Result) : State → State :=
  live fun s =>
    if s.port.inProgress then recordBusy h.seq s
    else if !h.formOk then sendReply h.seq (.refused .badValue .none) s
    else
      let o := body s
      sendReply h.seq (answerOf r o.2) o.1

/-- A request frame refused for its form (R155), or put on the busy list while a request is in progress (R154). -/
def refuseFrame (seq : Nat) (c : RefusalCode) : State → State :=
  live fun s =>
    if s.port.inProgress then recordBusy seq s else sendReply seq (.refused c .none) s

/-- The BUSY reply of a record (R154). Its notice count is the length of the queue as this reply begins (R155, Log 57). -/
def busyReply (r : BusyRecord) (s : State) : Reply :=
  { seq := r.seq, answer := .refused .busy (.busy r.count), notices := s.notes.queue.length }

/-- Whether the reply being sent is a BUSY reply. -/
def sendingBusy (p : Port) : Bool :=
  match p.reply with
  | some r =>
    match r.answer with
    | .refused .busy _ => true
    | _ => false
  | none => false

/-- The next reply after one has been sent (R154): the BUSY reply of the oldest record, or none and the flag clear. -/
def nextReply (busy : List BusyRecord) (s : State) : State :=
  match busy with
  | [] => { s with port := { inProgress := false, busy := [], reply := none } }
  | r :: rs => { s with port := { inProgress := true, busy := r :: rs, reply := some (busyReply r s) } }

/-- A reply has been sent (R154): a BUSY reply's record leaves the list, and the next reply begins. -/
def replyDone (s : State) : State :=
  if s.port.inProgress then nextReply (if sendingBusy s.port then s.port.busy.tail else s.port.busy) s else s

end Sys2Proof.Machine
end

