-- ==== Sys2Proof/Machine/Docking.lean ====
section
/-! DEFINITION. The meanings of DOCK, DECLARE, TIP START, TIP OFF, TIP END, LOAD, UNLOAD BACK and DEPART
(spec/02_docking_tipping_and_loading.md). -/

namespace Sys2Proof.Machine

/-! ## DOCK -/

/-- The docking record as bound, its values clamped (R20). -/
def boundDocking (drops : List Nat) (capacity payload cutoff : Nat) (handling expected : Option Nat) : Docking :=
  { drops := drops
    capacity := capacity
    payload := clamp 10 2600 payload
    handling := clamp 20 240 (handling.getD 90)
    expected := min capacity (expected.getD capacity)
    cutoff := cutoff }

/-- A DOCK taken (R21): the record is bound, Departure Control enters OPEN, M and U are worked out, a beacon goes, and
the cutoff warning follows where M is 15 or less. -/
def takeDock (d : Docking) (s : State) : State :=
  let t := checkReady { s with
    docking := some d
    dep := { s.dep with state := some .openBay, window := none, named := [], allowance := none, startPending := [],
                        lamp := false, halt := false, retry := false } }
  let u := setTime { t.time with warned := false, m := effectiveMinutes t.time d.cutoff } t
  let v := beaconedChange { u with urgency := urgencyNow u }
  checkAutoclose (cutoffTests 0 d.cutoff v)

/-- The tests of DOCK in order (R20). -/
def dockBody (p : DockParams) (s : State) : Result :=
  if s.docking.isSome then refuse .alreadyDocked s
  else if !s.time.clockSet then refuse .clockUnset s
  else
    match p.capacity, p.payload, p.cutoff with
    | some c, some pl, some k =>
      if !dropsOk p.drops || decide (c < 1 ∨ 52 < c) || !minuteOk k then refuse .badValue s
      else if effectiveMinutes s.time k = 0 then refuse .cutoffPassed s
      else
        let d := boundDocking p.drops c pl k p.handling p.expected
        let t := takeDock d s
        accept (.dock t.time.m t.urgency d.payload d.handling d.expected) t
    | _, _, _ => refuse .badValue s

/-- DOCK (R20, R21). -/
def execDock (h : ReqHead) (p : DockParams) (s : State) : Host.Outcome State Fault Refusal :=
  .next (request h .dock (dockBody p) s)

/-! ## DECLARE -/

/-- A label known to the node: on the deck, in the lane, in the hold table or in the Transfer Table (R23). -/
def labelKnown (s : State) (label : Nat) : Bool :=
  onDeck s label || inLane s label || inHolds s label || inTable s label

/-- The tests and effect of DECLARE (R23). -/
def declareBody (label depot mass : Nat) (s : State) : Result :=
  match s.docking with
  | none => refuse .notDocked s
  | some d =>
    if s.run.mode.isSome then refuse .runActive s
    else if 0 < outboundCount s.deck then refuse .deckNotClear s
    else if decide (label = 0) || !depotOk depot || decide (mass = 0) then refuse .badValue s
    else if labelKnown s label then refuse .duplicate s
    else
      match pushDeck d.capacity
          { tag := .inbound, label := label, depot := depot, mass := clampMass mass, rank := none, owed := false }
          s.deck with
      | .mixed => refuse .deckNotClear s
      | .full => refuse .deckFull (recordFault .overflow s)
      | .placed deck => accept (.depth deck.entries.length) { s with deck := deck }

/-- DECLARE (R23). -/
def execDeclare (h : ReqHead) (label depot mass : Nat) (s : State) : Host.Outcome State Fault Refusal :=
  .next (request h .declare (declareBody label depot mass) s)

/-! ## The tip run -/

/-- The last-closed record of every target cleared (R99). -/
def clearLastClosed (a : Assembler) : Assembler := { a with targets := a.targets.map (fun r => { r with last := none }) }

/-- A run begun in a mode (R25). -/
def beginRun (mode : TipMode) (remaining : Option Nat) (s : State) : State :=
  { s with
    run := { s.run with mode := some mode, remaining := remaining, tipped := 0 }
    asm := clearLastClosed s.asm }

/-- The tests and effect of TIP START (R25). -/
def tipStartBody (mode : TipModeArg) (s : State) : Result :=
  if s.docking.isNone then refuse .notDocked s
  else if s.run.mode.isSome then refuse .runActive s
  else
    match mode with
    | .neither => refuse .badValue s
    | .openEnded => accept (.tipStart .openEnded none) (beginRun .openEnded none s)
    | .counted n =>
      if 52 < n ∨ (n = 0 ∧ inboundCount s.deck = 0) then refuse .badValue s
      else
        let r := if n = 0 then inboundCount s.deck else n
        accept (.tipStart .counted (some r)) (beginRun .counted (some r) s)

/-- TIP START (R25). -/
def execTipStart (h : ReqHead) (mode : TipModeArg) (s : State) : Host.Outcome State Fault Refusal :=
  .next (request h .tipStart (tipStartBody mode) s)

/-- A run's termination with reason COUNT, EMPTY or END (R27): the groups, TIP_DONE, and IDLE. -/
def terminateRun (reason : TipReason) (deckEmpty : Bool) (s : State) : State :=
  let t := endRunGroups s
  let u := raise .tipDone (twoParts reason.code (if deckEmpty then 1 else 0)) t.run.tipped t
  { u with run := { u.run with mode := none, lastReason := reason } }

/-- The tests and effect of TIP END (R26). -/
def tipEndBody (s : State) : Result :=
  if s.run.mode.isNone then refuse .noRun s
  else accept (.tipEnd s.run.tipped) (terminateRun .ended false s)

/-- TIP END (R26). -/
def execTipEnd (h : ReqHead) (s : State) : Host.Outcome State Fault Refusal :=
  .next (request h .tipEnd tipEndBody s)

/-! ## TIP OFF -/

/-- A tipped pallet: where it stood on the deck, as its inward count, or absent for an undeclared one (R29, R30). -/
structure Tipped where
  label : Nat
  depot : Nat
  mass : Nat
  depth : Option Nat
  deriving DecidableEq, Repr

/-- The drop rank with which a pallet routes to the lane (R31): its depot is on the drop list and there is space and
mass. Absent where it routes to the Transfer Table. -/
def laneRank (depot mass : Nat) (s : State) : Option Nat :=
  match rankOf (dropList s) depot with
  | some r => if admission mass s = .admitted then some r else none
  | none => none

/-- The pallet taken off (R29, R30): a declared one is exchanged with the rear where it must be and popped, with
ORDER_CORRECTED; an undeclared one leaves the deck as it is, with UNDECLARED. -/
def takeOff (p : Tipped) (s : State) : State :=
  match p.depth with
  | none => raise .undeclared p.label p.depot s
  | some d =>
    let t := { s with deck := { s.deck with entries := (exchangeRear d s.deck.entries).dropLast } }
    if d = 0 then t else raise .orderCorrected p.label d t

/-- A tipped pallet put at the end of the lane (R31). -/
def routeToLane (p : Tipped) (rank : Nat) (s : State) : State :=
  settle (announce s { s with lane := s.lane ++ [{ label := p.label, depot := p.depot, rank := rank, mass := p.mass,
                                                   origin := 0, unannounced := false, owed := false }] })

/-- A tipped pallet put in the Transfer Table and selected at once (R31). -/
def routeToTable (p : Tipped) (s : State) : State :=
  selectTarget true p.label (addEntry p.label p.depot p.mass s)

/-- The pallet counted, and the run's termination looked for (R32). -/
def countTip (p : Tipped) (s : State) : State :=
  let t := { s with run := { s.run with
    tipped := min 65535 (s.run.tipped + 1)
    remaining := if s.run.mode = some .counted then s.run.remaining.map (· - 1) else s.run.remaining } }
  let emptied := p.depth.isSome && inboundCount t.deck == 0
  if t.run.mode = some .counted ∧ t.run.remaining = some 0 then terminateRun .count emptied t
  else if emptied then terminateRun .empty false t
  else t

/-- A tipped pallet routed and counted (R28 step 4, R31, R32). -/
def tipPallet (p : Tipped) (s : State) : Result :=
  match laneRank p.depot p.mass s with
  | some r =>
    let t := countTip p (routeToLane p r (takeOff p s))
    accept (.tipOff true none t.run.mode.isSome t.run.remaining t.run.tipped) t
  | none =>
    if Config.tableSlots ≤ s.table.length then refuse .tableFull s
    else
      let t := countTip p (routeToTable p (takeOff p s))
      accept (.tipOff false ((entryOf t p.label).bind (·.state.target)) t.run.mode.isSome t.run.remaining t.run.tipped) t

/-- The tests of TIP OFF in order (R28, R30). -/
def tipOffBody (label : Nat) (depot mass : Option Nat) (s : State) : Result :=
  if s.run.mode.isNone then
    refuse .noRun (if s.deck.entries.isEmpty then recordFault .underflow s else s)
  else if decide (label = 0) || depot.any (fun d => !depotOk d) || mass == some 0 then refuse .badValue s
  else
    match examineLabel s.deck label with
    | some (depth, e) =>
      if e.tag = .outbound then refuse .duplicate s
      else if 3 ≤ depth then refuse .notAtRear s
      else tipPallet { label := e.label, depot := e.depot, mass := e.mass, depth := some depth } s
    | none =>
      match depot, mass with
      | some d, some m =>
        if inLane s label || inHolds s label || inTable s label then refuse .duplicate s
        else tipPallet { label := label, depot := d, mass := clampMass m, depth := none } s
      | _, _ => refuse .badValue s

/-- TIP OFF (R28 to R32). -/
def execTipOff (h : ReqHead) (label : Nat) (depot mass : Option Nat) (s : State) :
    Host.Outcome State Fault Refusal :=
  .next (request h .tipOff (tipOffBody label depot mass) s)

/-! ## LOAD and UNLOAD BACK -/

/-- The deck entry made of a lane entry at LOAD (R38). -/
def loadedEntry (e : LaneEntry) : DeckEntry :=
  { tag := .outbound, label := e.label, depot := e.depot, mass := e.mass, rank := some e.rank, owed := e.owed }

/-- The pallet moved from the lane to the deck (R38). -/
def takeLoad (label : Nat) (deck : Deck) (s : State) : State :=
  settle (recomputeUrgency { s with lane := s.lane.filter (fun x => x.label != label), deck := deck })

/-- The tests and effect of LOAD (R38); the push of a LOAD cannot give FULL (R6, Log 16). -/
def loadBody (label : Nat) (s : State) : Result :=
  match s.lane.find? (fun e => e.label == label) with
  | none => refuse .notInLane s
  | some e =>
    if 0 < inboundCount s.deck then refuse .deckNotClear s
    else if compareRank s.deck e.rank = .behind then refuse .sequence s
    else
      match pushDeck ((s.docking.map (·.capacity)).getD 0) (loadedEntry e) s.deck with
      | .mixed => refuse .deckNotClear s
      | .full => refuse .deckFull (recordFault .overflow s)
      | .placed deck =>
        let t := takeLoad label deck s
        accept (.load (compareRank s.deck e.rank) deck.entries.length t.urgency) t

/-- LOAD (R38). -/
def execLoad (h : ReqHead) (label : Nat) (s : State) : Host.Outcome State Fault Refusal :=
  .next (request h .load (loadBody label) s)

/-- The lane entry made of a deck entry at UNLOAD BACK (R39). -/
def unloadedEntry (e : DeckEntry) : LaneEntry :=
  { label := e.label, depot := e.depot, rank := e.rank.getD 0, mass := e.mass, origin := 0, unannounced := false,
    owed := e.owed }

/-- The rear pallet moved from the deck to the end of the lane (R9, R39). -/
def takeUnload (e : DeckEntry) (s : State) : State :=
  settle (recomputeUrgency { s with
    lane := s.lane ++ [unloadedEntry e]
    deck := { s.deck with entries := s.deck.entries.dropLast } })

/-- The test and effect of UNLOAD BACK (R9, R39). -/
def unloadBody (s : State) : Result :=
  match s.deck.entries.getLast? with
  | none => refuse .deckEmpty (recordFault .underflow s)
  | some e =>
    if e.tag = .outbound then
      let t := takeUnload e s
      accept (.unloadBack e.label t.deck.entries.length t.urgency) t
    else refuse .deckEmpty (recordFault .underflow s)

/-- UNLOAD BACK (R39). -/
def execUnloadBack (h : ReqHead) (s : State) : Host.Outcome State Fault Refusal :=
  .next (request h .unloadBack unloadBody s)

/-! ## DEPART -/

/-- Whether the departure state lets the trailer go (R40). -/
def mayDepart (s : State) : Bool :=
  s.dep.state == some .closed
    || (s.dep.state == some .openBay && (dropList s).isEmpty && s.deck.entries.isEmpty)

/-- The lane entries put in the Transfer Table, oldest first (R41). -/
def abandonLane (lane : List LaneEntry) (s : State) : State :=
  lane.foldl (fun t e => addEntry e.label e.depot e.mass t) s

/-- The docking ended (R18, R42 steps 3 and 4, R61, R137, R153): deck, lane, hold table and owing list cleared, the bay
VACANT, Departure Control at rest with its call number and DONE-owed mark kept. The link's timers run on (Log 42). -/
def endDocking (s : State) : State :=
  { s with
    docking := none
    deck := { s.deck with entries := [] }
    lane := []
    store := { holds := [], owing := [], kept := [] }
    time := { s.time with m := 0, warned := false }
    urgency := 0
    dep := { Departure.initial with callNumber := s.dep.callNumber, doneOwed := s.dep.doneOwed } }

/-- A DEPART taken (R42), with the notices that R27 and R41 raise within it (Log 48). -/
def takeDepart (abandon : Bool) (s : State) : State :=
  let lane := if abandon then s.lane else []
  let t := if s.run.mode.isSome then terminateRun .ended false s else s
  let u := beaconedChange (endDocking (abandonLane lane t))
  lane.foldl (fun x e => selectTarget true e.label x) u

/-- The tests and effect of DEPART (R40 to R42). -/
def departBody (abandon : Bool) (s : State) : Result :=
  if s.docking.isNone then refuse .notDocked s
  else if !mayDepart s then refuse .notClosed s
  else if !s.lane.isEmpty && !abandon then refuse .laneNotEmpty s
  else if abandon && decide (Config.tableSlots - s.table.length < s.lane.length) then refuse .tableFull s
  else
    let t := takeDepart abandon s
    accept (.depart (if abandon then s.lane.length else 0) t.urgency) t

/-- DEPART (R40 to R42). -/
def execDepart (h : ReqHead) (abandon : Bool) (s : State) : Host.Outcome State Fault Refusal :=
  .next (request h .depart (departBody abandon) s)

end Sys2Proof.Machine
end

