-- ==== Sys2Proof/Machine/Intake.lean ====
section
/-! DEFINITION. The meanings of ARRIVE, HALT INTAKE and RESUME INTAKE (spec/07_taking_pallets_in.md), WITHDRAW
(spec/06_offering_pallets.md), CLOSE and REOPEN (spec/08_closing_the_bay.md). -/

namespace Sys2Proof.Machine

/-! ## ARRIVE -/

/-- The lane entry a held pallet becomes (R131): the hold's fields; a reconciliation hold has no depot, rank or mass to
give, and takes those of the request (R146). -/
def heldEntry (h : Hold) (depot rank mass : Nat) : LaneEntry :=
  { label := h.label
    depot := h.depot.getD depot
    rank := h.rank.getD rank
    mass := if h.depot.isSome then h.mass else mass
    origin := h.origin
    unannounced := false
    owed := false }

/-- Whether a held arrival's depot or mass differs from the hold's (R131); never for a reconciliation hold (R146). -/
def heldMismatch (h : Hold) (depot mass : Nat) : Bool :=
  match h.depot with
  | none => false
  | some d => d != depot || h.mass != mass

/-- A held pallet taken in (R131, R133): the hold becomes a lane entry, its RECEIPT is asked for, and the removal of the
hold is handed to Departure Control (Log 11). -/
def arriveHeld (h : Hold) (depot rank mass : Nat) (s : State) : Result :=
  let t := dropHold h.label { s with lane := s.lane ++ [heldEntry h depot rank mass] }
  let r := askReceipt h.label h.origin t
  let u := holdGone (settle r.1)
  accept (.arrive true h.origin u.lane.length r.2 (heldMismatch h depot mass)) u

/-- The lane entry of an unannounced pallet (R132). -/
def unannouncedEntry (label depot rank mass : Nat) (origin : Option Nat) : LaneEntry :=
  { label := label, depot := depot, rank := rank, mass := mass, origin := origin.getD 0, unannounced := true,
    owed := false }

/-- A pallet with no hold taken in where it fits (R132, R133). -/
def arriveUnannounced (label depot rank mass : Nat) (origin : Option Nat) (s : State) : Result :=
  match admission mass s with
  | .noSpace => refuse .noSpace s
  | .noMass => refuse .tooHeavy s
  | .admitted =>
    let t := announce s { s with lane := s.lane ++ [unannouncedEntry label depot rank mass origin] }
    let r := askReceipt label (origin.getD 0) t
    let u := settle r.1
    accept (.arrive false (origin.getD 0) u.lane.length r.2 false) u

/-- The tests and effect of ARRIVE (R130 to R132). -/
def arriveBody (label depot mass : Nat) (origin : Option Nat) (s : State) : Result :=
  if s.docking.isNone then refuse .notDocked s
  else if decide (label = 0) || !depotOk depot || decide (mass = 0)
      || origin.any (fun o => !bayOk o || o == s.straps.bay) then refuse .badValue s
  else if s.dep.state = some .closed then refuse .tooLate s
  else
    match rankOf (dropList s) depot with
    | none => refuse .wrongDepot s
    | some rank =>
      if onDeck s label || inLane s label || inTable s label then refuse .duplicate s
      else
        match s.store.holds.find? (fun h => h.label == label) with
        | some h => arriveHeld h depot rank (clampMass mass) s
        | none => arriveUnannounced label depot rank (clampMass mass) origin s

/-- ARRIVE (R130 to R133). -/
def execArrive (h : ReqHead) (label depot mass : Nat) (origin : Option Nat) (s : State) :
    Host.Outcome State Fault Refusal :=
  .next (request h .arrive (arriveBody label depot mass origin) s)

/-! ## HALT INTAKE and RESUME INTAKE -/

/-- The intake halt flag set where it was clear: the beaconed free spaces become 0, a beaconed change where the last
beaconed ones were above 0 (R127). -/
def takeHalt (s : State) : State :=
  if s.dep.halt then s else handFree (setDep { s.dep with halt := true } s)

/-- The intake halt flag cleared where it was set: a beaconed change where the true free spaces are above 0, whatever
was beaconed last (R128, Log 35). -/
def takeResume (s : State) : State :=
  if s.dep.halt then
    let t := setDep { s.dep with halt := false } s
    if 0 < freeSpaces t then beaconedChange t else t
  else s

/-- The test of HALT INTAKE and RESUME INTAKE, and their reply with the flag and the true free spaces (R127, R128). -/
def intakeBody (take : State → State) (s : State) : Result :=
  if s.docking.isNone then refuse .notDocked s
  else
    let t := take s
    accept (.intake t.dep.halt (freeSpaces t)) t

/-- HALT INTAKE (R127). -/
def execHaltIntake (h : ReqHead) (s : State) : Host.Outcome State Fault Refusal :=
  .next (request h .haltIntake (intakeBody takeHalt) s)

/-- RESUME INTAKE (R128). -/
def execResumeIntake (h : ReqHead) (s : State) : Host.Outcome State Fault Refusal :=
  .next (request h .resumeIntake (intakeBody takeResume) s)

/-! ## WITHDRAW -/

/-- The bay a RELEASE goes to when an entry is withdrawn: the target of an OFFERED or ACCEPTED one (R114). -/
def releaseTarget : TransferState → Option Nat
  | .parked => none
  | .queued _ => none
  | .offered t _ _ _ => some t
  | .accepted t _ => some t

/-- The tests and effect of WITHDRAW (R114). -/
def withdrawBody (label : Nat) (s : State) : Result :=
  if label = 0 then refuse .badValue s
  else
    match entryOf s label with
    | none => refuse .notFound s
    | some e =>
      match releaseTarget e.state with
      | none => accept (.withdraw e.state) (removeEntry label s)
      | some target =>
        match handFrame (.release { origin := s.straps.bay, target := target, label := label }) s with
        | none => refuse .linkBusy s
        | some t => accept (.withdraw e.state) (removeEntry label t)

/-- WITHDRAW (R114). -/
def execWithdraw (h : ReqHead) (label : Nat) (s : State) : Host.Outcome State Fault Refusal :=
  .next (request h .withdraw (withdrawBody label) s)

/-! ## CLOSE and REOPEN -/

/-- The reply of CLOSE and REOPEN: the departure state after the request and the call number. -/
def closingReply (s : State) : ReplyData := .closing s.dep.state s.dep.callNumber

/-- The tests and effect of CLOSE (R140). -/
def closeBody (s : State) : Result :=
  if s.docking.isNone then refuse .notDocked s
  else if s.run.mode.isSome && decide (0 < inboundCount s.deck) then refuse .runActive s
  else if (s.link.line != .joined && decide (0 < s.time.m)) || !hasRoom 0 s.link.queue then refuse .linkBusy s
  else
    let t := if s.dep.state = some .openBay then startCall s else s
    accept (closingReply t) t

/-- CLOSE (R140, R142). -/
def execClose (h : ReqHead) (s : State) : Host.Outcome State Fault Refusal := .next (request h .close closeBody s)

/-- A REOPEN taken (R150): in CALLING and WAITING the call is abandoned; in OPEN the start pending set is emptied. -/
def takeReopen (s : State) : State :=
  match s.dep.state with
  | some .calling => settleReturn (returnToOpen s)
  | some .waiting => settleReturn (returnToOpen s)
  | some .openBay => setDep { s.dep with startPending := [], retry := false } s
  | _ => s

/-- The tests and effect of REOPEN (R150). -/
def reopenBody (s : State) : Result :=
  if s.docking.isNone then refuse .notDocked s
  else if s.dep.state = some .closed then refuse .tooLate s
  else
    let t := takeReopen s
    accept (closingReply t) t

/-- REOPEN (R150). -/
def execReopen (h : ReqHead) (s : State) : Host.Outcome State Fault Refusal := .next (request h .reopen reopenBody s)

end Sys2Proof.Machine
end

