-- ==== Sys2Proof/Machine/Settings.lean ====
section
/-! DEFINITION. The meanings of SET CUTOFF and SET EXPECTED (R22), SET CLOCK (R51) and SET NOTICES (R162). -/

namespace Sys2Proof.Machine

/-- The tests and effect of SET CUTOFF (R22). -/
def setCutoffBody (cutoff : Nat) (s : State) : Result :=
  match s.docking with
  | none => refuse .notDocked s
  | some d =>
    if !minuteOk cutoff then refuse .badValue s
    else
      let t := recomputeM { s with docking := some { d with cutoff := cutoff } }
      accept (.setCutoff t.time.m) t

/-- SET CUTOFF (R22). -/
def execSetCutoff (h : ReqHead) (cutoff : Nat) (s : State) : Host.Outcome State Fault Refusal :=
  .next (request h .setCutoff (setCutoffBody cutoff) s)

/-- The tests and effect of SET EXPECTED (R22). -/
def setExpectedBody (expected : Nat) (s : State) : Result :=
  match s.docking with
  | none => refuse .notDocked s
  | some d =>
    if 52 < expected then refuse .badValue s
    else
      let e := min d.capacity expected
      let t := settle (recomputeUrgency { s with docking := some { d with expected := e } })
      accept (.setExpected e t.urgency) t

/-- SET EXPECTED (R22). -/
def execSetExpected (h : ReqHead) (expected : Nat) (s : State) : Host.Outcome State Fault Refusal :=
  .next (request h .setExpected (setExpectedBody expected) s)

/-- The tests and effect of SET CLOCK (R51): the minute, the seconds counter and the clock-set flag, and, while DOCKED,
M for the new T. -/
def setClockBody (minute : Option Nat) (s : State) : Result :=
  match minute with
  | none => refuse .badValue s
  | some k =>
    if !minuteOk k then refuse .badValue s
    else
      let t := recomputeM (setTime { s.time with minute := k, seconds := 0, clockSet := true } s)
      accept (.setClock t.time.minute t.time.m t.time.source) t

/-- SET CLOCK (R51). -/
def execSetClock (h : ReqHead) (minute : Option Nat) (s : State) : Host.Outcome State Fault Refusal :=
  .next (request h .setClock (setClockBody minute) s)

/-- The tests and effect of SET NOTICES (R162): no flag may stand where no kind does, and the OVERRUN flag reads back
set. -/
def setNoticesBody (mask : FlagWord) (mode : Option DeclineMode) (s : State) : Result :=
  match mode with
  | none => refuse .badValue s
  | some md =>
    if mask &&& ~~~allKinds != 0 then refuse .badValue s
    else
      let m := mask ||| NoticeKind.overrun.flag
      accept (.setNotices m md) { s with notes := { s.notes with mask := m, mode := md } }

/-- SET NOTICES (R162). -/
def execSetNotices (h : ReqHead) (mask : FlagWord) (mode : Option DeclineMode) (s : State) :
    Host.Outcome State Fault Refusal :=
  .next (request h .setNotices (setNoticesBody mask mode) s)

end Sys2Proof.Machine
end

