-- ==== Sys2Proof/Machine/Reads.lean ====
section
/-! DEFINITION. The meanings of the nine READ requests (R37, R77, R95, R116, R136, R156, R157, R160, R161). -/

namespace Sys2Proof.Machine

/-! ## READ STATUS -/

/-- The snapshot of READ STATUS (R156). -/
def statusOf (s : State) : Status :=
  { bay := bayState s
    docking := s.docking
    free := freeSpaces s
    beaconedFree := beaconedFree s
    depth := s.deck.entries.length
    outbound := outboundCount s.deck
    outboundMass := outboundMass s.deck
    rearRank := rearRank s.deck
    deckFault := s.deck.fault
    run := s.run
    source := s.time.source
    goodRun := s.time.goodRun
    clockSet := s.time.clockSet
    minute := s.time.minute
    seconds := s.time.seconds
    fallback := s.time.fallback
    margin := margin s.time
    m := s.time.m
    urgency := s.urgency
    lastUrgency := s.dir.last.urgency
    departure := s.dep.state
    callNumber := s.dep.callNumber
    windowLeft := s.dep.window.map (fun n => Config.windowSeconds - n)
    namedCount := s.dep.named.length
    allowance := s.dep.allowance
    waitLimit := waitLimit s
    startPending := s.dep.startPending
    doneOwed := s.dep.doneOwed
    lamp := s.dep.lamp
    ready := s.dep.ready
    halt := s.dep.halt
    line := s.link.line
    queued := s.link.queue.length
    failures := s.link.failures
    half := s.link.half
    duplicate := s.link.duplicate
    badStrap := s.link.badStrap
    notices := s.notes.queue.length
    overrun := hasOverrun s.notes.queue
    mask := s.notes.mask
    mode := s.notes.mode
    straps := s.straps }

/-- READ STATUS (R156). -/
def execReadStatus (h : ReqHead) (s : State) : Host.Outcome State Fault Refusal :=
  .next (request h .readStatus (fun t => accept (.status (statusOf t)) t) s)

/-! ## READ NOTICE and READ SUMMARY -/

/-- The effect of READ NOTICE (R160): the oldest record leaves the queue. -/
def readNoticeBody (s : State) : Result :=
  accept (.notice s.notes.queue.head?) { s with notes := { s.notes with queue := s.notes.queue.tail } }

/-- READ NOTICE (R160). -/
def execReadNotice (h : ReqHead) (s : State) : Host.Outcome State Fault Refusal :=
  .next (request h .readNotice readNoticeBody s)

/-- The effect of READ SUMMARY (R161): the word is returned and then cleared. -/
def readSummaryBody (s : State) : Result :=
  accept (.summary s.notes.summary) { s with notes := { s.notes with summary := 0 } }

/-- READ SUMMARY (R161). -/
def execReadSummary (h : ReqHead) (s : State) : Host.Outcome State Fault Refusal :=
  .next (request h .readSummary readSummaryBody s)

/-! ## READ DECK and READ LANE -/

/-- The position and entry that an examine by position reports (R3, R157): 0 asks for the rear, which is reported
together with its position, and a position above the depth reads EMPTY, which is an absent entry. Where the
position stands in the reply's bytes is Log 39. -/
def examinePosition (d : Deck) (position : Nat) : Option Nat × Option DeckEntry :=
  if position = 0 then (some d.entries.length, d.entries.getLast?) else (none, d.entries[position - 1]?)

/-- The test and effect of READ DECK (R3, R15, R157): the fault status is handed out and cleared. -/
def readDeckBody (position : Nat) (s : State) : Result :=
  if 52 < position then refuse .badValue s
  else
    let r := examinePosition s.deck position
    accept (.deck s.deck.entries.length (s.docking.map (·.capacity)) r.1 r.2 s.deck.fault)
      { s with deck := { s.deck with fault := none } }

/-- READ DECK (R157). -/
def execReadDeck (h : ReqHead) (position : Nat) (s : State) : Host.Outcome State Fault Refusal :=
  .next (request h .readDeck (readDeckBody position) s)

/-- READ LANE (R36, R37): the advised entry goes with the lane's entries, and its bytes are its label alone (Log 41). -/
def execReadLane (h : ReqHead) (s : State) : Host.Outcome State Fault Refusal :=
  .next (request h .readLane (fun t => accept (.lane t.lane (advised t.lane)) t) s)

/-! ## READ HOLDS -/

/-- The budget as READ HOLDS returns it (R136). -/
def budgetOf (s : State) : Budget :=
  { outbound := outboundCount s.deck
    lane := s.lane.length
    holds := s.store.holds.length
    free := freeSpaces s
    beaconedFree := beaconedFree s
    outboundMass := outboundMass s.deck
    laneMass := laneMass s.lane
    heldMass := heldMass s.store.holds
    capacity := s.docking.map (·.capacity)
    payload := s.docking.map (·.payload)
    spare := s.docking.map (fun d => d.payload - usedMass s) }

/-- READ HOLDS (R136). -/
def execReadHolds (h : ReqHead) (s : State) : Host.Outcome State Fault Refusal :=
  .next (request h .readHolds
    (fun t => accept (.holds t.store.holds t.store.owing t.dep.halt (budgetOf t)) t) s)

/-! ## READ TRANSFER and READ DIRECTORY -/

/-- READ TRANSFER (R116). The open groups are returned in the order in which they were opened (Log 59), the waiting
entries by their labels (Log 58), and the targets are those for which a group has taken a number since reset (Log 50). -/
def execReadTransfer (h : ReqHead) (s : State) : Host.Outcome State Fault Refusal :=
  .next (request h .readTransfer
    (fun t => accept (.transfer t.table t.asm.openGroups ((waitingEntries t).map (·.label)) t.asm.sendList
      t.asm.targets) t) s)

/-- READ DIRECTORY (R95). -/
def execReadDirectory (h : ReqHead) (s : State) : Host.Outcome State Fault Refusal :=
  .next (request h .readDirectory
    (fun t => accept (.directory (t.dir.entries.map (fun e => { entry := e, pledged := pledged t e.bay }))
      t.dir.interval t.dir.timer.isSome t.dir.last) t) s)

/-! ## READ COUNTERS -/

/-- The values of READ COUNTERS (R77, R157). -/
def countersOf (l : Link) : Counters :=
  { errors := l.errors, half := l.half, fails := l.fails, held := l.held, line := l.line, queued := l.queue.length,
    queuedLow := lowCount l.queue, failures := l.failures }

/-- The effect of READ COUNTERS (R77): the counts are returned and cleared and the latch is re-armed. -/
def readCountersBody (s : State) : Result :=
  accept (.counters (countersOf s.link))
    (setLink { s.link with errors := 0, half := false, fails := 0, held := s.link.line == .joined } s)

/-- READ COUNTERS (R77, R157). -/
def execReadCounters (h : ReqHead) (s : State) : Host.Outcome State Fault Refusal :=
  .next (request h .readCounters readCountersBody s)

end Sys2Proof.Machine
end

