-- ==== Sys2Proof/Machine/Restarts.lean ====
section
/-! DEFINITION. The meanings of CLEAR BAY (R165) and RESTART LINK (R82, R166). -/

namespace Sys2Proof.Machine

/-! ## CLEAR BAY -/

/-- Every block as CLEAR BAY leaves it (R18, R43, R58, R61, R83, R96, R117, R137, R153, R165, R168): the straps, the
time, the port and the pins are kept. The shutter level found is the last counted one (R164, Log 61). -/
def clearBay (s : State) : State :=
  { s with
    notes := Notices.initial
    docking := none
    deck := { entries := [], fault := none }
    lane := []
    run := { mode := none, remaining := some 0, tipped := 0,
             lastReason := if s.run.mode.isSome then .abort else s.run.lastReason }
    time := { s.time with m := 0, warned := false }
    urgency := 0
    link := { Link.initial s.straps with quiet := none, badStrap := s.link.badStrap }
    dir := Directory.initial
    table := []
    asm := { openGroups := [], sendList := [], targets := [] }
    store := { holds := [], owing := [], kept := [] }
    dep := Departure.initial }

/-- The effect of CLEAR BAY. -/
def clearBayBody (s : State) : Result :=
  let t := clearBay s
  accept (.clearBay t.link.line t.urgency) t

/-- CLEAR BAY (R165). -/
def execClearBay (h : ReqHead) (s : State) : Host.Outcome State Fault Refusal :=
  .next (request h .clearBay clearBayBody s)

/-! ## RESTART LINK -/

/-- What the flushing of a frame brings (R82): an owed RECEIPT or DONE is owed again, and every other frame is lost.
What it does to the group of an OFFER is in `restartGroups`. -/
def flushFrame (b : Body) (s : State) : State :=
  match b with
  | .receipt m => { s with lane := setLaneOwed m.label true s.lane, deck := setDeckOwed m.label true s.deck }
  | .done _ => setDep { s.dep with doneOwed := true } s
  | _ => s

/-- The transmit queue flushed (R82, steps 1 and 2). A beacon that waits for the end of the abandoned attempt is lost with
the queue: no replacement is built before the flush (R79, Log 54). -/
def flushQueue (s : State) : State :=
  let t := s.link.queue.foldl (fun u f => flushFrame f.body u) s
  restartGroups (setLink { t.link with queue := [], beaconWaiting := false } t)

/-- RESTART LINK carried out (R82). -/
def restartLink (s : State) : State :=
  let t := flushQueue s
  let u := setLink { t.link with duplicate := false, rejoin := none } t
  let v := if u.link.line = .joined then leaveJoined .listening u else u
  let w := if strapValid v.straps then enterListening none v else setLink { v.link with line := .detached, failures := 0 } v
  offerRoom w

/-- The effect of RESTART LINK: the reply carries the line state and the number of frames flushed (R82). -/
def restartLinkBody (s : State) : Result :=
  let t := restartLink s
  accept (.restartLink t.link.line s.link.queue.length) t

/-- RESTART LINK (R82, R166). -/
def execRestartLink (h : ReqHead) (s : State) : Host.Outcome State Fault Refusal :=
  .next (request h .restartLink restartLinkBody s)

end Sys2Proof.Machine
end

