-- ==== Sys2Proof/Machine/PortEvents.lean ====
section
/-! DEFINITION. The meanings of the bay port's own events (R154, R155): BUSY, BAD FRAME, UNKNOWN, the inter-byte
timeout, the end of a reply, and a byte discarded. -/

namespace Sys2Proof.Machine

/-- A request frame that begins while a request is in progress (R154). -/
def busyFrame (seq : Nat) : State → State := live fun s => if s.port.inProgress then recordBusy seq s else s

/-- BUSY (R154). -/
def execBusy (seq : Nat) (s : State) : Host.Outcome State Fault Refusal := .next (busyFrame seq s)

/-- BAD FRAME (R155): refused with the sequence number, or 0 where it was not received. -/
def execBadFrame (seq : Option Nat) (s : State) : Host.Outcome State Fault Refusal :=
  .next (refuseFrame (seq.getD 0) .badFrame s)

/-- UNKNOWN (R155): a code that names no request. -/
def execUnknown (seq _code : Nat) (s : State) : Host.Outcome State Fault Refusal :=
  .next (refuseFrame seq .unknown s)

/-- INTER-BYTE TIMEOUT (R155): more than 20 ms between two bytes makes the frame a broken one. -/
def execInterByteTimeout (seq : Option Nat) (s : State) : Host.Outcome State Fault Refusal :=
  .next (refuseFrame (seq.getD 0) .badFrame s)

/-- REPLY SENT (R154). -/
def execReplySent (s : State) : Host.Outcome State Fault Refusal := .next (live replyDone s)

/-- A byte that starts no request frame is discarded with no reply (R155, test 1). -/
def execNonStartByteDiscarded (_byte : Nat) (s : State) : Host.Outcome State Fault Refusal := .next s

end Sys2Proof.Machine
end

