-- ==== Sys2Proof/Machine/Frames.lean ====
section
/-! DEFINITION. The meanings of the eight frames taken from the floor link (R64): what the Route Directory, the Hold
Table, the Transfer Table and Departure Control do with each kind. -/

namespace Sys2Proof.Machine

/-! ## BEACON -/

/-- The bay state and departure state of a beacon's codes; absent where a code names none (Log 15). -/
def beaconStates (m : BeaconMsg) : Option (BayState × Option DepState) :=
  match BayState.ofCode m.bayCode, DepState.ofCode m.depCode with
  | some b, some d => some (b, d)
  | _, _ => none

/-- The fields a beacon must have to be taken into account (R88). -/
def beaconSound (m : BeaconMsg) (b : BayState) (d : Option DepState) : Bool :=
  dropsOk m.drops && decide (m.minutes ≤ 720 ∧ m.free ≤ 52 ∧ 4 ≤ m.interval ∧ m.interval ≤ 64)
    && ((b == .vacant) == d.isNone)

/-- The change count after one more creation or change (R87). -/
def nextCount (n : Nat) : Nat := if Config.changeLimit ≤ n then 0 else n + 1

/-- The declined sets when the change count goes back to 0: every record loses its stamp (R87). -/
def dropStamps (t : List TransferEntry) : List TransferEntry :=
  t.map (fun e => { e with declined := e.declined.map (fun r => { r with stamp := none }) })

/-- The change count advanced, the declined sets losing their stamps where it goes back to 0 (R87). -/
def advanceCount (s : State) : State :=
  let n := nextCount s.dir.changes
  let t := setDir { s.dir with changes := n } s
  if n = 0 then setTable (dropStamps t.table) t else t

/-- An entry made of a beacon, with a stamp and an unreachable mark. -/
def entryOfBeacon (m : BeaconMsg) (b : BayState) (d : Option DepState) (stamp : Nat) (mark : Option Nat) : DirEntry :=
  { bay := m.bay, bayState := b, departure := d, drops := m.drops, minutes := m.minutes, since := 0,
    urgency := m.urgency, free := m.free, interval := m.interval, stamp := stamp, unreachable := mark }

/-- An entry put in the directory in bay order, in the place of the bay's old one. -/
def putEntry (e : DirEntry) : List DirEntry → List DirEntry
  | [] => [e]
  | x :: xs => if e.bay < x.bay then e :: x :: xs else if e.bay = x.bay then e :: xs else x :: putEntry e xs

/-- An entry written into the directory. -/
def storeEntry (e : DirEntry) (s : State) : State := setDir { s.dir with entries := putEntry e s.dir.entries } s

/-- Whether a beacon changes an entry (R88). -/
def entryChanged (e : DirEntry) (m : BeaconMsg) (b : BayState) (d : Option DepState) : Bool :=
  e.bayState != b || e.departure != d || e.drops != m.drops || e.free != m.free || significant e.urgency m.urgency

/-- Whether a changed entry makes its bay a poorer choice, so that QUEUED entries go back to selection (R91). -/
def poorer (e : DirEntry) (m : BeaconMsg) (d : Option DepState) : Bool :=
  e.drops != m.drops || d != some .openBay || m.free == 0

/-- What the directory hands to the Transfer Table after a beacon (R91, R92): `old` is the entry as it stood, and
`parked` the entries PARKED when the event was taken. -/
def beaconEvent (m : BeaconMsg) (b : BayState) (d : Option DepState) (old : Option DirEntry) (parked : List Nat)
    (s : State) : State :=
  match old with
  | none => if b = .vacant then applyDone m.bay parked s else reselect [] parked s
  | some e =>
    if b = .vacant then applyDone m.bay (if entryChanged e m b d then parked else []) s
    else if entryChanged e m b d then
      reselect (if poorer e m d then labelsWhere (queuedTo m.bay) s else []) parked s
    else s

/-- A sound beacon written into the directory (R88) and handed on (R91). -/
def noteBeacon (m : BeaconMsg) (b : BayState) (d : Option DepState) (s : State) : State :=
  let parked := parkedLabels s
  let old := dirEntry s m.bay
  match old with
  | none =>
    let t := advanceCount s
    beaconEvent m b d old parked (storeEntry (entryOfBeacon m b d t.dir.changes none) t)
  | some e =>
    if entryChanged e m b d then
      let t := advanceCount s
      beaconEvent m b d old parked (storeEntry (entryOfBeacon m b d t.dir.changes e.unreachable) t)
    else beaconEvent m b d old parked (storeEntry (entryOfBeacon m b d e.stamp e.unreachable) s)

/-- An origin that has closed or gone VACANT: it leaves the owing list and its kept number is absent (R119, R135). -/
def forgetOrigin (bay : Nat) (s : State) : State :=
  settle (setStore { s.store with
    owing := s.store.owing.filter (fun b => b != bay)
    kept := s.store.kept.filter (fun k => k.bay != bay) } s)

/-- A BEACON handed to the Route Directory, and to the Hold Table where it shows VACANT (R64, R88, R135, Log 14). -/
def takeBeacon (m : BeaconMsg) (s : State) : State :=
  let t := match beaconStates m with
    | some (b, d) => if beaconSound m b d then noteBeacon m b d s else s
    | none => s
  if m.bayCode = BayState.vacant.code then forgetOrigin m.bay t else t

/-- BEACON (R88, R91). -/
def execBeacon (key : Nat) (m : BeaconMsg) (s : State) : Host.Outcome State Fault Refusal :=
  .next (takeFrame key (.beacon m) (takeBeacon m) s)

/-! ## OFFER -/

/-- Whether an OFFER addressed to the own bay is evaluated (R122, test 3). -/
def offerSound (m : OfferMsg) : Bool :=
  (m.size == 1 || m.size == 2 || m.size == 4 || m.size == 8) && decide (m.items.length ≤ m.size)
    && m.items.all (fun i => decide (0 < i.label) && depotOk i.depot && decide (0 < i.mass))

/-- The hold an accepted item makes (R124). -/
def holdFor (origin : Nat) (i : OfferItem) (rank : Nat) (s : State) : Hold :=
  { label := i.label, depot := some i.depot, rank := some rank, mass := clampMass i.mass, origin := origin,
    minute := s.time.minute }

/-- Whether an item comes too late for the door (R60, R123 check 8). -/
def tooLate (origin handling : Nat) (s : State) : Bool :=
  decide (60 * s.time.m < 60 * transit origin s.straps.bay + handling)

/-- The verdict of one item, and the new hold of an ACCEPT at check 12 (R123, R124). -/
def judgeItem (origin : Nat) (i : OfferItem) (s : State) : Verdict × Option Hold :=
  match s.docking with
  | none => (.noTrailer, none)
  | some d =>
    if s.dep.state != some .openBay then (.closing, none)
    else if s.dep.halt then (.stalled, none)
    else
      match rankOf d.drops i.depot with
      | none => (.wrongDepot, none)
      | some rank =>
        if s.store.holds.any (fun h => h.label == i.label && h.origin == origin) then (.accept, none)
        else if onDeck s i.label || inLane s i.label || inHolds s i.label || inTable s i.label then (.duplicate, none)
        else if compareRank s.deck rank = .behind then (.loadedPast, none)
        else if tooLate origin d.handling s then (.tooLate, none)
        else if d.capacity ≤ s.store.holds.length then (.tableFull, none)
        else
          match admission (clampMass i.mass) s with
          | .noSpace => (.full, none)
          | .noMass => (.heavy, none)
          | .admitted => (.accept, some (holdFor origin i rank s))

/-- One item evaluated on the budget the items before it have left (R123, R124). -/
def evalItem (origin : Nat) (acc : State × List AnswerItem) (i : OfferItem) : State × List AnswerItem :=
  let r := judgeItem origin i acc.1
  let t := match r.2 with
    | none => acc.1
    | some h => addHold h acc.1
  (t, acc.2 ++ [{ label := i.label, verdict := r.1.code }])

/-- The number kept for an origin (R119). -/
def keptFor (s : State) (bay : Nat) : Option Nat := (s.store.kept.find? (fun k => k.bay == bay)).map (·.number)

/-- Whether a group number is older than the one kept: 1 to 127 behind it (R119). -/
def olderGroup (kept : Option Nat) (group : Nat) : Bool :=
  match kept with
  | none => false
  | some k => decide (1 ≤ (k + 256 - group % 256) % 256 ∧ (k + 256 - group % 256) % 256 ≤ 127)

/-- A bay put on the owing list in bay order, where it is not a member already. -/
def addOwing (bay : Nat) : List Nat → List Nat
  | [] => [bay]
  | x :: xs => if bay < x then bay :: x :: xs else if bay = x then x :: xs else x :: addOwing bay xs

/-- A number kept for an origin, in bay order. -/
def putKept (k : KeptNumber) : List KeptNumber → List KeptNumber
  | [] => [k]
  | x :: xs => if k.bay < x.bay then k :: x :: xs else if k.bay = x.bay then k :: xs else x :: putKept k xs

/-- The owing list and the number kept after an OFFER, while DOCKED (R119). -/
def noteGroup (m : OfferMsg) (s : State) : State :=
  if s.docking.isNone || olderGroup (keptFor s m.origin) m.group then s
  else
    setStore { s.store with
      owing := if m.items.length = m.size then addOwing m.origin s.store.owing
               else s.store.owing.filter (fun b => b != m.origin)
      kept := putKept { bay := m.origin, number := m.group } s.store.kept } s

/-- The ANSWER of an evaluated OFFER (R125, step 1). -/
def answerOffer (m : OfferMsg) (items : List AnswerItem) (s : State) : State :=
  if items.isEmpty then s
  else handOrDrop (.answer { target := s.straps.bay, origin := m.origin, group := m.group, items := items }) s

/-- An OFFER evaluated as one event (R123 to R125). -/
def evalOffer (m : OfferMsg) (s : State) : State :=
  let r := m.items.foldl (evalItem m.origin) (s, [])
  settle (announce s (noteGroup m (answerOffer m r.2 r.1)))

/-- An OFFER handed to the Hold Table (R122). -/
def takeOffer (m : OfferMsg) (s : State) : State :=
  if m.target = s.straps.bay ∧ hasRoom 1 s.link.queue = true ∧ offerSound m = true then evalOffer m s else s

/-- OFFER (R122 to R125). -/
def execOffer (key : Nat) (m : OfferMsg) (s : State) : Host.Outcome State Fault Refusal :=
  .next (takeFrame key (.offer m) (takeOffer m) s)

/-! ## ANSWER -/

/-- The decline-reported mark of a bay cleared (R108). -/
def clearMark (bay : Nat) (s : State) : State :=
  { s with notes := { s.notes with marks := s.notes.marks.filter (fun b => b != bay) } }

/-- The decline-reported mark of a bay set (R108). -/
def setMark (bay : Nat) (s : State) : State :=
  { s with notes := { s.notes with marks := addOwing bay s.notes.marks } }

/-- A record placed last in a declined set of at most 4, one for each bay (R108). -/
def recordDecline (r : DeclineRecord) (l : List DeclineRecord) : List DeclineRecord :=
  let others := l.filter (fun x => x.bay != r.bay)
  others.drop (others.length + 1 - Config.declinedLimit) ++ [r]

/-- Whether the mode reports a decline, from the bay's mark as it stood before (R108). -/
def reportsDecline (mode : DeclineMode) (marked : Bool) : Bool :=
  match mode with
  | .all => true
  | .first => !marked
  | .none => false

/-- A current ACCEPT (R107). -/
def acceptCurrent (bay label : Nat) (s : State) : State :=
  let t := leaveGroups label (setTransferState label (.accepted bay (some (transit s.straps.bay bay + 5))) s)
  clearMark bay (raise .deliver label bay t)

/-- A current decline (R108): the record, the entry on its way back to selection, and the notice. -/
def declineCurrent (bay label : Nat) (v : Verdict) (s : State) : State :=
  let r : DeclineRecord := { bay := bay, stamp := (dirEntry s bay).map (·.stamp) }
  let t := setTable (s.table.map (fun e =>
    if e.label = label then { e with declined := recordDecline r e.declined } else e)) s
  let u := goBack label t
  let w := if reportsDecline u.notes.mode (u.notes.marks.contains bay) then
      raise .declined label (twoParts bay v.code) u
    else u
  setMark bay w

/-- One item of an ANSWER from a bay (R107 to R109): the state after it, and the labels that go back to selection. -/
def answerItem (bay : Nat) (acc : State × List Nat) (i : AnswerItem) : State × List Nat :=
  match Verdict.ofCode i.verdict with
  | none => acc
  | some v =>
    if i.label = 0 then acc
    else
      let current := (entryOf acc.1 i.label).any (offeredTo bay)
      match current, v with
      | true, .accept => (acceptCurrent bay i.label acc.1, acc.2)
      | true, _ => (declineCurrent bay i.label v acc.1, acc.2 ++ [i.label])
      | false, .accept =>
        (handOrDrop (.release { origin := acc.1.straps.bay, target := bay, label := i.label }) acc.1, acc.2)
      | false, _ => acc

/-- An ANSWER handed to the Transfer Table (R107): its items in order, and then selection for the entries declined. -/
def takeAnswer (m : AnswerMsg) (s : State) : State :=
  if m.origin = s.straps.bay then
    let r := m.items.foldl (answerItem m.target) (s, [])
    reselect r.2 [] r.1
  else s

/-- ANSWER (R107 to R109). -/
def execAnswer (key : Nat) (m : AnswerMsg) (s : State) : Host.Outcome State Fault Refusal :=
  .next (takeFrame key (.answer m) (takeAnswer m) s)

/-! ## RELEASE and RECEIPT -/

/-- A released label leaves the named set in CALLING (R144). -/
def unname (label : Nat) (s : State) : State :=
  if s.dep.state = some .calling then
    setDep { s.dep with named := s.dep.named.filter (fun n => n.label != label) } s
  else s

/-- A RELEASE handed to the Hold Table (R129). -/
def takeRelease (m : ReleaseMsg) (s : State) : State :=
  if m.target = s.straps.bay then
    match s.store.holds.find? (fun h => h.label == m.label) with
    | some h => if h.origin = m.origin then holdGone (settle (removeHold m.label (unname m.label s))) else s
    | none => if inLane s m.label || onDeck s m.label then raise .lateRelease m.label m.origin s else s
  else s

/-- RELEASE (R129, R144). -/
def execRelease (key : Nat) (m : ReleaseMsg) (s : State) : Host.Outcome State Fault Refusal :=
  .next (takeFrame key (.release m) (takeRelease m) s)

/-- A RECEIPT handed to the Transfer Table (R113). -/
def takeReceipt (m : ReceiptMsg) (s : State) : State :=
  if m.origin = s.straps.bay ∨ m.origin = 0 then
    if inTable s m.label then raise .delivered m.label m.bay (removeEntry m.label s)
    else if m.origin = s.straps.bay then raise .strayReceipt m.label m.bay s
    else s
  else s

/-- RECEIPT (R113). -/
def execReceipt (key : Nat) (m : ReceiptMsg) (s : State) : Host.Outcome State Fault Refusal :=
  .next (takeFrame key (.receipt m) (takeReceipt m) s)

/-! ## CALL, HOLD and DONE -/

/-- The ACCEPTED labels toward a caller named in HOLD frames of up to 8 (R143, step 1). -/
def nameAccepted (m : CallMsg) (s : State) : State :=
  let labels := labelsWhere (acceptedTo m.bay) s
  (chunksOf Config.frameItems labels.length labels).foldl (fun t ls =>
    handOrDrop (.hold { bay := t.straps.bay, caller := m.bay, number := m.number, labels := ls }) t) s

/-- A CALL handed to the Transfer Table (R143). -/
def takeCall (m : CallMsg) (s : State) : State :=
  let t := nameAccepted m s
  reselect (labelsWhere (queuedTo m.bay) t) [] t

/-- CALL (R143). -/
def execCall (key : Nat) (m : CallMsg) (s : State) : Host.Outcome State Fault Refusal :=
  .next (takeFrame key (.call m) (takeCall m) s)

/-- A label added to the named set, where it is new and there is room (R144). -/
def addNamed (bay : Nat) (l : List NamedRecord) (label : Nat) : List NamedRecord :=
  if l.any (fun n => n.label == label) || decide (Config.namedLimit ≤ l.length) then l
  else l ++ [{ label := label, bay := bay }]

/-- A HOLD handed to Departure Control (R144, R148). In WAITING the labels of the frame are reconciled together, step by
step (Log 60). -/
def takeHold (m : HoldMsg) (s : State) : State :=
  let labels := m.labels.filter (· != 0)
  if m.caller = s.straps.bay ∧ m.number = s.dep.callNumber then
    match s.dep.state with
    | some .calling => setDep { s.dep with named := labels.foldl (addNamed m.bay) s.dep.named } s
    | some .waiting => reconcileNamed (labels.map (fun l => { label := l, bay := m.bay })) s
    | _ => s
  else s

/-- HOLD (R144, R148). -/
def execHold (key : Nat) (m : HoldMsg) (s : State) : Host.Outcome State Fault Refusal :=
  .next (takeFrame key (.hold m) (takeHold m) s)

/-- A DONE handed to the Transfer Table and to the Hold Table (R115, R135). -/
def takeDone (m : DoneMsg) (s : State) : State := forgetOrigin m.bay (applyDone m.bay [] s)

/-- DONE (R115, R135). -/
def execDone (key : Nat) (m : DoneMsg) (s : State) : Host.Outcome State Fault Refusal :=
  .next (takeFrame key (.done m) (takeDone m) s)

end Sys2Proof.Machine
end

