-- ==== Sys2Proof/Machine/LinkEvents.lean ====
section
/-! DEFINITION. The meanings of the floor link's own events (spec/04_the_floor_link.md): bad and objected frames,
duplicate bays, the quiet gap, contention, failures and completions of an attempt, free room, and the timers of joining
and rejoining. -/

namespace Sys2Proof.Machine

/-- An event of the line that the station hears (R65, R167): not in DETACHED, and not while the reset pin is held. -/
def heard (f : State → State) : State → State := live fun s => if s.link.line = .detached then s else f s

/-- A bad frame heard (R72, R76). -/
def execBadFrameHeard (s : State) : Host.Outcome State Fault Refusal := .next (heard badFrame s)

/-- A good frame that another station objected to is dropped and not counted (R72, R76). -/
def execObjectedFrameDropped (s : State) : Host.Outcome State Fault Refusal := .next (heard (lineActive false) s)

/-- A good frame that bears the own bay number (R75). -/
def execDuplicateBay (kind : FrameKind) (s : State) : Host.Outcome State Fault Refusal :=
  .next (heard (fun t => duplicateHeard kind (lineActive false t)) s)

/-! ## The present attempt -/

/-- The frame of the present attempt (R69). -/
def onLineFrame (s : State) : Option Queued := s.link.queue.find? (·.onLine)

/-- The head of a queue marked as the frame of the present attempt. -/
def markHead : List Queued → List Queued
  | [] => []
  | f :: fs => { f with onLine := true } :: fs

/-- The quiet gap ends and the head of the queue contends (R69). -/
def startAttempt (s : State) : State :=
  if s.link.line = .joined ∧ onLineFrame s = none then setQueue (markHead s.link.queue) s else s

/-- QUIET GAP START (R69). -/
def execQuietGapStart (s : State) : Host.Outcome State Fault Refusal := .next (live startAttempt s)

/-- Another station's key heard while the own key is sent: the station withdraws where it sent a 1 and reads a 0
(R70). -/
def contend (key : Nat) (s : State) : State :=
  match onLineFrame s with
  | none => s
  | some f => if s.link.line = .joined ∧ withdraws f.key key = true then endAttempt s else s

/-- LOST CONTENTION (R70). -/
def execLostContention (key : Nat) (s : State) : Host.Outcome State Fault Refusal := .next (live (contend key) s)

/-- A transmit failure of the present attempt (R71, R73, R74). -/
def failAttempt (s : State) : State :=
  if s.link.line = .joined ∧ (onLineFrame s).isSome then
    let t := endAttempt s
    let n := min Config.failureLimit (t.link.failures + 1)
    let u := setLink { t.link with failures := n } t
    if n = Config.failureLimit then thresholdFault u else u
  else s

/-- TRANSMIT FAILURE (R71, R73, R74). -/
def execTransmitFailure (s : State) : Host.Outcome State Fault Refusal := .next (live failAttempt s)

/-- The target of a completed OFFER. -/
def offerTarget : Body → Option Nat
  | .offer m => some m.target
  | _ => none

/-- The own frame has been sent (R73): it leaves the queue, an OFFER is reported to the Offer Assembler (R105), a beacon
that waited takes its place (R79), and the room is offered (R81). -/
def completeAttempt (s : State) : State :=
  match onLineFrame s with
  | none => s
  | some f =>
    if s.link.line = .joined then
      let t := setLink { s.link with queue := s.link.queue.filter (fun g => !g.onLine), failures := 0 } s
      let u := match offerTarget f.body with
        | some target => completeOffer target t
        | none => t
      offerRoom (placeWaiting u)
    else s

/-- TRANSMIT COMPLETE (R73). -/
def execTransmitComplete (s : State) : Host.Outcome State Fault Refusal := .next (live completeAttempt s)

/-- QUEUE ROOM OFFERED (R81). -/
def execQueueRoomOffered (s : State) : Host.Outcome State Fault Refusal := .next (live offerRoom s)

/-! ## Joining and rejoining -/

/-- One second of quiet while LISTENING (R66): JOINED, with the quiet timer at 1 s (Log 49). It is no measure of the
oscillator's time, which the next timed command carries (Log 3). -/
def quietJoin (s : State) : State :=
  if s.link.line = .listening then enterJoined .quiet (setLink { s.link with quiet := some Config.quietLimit } s)
  else s

/-- QUIET TIMER EXPIRY (R66, R67). -/
def execQuietTimerExpiry (s : State) : Host.Outcome State Fault Refusal := .next (live quietJoin s)

/-- REJOIN TIMER EXPIRY (R68). -/
def execRejoinTimerExpiry (s : State) : Host.Outcome State Fault Refusal := .next (live expireRejoin s)

end Sys2Proof.Machine
end

