-- ==== Sys2Proof/Machine/ClockEvents.lean ====
section
/-! DEFINITION. The meanings of the clock's and the timers' events: the hall clock pulse, its silence, the second
boundary (spec/03_shift_time_and_urgency.md), and the expiries (Log 4). -/

namespace Sys2Proof.Machine

/-- HALL CLOCK PULSE (R45): the oscillator time since the last oscillator-timed command passes, and the pulse comes. -/
def execHallClockPulse (elapsed : Nat) (s : State) : Host.Outcome State Fault Refusal :=
  .next (live (fun t => pulseArrives (passTime elapsed t)) s)

/-- The silence measurement reaches 1.5 s and restarts (R45). -/
def silencePassed (s : State) : State :=
  let t := passTime (Config.silenceLimit - s.time.silence) s
  silenceEvent (setTime { t.time with silence := 0 } t)

/-- PULSE SILENCE (R45). -/
def execPulseSilence (s : State) : Host.Outcome State Fault Refusal := .next (live silencePassed s)

/-- The oscillator's next second boundary (R46). -/
def oscillatorBoundary (s : State) : State := makeBoundary true (passTime s.time.untilBoundary s)

/-- SECOND BOUNDARY (R46). -/
def execSecondBoundary (s : State) : Host.Outcome State Fault Refusal := .next (live oscillatorBoundary s)

/-- BEACON TIMER EXPIRY (R86). -/
def execBeaconTimerExpiry (s : State) : Host.Outcome State Fault Refusal := .next (live expireBeacon s)

/-- DIRECTORY ENTRY EXPIRY (R89). -/
def execDirectoryEntryExpiry (bay : Nat) (s : State) : Host.Outcome State Fault Refusal :=
  .next (live (expireEntry bay) s)

/-- UNREACHABLE MARK EXPIRY (R90). -/
def execUnreachableMarkExpiry (bay : Nat) (s : State) : Host.Outcome State Fault Refusal :=
  .next (live (expireUnreachable bay) s)

/-- HOLD TIMER EXPIRY (R102). -/
def execHoldTimerExpiry (target : Nat) (s : State) : Host.Outcome State Fault Refusal :=
  .next (live (expireHold target) s)

/-- ANSWER TIMER EXPIRY (R110, R111). -/
def execAnswerTimerExpiry (target group : Nat) (s : State) : Host.Outcome State Fault Refusal :=
  .next (live (expireAnswer target group) s)

/-- TRAVEL TIMER EXPIRY (R112). -/
def execTravelTimerExpiry (label : Nat) (s : State) : Host.Outcome State Fault Refusal :=
  .next (live (expireTravel label) s)

/-- CALL WINDOW END (R145 to R147). -/
def execCallWindowEnd (s : State) : Host.Outcome State Fault Refusal := .next (live expireWindow s)

/-- WAIT LIMIT EXPIRY (R148). -/
def execWaitLimitExpiry (s : State) : Host.Outcome State Fault Refusal := .next (live expireWait s)

/-- AUTOMATIC START (R141). -/
def execAutomaticStart (s : State) : Host.Outcome State Fault Refusal := .next (live retryStart s)

end Sys2Proof.Machine
end

