-- ==== Sys2Proof/Machine/LineEvents.lean ====
section
/-! DEFINITION. The meanings of the single lines' events: the shutter line (R141, R149, R150, R164), power-on and the
reset pin (R163, R167). -/

namespace Sys2Proof.Machine

/-- The shutter level replaced. -/
def setShutter (level : Bool) (s : State) : State := { s with pins := { s.pins with shutter := level } }

/-- The shutter-closed line goes active (R141). -/
def shutterDown (s : State) : State :=
  if s.pins.shutter then s
  else
    let t := setShutter true s
    if t.dep.state = some .openBay then autoStart .shutter t else t

/-- SHUTTER CLOSED (R141, R164). -/
def execShutterClosed (s : State) : Host.Outcome State Fault Refusal := .next (live shutterDown s)

/-- The cause SHUTTER leaves the start pending set (R141). -/
def dropShutter (s : State) : State :=
  setDep { s.dep with startPending := s.dep.startPending.filter (fun c => c != .shutter) } s

/-- The shutter-closed line goes inactive (R141, R149, R150). -/
def shutterUp (s : State) : State :=
  if s.pins.shutter then
    let t := dropShutter (setShutter false s)
    match t.dep.state with
    | some .calling => abandonCall .shutter t
    | some .waiting => abandonCall .shutter t
    | some .closed => raise .closed CloseCause.shutterOpened.code t.dep.callNumber t
    | _ => t
  else s

/-- SHUTTER OPENED (R149, R150, R164). -/
def execShutterOpened (s : State) : Host.Outcome State Fault Refusal := .next (live shutterUp s)

/-- POWER ON (R167): the straps are sampled and every block takes its power-on state. -/
def execPowerOn (straps : Straps) (shutter : Bool) (s : State) : Host.Outcome State Fault Refusal :=
  .next (State.powerOn straps shutter s.pending)

/-- The reset pin goes active (R167): no request and no reply, the transmitter off, until power-on. -/
def holdReset (s : State) : State :=
  { s with
    pins := { s.pins with resetHeld := true }
    port := { inProgress := false, busy := [], reply := none }
    link := { s.link with queue := offLine s.link.queue } }

/-- RESET ASSERTED (R167). -/
def execResetAsserted (s : State) : Host.Outcome State Fault Refusal := .next (holdReset s)

end Sys2Proof.Machine
end

