-- ==== Sys2Proof/Machine/Dispatch.lean ====
section
/-! DEFINITION. The meaning of every command: one arm for each constructor of `Instr`. -/

namespace Sys2Proof.Machine

/-- A command's effect on everything but the queue of commands. -/
def exec (i : Instr) (s : State) : Host.Outcome State Fault Refusal :=
  match i with
  | .dock h p => Sys2Proof.Machine.execDock h p s
  | .declare h label depot mass => Sys2Proof.Machine.execDeclare h label depot mass s
  | .tipStart h mode => Sys2Proof.Machine.execTipStart h mode s
  | .tipOff h label depot mass => Sys2Proof.Machine.execTipOff h label depot mass s
  | .tipEnd h => Sys2Proof.Machine.execTipEnd h s
  | .load h label => Sys2Proof.Machine.execLoad h label s
  | .unloadBack h => Sys2Proof.Machine.execUnloadBack h s
  | .arrive h label depot mass origin => Sys2Proof.Machine.execArrive h label depot mass origin s
  | .depart h abandon => Sys2Proof.Machine.execDepart h abandon s
  | .withdraw h label => Sys2Proof.Machine.execWithdraw h label s
  | .haltIntake h => Sys2Proof.Machine.execHaltIntake h s
  | .resumeIntake h => Sys2Proof.Machine.execResumeIntake h s
  | .close h => Sys2Proof.Machine.execClose h s
  | .reopen h => Sys2Proof.Machine.execReopen h s
  | .setCutoff h cutoff => Sys2Proof.Machine.execSetCutoff h cutoff s
  | .setExpected h expected => Sys2Proof.Machine.execSetExpected h expected s
  | .setClock h minute => Sys2Proof.Machine.execSetClock h minute s
  | .setNotices h mask mode => Sys2Proof.Machine.execSetNotices h mask mode s
  | .readStatus h => Sys2Proof.Machine.execReadStatus h s
  | .readNotice h => Sys2Proof.Machine.execReadNotice h s
  | .readSummary h => Sys2Proof.Machine.execReadSummary h s
  | .readDeck h position => Sys2Proof.Machine.execReadDeck h position s
  | .readLane h => Sys2Proof.Machine.execReadLane h s
  | .readHolds h => Sys2Proof.Machine.execReadHolds h s
  | .readTransfer h => Sys2Proof.Machine.execReadTransfer h s
  | .readDirectory h => Sys2Proof.Machine.execReadDirectory h s
  | .readCounters h => Sys2Proof.Machine.execReadCounters h s
  | .clearBay h => Sys2Proof.Machine.execClearBay h s
  | .restartLink h => Sys2Proof.Machine.execRestartLink h s
  | .busy seq => Sys2Proof.Machine.execBusy seq s
  | .badFrame seq => Sys2Proof.Machine.execBadFrame seq s
  | .unknown seq code => Sys2Proof.Machine.execUnknown seq code s
  | .interByteTimeout seq => Sys2Proof.Machine.execInterByteTimeout seq s
  | .replySent => Sys2Proof.Machine.execReplySent s
  | .beacon key m => Sys2Proof.Machine.execBeacon key m s
  | .offer key m => Sys2Proof.Machine.execOffer key m s
  | .answer key m => Sys2Proof.Machine.execAnswer key m s
  | .release key m => Sys2Proof.Machine.execRelease key m s
  | .receipt key m => Sys2Proof.Machine.execReceipt key m s
  | .call key m => Sys2Proof.Machine.execCall key m s
  | .hold key m => Sys2Proof.Machine.execHold key m s
  | .done key m => Sys2Proof.Machine.execDone key m s
  | .badFrameHeard => Sys2Proof.Machine.execBadFrameHeard s
  | .objectedFrameDropped => Sys2Proof.Machine.execObjectedFrameDropped s
  | .duplicateBay kind => Sys2Proof.Machine.execDuplicateBay kind s
  | .quietGapStart => Sys2Proof.Machine.execQuietGapStart s
  | .lostContention heard => Sys2Proof.Machine.execLostContention heard s
  | .transmitFailure => Sys2Proof.Machine.execTransmitFailure s
  | .transmitComplete => Sys2Proof.Machine.execTransmitComplete s
  | .queueRoomOffered => Sys2Proof.Machine.execQueueRoomOffered s
  | .quietTimerExpiry => Sys2Proof.Machine.execQuietTimerExpiry s
  | .rejoinTimerExpiry => Sys2Proof.Machine.execRejoinTimerExpiry s
  | .hallClockPulse elapsed => Sys2Proof.Machine.execHallClockPulse elapsed s
  | .pulseSilence => Sys2Proof.Machine.execPulseSilence s
  | .secondBoundary => Sys2Proof.Machine.execSecondBoundary s
  | .beaconTimerExpiry => Sys2Proof.Machine.execBeaconTimerExpiry s
  | .directoryEntryExpiry bay => Sys2Proof.Machine.execDirectoryEntryExpiry bay s
  | .unreachableMarkExpiry bay => Sys2Proof.Machine.execUnreachableMarkExpiry bay s
  | .holdTimerExpiry target => Sys2Proof.Machine.execHoldTimerExpiry target s
  | .answerTimerExpiry target group => Sys2Proof.Machine.execAnswerTimerExpiry target group s
  | .travelTimerExpiry label => Sys2Proof.Machine.execTravelTimerExpiry label s
  | .callWindowEnd => Sys2Proof.Machine.execCallWindowEnd s
  | .waitLimitExpiry => Sys2Proof.Machine.execWaitLimitExpiry s
  | .automaticStart => Sys2Proof.Machine.execAutomaticStart s
  | .shutterClosed => Sys2Proof.Machine.execShutterClosed s
  | .shutterOpened => Sys2Proof.Machine.execShutterOpened s
  | .powerOn straps shutter => Sys2Proof.Machine.execPowerOn straps shutter s
  | .resetAsserted => Sys2Proof.Machine.execResetAsserted s
  | .nonStartByteDiscarded byte => Sys2Proof.Machine.execNonStartByteDiscarded byte s

end Sys2Proof.Machine
end

