-- ==== Sys2Proof/Machine/Step.lean ====
section
/-! DEFINITION. One step: the command at the front of the queue is carried out (Log 2). -/

namespace Sys2Proof.Machine

/-- The queue of commands replaced. -/
def State.withPending (s : State) (p : List Instr) : State := { s with pending := p }

/-- One step: the front command carried out on the state with the queue's rest; with no command waiting the block idles
(Log 2). -/
def step (s : State) : Host.Outcome State Fault Refusal :=
  match s.pending with
  | [] => .next s
  | c :: rest => exec c (s.withPending rest)

/-- The command that a table word spells put at the front of the queue; no word spells one, since no row of the table
has bits (Log 2). -/
def State.withFetchWord (s : State) (nbits w : Nat) : State :=
  match decodeTableWord nbits w with
  | none => s
  | some c => s.withPending (c :: s.pending)

end Sys2Proof.Machine
end

