-- ==== Sys2Proof/Machine/LinkFormats.lean ====
section
/-! DEFINITION. The bytes of a floor link frame (R63, spec/09_the_bay_port.md 9.7): how a frame is written, how a
receiver judges the bytes it heard, and the command that the bytes make. -/

namespace Sys2Proof

/-! ## Fields, most significant byte first -/

/-- A number in two bytes. -/
def be16 (n : Nat) : List Byte := [byteOf (n / 256), byteOf n]

/-- A number in four bytes. -/
def be32 (n : Nat) : List Byte := [byteOf (n / 16777216), byteOf (n / 65536), byteOf (n / 256), byteOf n]

/-- What reading a field gives: the value and the bytes after it. -/
abbrev Read (α : Type) := Option (α × List Byte)

/-- A number of one byte. -/
def read8 : List Byte → Read Nat
  | a :: r => some (a.toNat, r)
  | _ => none

/-- A number of two bytes. -/
def read16 : List Byte → Read Nat
  | a :: b :: r => some (a.toNat * 256 + b.toNat, r)
  | _ => none

/-- A number of four bytes. -/
def read32 : List Byte → Read Nat
  | a :: b :: c :: d :: r => some (a.toNat * 16777216 + b.toNat * 65536 + c.toNat * 256 + d.toNat, r)
  | _ => none

/-- A field and then the rest of a reading. -/
def andThen {α β : Type} (x : Read α) (f : α → List Byte → Option β) : Option β :=
  match x with
  | none => none
  | some (a, r) => f a r

/-- A list of n fields. -/
def readMany {α : Type} (one : List Byte → Read α) : Nat → List Byte → Read (List α)
  | 0, r => some ([], r)
  | n + 1, r => andThen (one r) fun a r => andThen (readMany one n r) fun as r => some (a :: as, r)

/-- A reading that must end with the last byte. -/
def ends {α : Type} (a : α) (r : List Byte) : Option α := if r.isEmpty then some a else none

/-! ## The check -/

/-- One bit of the cyclic check: the register shifts left, and the generator x^16 + x^12 + x^5 + 1 is taken off where
the bit shifted out differs from the bit taken in (R63). -/
def checkBit (c : BitVec 16) (bit : Bool) : BitVec 16 :=
  if c.msb != bit then (c <<< 1) ^^^ 4129#16 else c <<< 1

/-- One byte of the check, most significant bit first. -/
def checkByte (c : BitVec 16) (b : Byte) : BitVec 16 :=
  [7, 6, 5, 4, 3, 2, 1, 0].foldl (fun c i => checkBit c (b.getLsbD i)) c

/-- The 16-bit cyclic check of a list of bytes, with starting value all ones (R63). -/
def check16 (bytes : List Byte) : Nat := (bytes.foldl checkByte 65535#16).toNat

/-! ## Payloads -/

/-- One item of an OFFER. -/
def OfferItem.bytes (i : OfferItem) : List Byte := be32 i.label ++ be16 i.depot ++ [byteOf i.mass]

/-- One item of an ANSWER. -/
def AnswerItem.bytes (i : AnswerItem) : List Byte := be32 i.label ++ [byteOf i.verdict]

/-- The payload of a frame (9.7). -/
def Body.bytes : Body → List Byte
  | .beacon m => [byteOf m.bay, byteOf (m.bayCode * 16 + m.depCode), byteOf m.drops.length]
      ++ m.drops.flatMap be16 ++ be16 m.minutes ++ [byteOf m.urgency, byteOf m.free, byteOf m.interval]
  | .offer m => [byteOf m.origin, byteOf m.target, byteOf m.group, byteOf m.size, byteOf m.items.length]
      ++ m.items.flatMap OfferItem.bytes
  | .answer m => [byteOf m.target, byteOf m.origin, byteOf m.group, byteOf m.items.length]
      ++ m.items.flatMap AnswerItem.bytes
  | .release m => [byteOf m.origin, byteOf m.target] ++ be32 m.label
  | .receipt m => [byteOf m.bay, byteOf m.origin] ++ be32 m.label
  | .call m => [byteOf m.bay, byteOf m.number]
  | .hold m => [byteOf m.bay, byteOf m.caller, byteOf m.number, byteOf m.labels.length] ++ m.labels.flatMap be32
  | .done m => [byteOf m.bay]

/-- The kind of a kind code. -/
def FrameKind.ofCode : Nat → Option FrameKind
  | 1 => some .beacon
  | 2 => some .offer
  | 3 => some .answer
  | 4 => some .release
  | 5 => some .receipt
  | 6 => some .call
  | 7 => some .hold
  | 8 => some .done
  | _ => none

/-- An item of an OFFER read. -/
def readOfferItem (r : List Byte) : Read OfferItem :=
  andThen (read32 r) fun label r => andThen (read16 r) fun depot r => andThen (read8 r) fun mass r =>
    some ({ label := label, depot := depot, mass := mass }, r)

/-- An item of an ANSWER read. -/
def readAnswerItem (r : List Byte) : Read AnswerItem :=
  andThen (read32 r) fun label r => andThen (read8 r) fun verdict r => some ({ label := label, verdict := verdict }, r)

/-- A BEACON payload read. -/
def readBeacon (r : List Byte) : Option Body :=
  andThen (read8 r) fun bay r => andThen (read8 r) fun st r => andThen (read8 r) fun d r =>
  andThen (readMany read16 d r) fun drops r => andThen (read16 r) fun minutes r => andThen (read8 r) fun u r =>
  andThen (read8 r) fun free r => andThen (read8 r) fun interval r =>
    ends (.beacon { bay := bay, bayCode := st / 16, depCode := st % 16, drops := drops, minutes := minutes,
                    urgency := u, free := free, interval := interval }) r

/-- An OFFER payload read. -/
def readOffer (r : List Byte) : Option Body :=
  andThen (read8 r) fun origin r => andThen (read8 r) fun target r => andThen (read8 r) fun group r =>
  andThen (read8 r) fun size r => andThen (read8 r) fun k r => andThen (readMany readOfferItem k r) fun items r =>
    ends (.offer { origin := origin, target := target, group := group, size := size, items := items }) r

/-- An ANSWER payload read. -/
def readAnswer (r : List Byte) : Option Body :=
  andThen (read8 r) fun target r => andThen (read8 r) fun origin r => andThen (read8 r) fun group r =>
  andThen (read8 r) fun c r => andThen (readMany readAnswerItem c r) fun items r =>
    ends (.answer { target := target, origin := origin, group := group, items := items }) r

/-- A HOLD payload read. -/
def readHold (r : List Byte) : Option Body :=
  andThen (read8 r) fun bay r => andThen (read8 r) fun caller r => andThen (read8 r) fun number r =>
  andThen (read8 r) fun h r => andThen (readMany read32 h r) fun labels r =>
    ends (.hold { bay := bay, caller := caller, number := number, labels := labels }) r

/-- A payload read, with the length its kind requires for the counts it carries (R63). -/
def FrameKind.read (k : FrameKind) (r : List Byte) : Option Body :=
  match k with
  | .beacon => readBeacon r
  | .offer => readOffer r
  | .answer => readAnswer r
  | .release =>
    andThen (read8 r) fun origin r => andThen (read8 r) fun target r => andThen (read32 r) fun label r =>
      ends (.release { origin := origin, target := target, label := label }) r
  | .receipt =>
    andThen (read8 r) fun bay r => andThen (read8 r) fun origin r => andThen (read32 r) fun label r =>
      ends (.receipt { bay := bay, origin := origin, label := label }) r
  | .call => andThen (read8 r) fun bay r => andThen (read8 r) fun number r => ends (.call { bay := bay, number := number }) r
  | .hold => readHold r
  | .done => andThen (read8 r) fun bay r => ends (.done { bay := bay }) r

/-! ## Frames -/

/-- The bytes the check of a frame covers: from the key through the payload (R63). -/
def frameHead (key : Nat) (b : Body) : List Byte :=
  be16 key ++ [byteOf b.kind.code, byteOf b.bytes.length] ++ b.bytes

/-- A floor link frame as bytes, up to its check (9.7); the objection slot follows as one bit time. -/
def frameBytes (key : Nat) (b : Body) : List Byte := frameHead key b ++ be16 (check16 (frameHead key b))

/-- A frame judged by the bytes received (R63): the key and the payload of a good frame, and nothing for a bad one. -/
def judgeFrame (bytes : List Byte) : Option (Nat × Body) :=
  andThen (read16 bytes) fun key r => andThen (read8 r) fun kind r => andThen (read8 r) fun n r =>
    match FrameKind.ofCode kind with
    | none => none
    | some k =>
      if 64 < n ∨ r.length ≠ n + 2 ∨ r.drop n ≠ be16 (check16 (bytes.take (n + 4))) then none
      else
        match k.read (r.take n) with
        | none => none
        | some b => if Machine.framingOk key b then some (key, b) else none

/-- The command of a frame taken. -/
def Body.command (key : Nat) : Body → Instr
  | .beacon m => .beacon key m
  | .offer m => .offer key m
  | .answer m => .answer key m
  | .release m => .release key m
  | .receipt m => .receipt key m
  | .call m => .call key m
  | .hold m => .hold key m
  | .done m => .done key m

/-- The command that a frame heard at a bay makes, where no station objects to it (R72, R75). -/
def heardFrame (own : Nat) (bytes : List Byte) : Instr :=
  match judgeFrame bytes with
  | none => .badFrameHeard
  | some (key, b) => if Machine.keyBay key = own then .duplicateBay b.kind else b.command key

end Sys2Proof
end

