-- ==== Sys2Proof/Machine/PortFormats.lean ====
section
/-! DEFINITION. The bytes of the bay port (R155, spec/09_the_bay_port.md 9.7): how a request frame is written and read,
the order of its form tests, and how a reply is written. -/

namespace Sys2Proof

/-! ## Codes -/

/-- The code of a request: its position in the list of R155. -/
def Machine.Request.code : Machine.Request → Nat
  | .dock => 1
  | .declare => 2
  | .tipStart => 3
  | .tipOff => 4
  | .tipEnd => 5
  | .load => 6
  | .unloadBack => 7
  | .arrive => 8
  | .depart => 9
  | .withdraw => 10
  | .haltIntake => 11
  | .resumeIntake => 12
  | .close => 13
  | .reopen => 14
  | .setCutoff => 15
  | .setExpected => 16
  | .setClock => 17
  | .setNotices => 18
  | .readStatus => 19
  | .readNotice => 20
  | .readSummary => 21
  | .readDeck => 22
  | .readLane => 23
  | .readHolds => 24
  | .readTransfer => 25
  | .readDirectory => 26
  | .readCounters => 27
  | .clearBay => 28
  | .restartLink => 29

/-- The 29 requests in the order of R155. -/
def Machine.allRequests : List Machine.Request :=
  [.dock, .declare, .tipStart, .tipOff, .tipEnd, .load, .unloadBack, .arrive, .depart, .withdraw]
    ++ [.haltIntake, .resumeIntake, .close, .reopen, .setCutoff, .setExpected, .setClock, .setNotices, .readStatus]
    ++ [.readNotice, .readSummary, .readDeck, .readLane, .readHolds, .readTransfer, .readDirectory, .readCounters]
    ++ [.clearBay, .restartLink]

/-- The request of a code, where it names one. -/
def Machine.Request.ofCode (n : Nat) : Option Machine.Request := Machine.allRequests.find? (fun r => r.code == n)

/-- The code of a decline notice mode, in the order of R162. -/
def DeclineMode.code : DeclineMode → Nat
  | .all => 1
  | .first => 2
  | .none => 3

/-- The mode of a code, where it names one. -/
def DeclineMode.ofCode : Nat → Option DeclineMode
  | 1 => some .all
  | 2 => some .first
  | 3 => some .none
  | _ => Option.none

/-! ## Requests -/

/-- The flag of an optional parameter that is present, at its place in the options byte (Log 34). -/
def flagAt (bit : Nat) (present : Bool) : Nat := if present then 2 ^ bit else 0

/-- The bytes of an optional parameter. -/
def optBytes (f : Nat → List Byte) : Option Nat → List Byte
  | none => []
  | some n => f n

/-- A number in one byte, as a list. -/
def be8 (n : Nat) : List Byte := [byteOf n]

/-- The options byte and the parameters of a request, in the order of its description (9.7); absent for a command that
is no request, and for a DOCK or a SET CLOCK without the parameters it must give. -/
def requestParams : Instr → Option (Machine.Request × ReqHead × Nat × List Byte)
  | .dock h p =>
    match p.capacity, p.payload, p.cutoff with
    | some c, some pl, some k =>
      some (.dock, h, flagAt 0 p.handling.isSome + flagAt 1 p.expected.isSome,
        be8 p.drops.length ++ p.drops.flatMap be16 ++ be8 c ++ be16 pl ++ optBytes be8 p.handling
          ++ optBytes be8 p.expected ++ be16 k)
    | _, _, _ => none
  | .declare h label depot mass => some (.declare, h, 0, be32 label ++ be16 depot ++ be8 mass)
  | .tipStart h (.counted n) => some (.tipStart, h, 0, be8 1 ++ be8 n)
  | .tipStart h .openEnded => some (.tipStart, h, 0, be8 2)
  | .tipStart h .neither => some (.tipStart, h, 0, be8 0)
  | .tipOff h label depot mass =>
    some (.tipOff, h, flagAt 0 depot.isSome + flagAt 1 mass.isSome,
      be32 label ++ optBytes be16 depot ++ optBytes be8 mass)
  | .tipEnd h => some (.tipEnd, h, 0, [])
  | .load h label => some (.load, h, 0, be32 label)
  | .unloadBack h => some (.unloadBack, h, 0, [])
  | .arrive h label depot mass origin =>
    some (.arrive, h, flagAt 0 origin.isSome, be32 label ++ be16 depot ++ be8 mass ++ optBytes be8 origin)
  | .depart h abandon => some (.depart, h, flagAt 0 abandon, [])
  | .withdraw h label => some (.withdraw, h, 0, be32 label)
  | .haltIntake h => some (.haltIntake, h, 0, [])
  | .resumeIntake h => some (.resumeIntake, h, 0, [])
  | .close h => some (.close, h, 0, [])
  | .reopen h => some (.reopen, h, 0, [])
  | .setCutoff h k => some (.setCutoff, h, 0, be16 k)
  | .setExpected h e => some (.setExpected, h, 0, be8 e)
  | .setClock h minute => minute.map (fun m => (.setClock, h, 0, be16 m))
  | .setNotices h mask mode =>
    some (.setNotices, h, 0, be32 mask.toNat ++ be8 ((mode.map DeclineMode.code).getD 0))
  | .readStatus h => some (.readStatus, h, 0, [])
  | .readNotice h => some (.readNotice, h, 0, [])
  | .readSummary h => some (.readSummary, h, 0, [])
  | .readDeck h position => some (.readDeck, h, 0, be8 position)
  | .readLane h => some (.readLane, h, 0, [])
  | .readHolds h => some (.readHolds, h, 0, [])
  | .readTransfer h => some (.readTransfer, h, 0, [])
  | .readDirectory h => some (.readDirectory, h, 0, [])
  | .readCounters h => some (.readCounters, h, 0, [])
  | .clearBay h => some (.clearBay, h, 0, [])
  | .restartLink h => some (.restartLink, h, 0, [])
  | _ => none

/-- The bytes of a request that its check covers: from the length to the last parameter. -/
def requestHead (r : Machine.Request) (h : ReqHead) (options : Nat) (params : List Byte) : List Byte :=
  be8 (3 + params.length) ++ be8 h.seq ++ be8 r.code ++ be8 options ++ params

/-- The bytes of a request frame (9.7). -/
def requestBytes (i : Instr) : Option (List Byte) :=
  (requestParams i).map fun x =>
    let head := requestHead x.1 x.2.1 x.2.2.1 x.2.2.2
    [byteOf 165] ++ head ++ be16 (check16 head)

/-- An optional parameter read where its flag is set. -/
def readOpt (one : List Byte → Read Nat) (present : Bool) (r : List Byte) : Read (Option Nat) :=
  if present then andThen (one r) fun n r => some (some n, r) else some (none, r)

/-- The parameters of DOCK read. -/
def readDock (h : ReqHead) (o : Nat) (r : List Byte) : Option Instr :=
  andThen (read8 r) fun d r => andThen (readMany read16 d r) fun drops r => andThen (read8 r) fun c r =>
  andThen (read16 r) fun p r => andThen (readOpt read8 (o.testBit 0) r) fun hs r =>
  andThen (readOpt read8 (o.testBit 1) r) fun e r => andThen (read16 r) fun k r =>
    ends (.dock h { drops := drops, capacity := some c, payload := some p, handling := hs, expected := e,
                    cutoff := some k }) r

/-- The parameters of TIP START read: COUNTED carries its count, OPEN none (Log 23). -/
def readTipStart (h : ReqHead) (r : List Byte) : Option Instr :=
  andThen (read8 r) fun mode r =>
    match mode with
    | 1 => andThen (read8 r) fun n r => ends (.tipStart h (.counted n)) r
    | 2 => ends (.tipStart h .openEnded) r
    | _ => ends (.tipStart h .neither) r

/-- The parameters of TIP OFF read. -/
def readTipOff (h : ReqHead) (o : Nat) (r : List Byte) : Option Instr :=
  andThen (read32 r) fun label r => andThen (readOpt read16 (o.testBit 0) r) fun depot r =>
  andThen (readOpt read8 (o.testBit 1) r) fun mass r => ends (.tipOff h label depot mass) r

/-- The parameters of ARRIVE read. -/
def readArrive (h : ReqHead) (o : Nat) (r : List Byte) : Option Instr :=
  andThen (read32 r) fun label r => andThen (read16 r) fun depot r => andThen (read8 r) fun mass r =>
  andThen (readOpt read8 (o.testBit 0) r) fun origin r => ends (.arrive h label depot mass origin) r

/-- The parameters of SET NOTICES read. -/
def readSetNotices (h : ReqHead) (r : List Byte) : Option Instr :=
  andThen (read32 r) fun mask r => andThen (read8 r) fun mode r =>
    ends (.setNotices h (BitVec.ofNat 32 mask) (DeclineMode.ofCode mode)) r

/-- A request read from its options byte and its parameters, where they have the number and width called for (R155,
test 4). -/
def Machine.Request.read (q : Machine.Request) (h : ReqHead) (o : Nat) (r : List Byte) : Option Instr :=
  match q with
  | .dock => readDock h o r
  | .declare =>
    andThen (read32 r) fun label r => andThen (read16 r) fun depot r => andThen (read8 r) fun mass r =>
      ends (.declare h label depot mass) r
  | .tipStart => readTipStart h r
  | .tipOff => readTipOff h o r
  | .tipEnd => ends (.tipEnd h) r
  | .load => andThen (read32 r) fun label r => ends (.load h label) r
  | .unloadBack => ends (.unloadBack h) r
  | .arrive => readArrive h o r
  | .depart => ends (.depart h (o.testBit 0)) r
  | .withdraw => andThen (read32 r) fun label r => ends (.withdraw h label) r
  | .haltIntake => ends (.haltIntake h) r
  | .resumeIntake => ends (.resumeIntake h) r
  | .close => ends (.close h) r
  | .reopen => ends (.reopen h) r
  | .setCutoff => andThen (read16 r) fun k r => ends (.setCutoff h k) r
  | .setExpected => andThen (read8 r) fun e r => ends (.setExpected h e) r
  | .setClock => andThen (read16 r) fun m r => ends (.setClock h (some m)) r
  | .setNotices => readSetNotices h r
  | .readStatus => ends (.readStatus h) r
  | .readNotice => ends (.readNotice h) r
  | .readSummary => ends (.readSummary h) r
  | .readDeck => andThen (read8 r) fun p r => ends (.readDeck h p) r
  | .readLane => ends (.readLane h) r
  | .readHolds => ends (.readHolds h) r
  | .readTransfer => ends (.readTransfer h) r
  | .readDirectory => ends (.readDirectory h) r
  | .readCounters => ends (.readCounters h) r
  | .clearBay => ends (.clearBay h) r
  | .restartLink => ends (.restartLink h) r

/-- The command of a request whose parameters have not the form called for: its head says so, and its parameters are of
no account (R155, test 4). -/
def Machine.Request.malformed (q : Machine.Request) (seq : Nat) : Instr :=
  let h : ReqHead := { seq := seq, formOk := false }
  match q with
  | .dock => .dock h { drops := [], capacity := none, payload := none, handling := none, expected := none,
                       cutoff := none }
  | .declare => .declare h 0 0 0
  | .tipStart => .tipStart h .neither
  | .tipOff => .tipOff h 0 none none
  | .tipEnd => .tipEnd h
  | .load => .load h 0
  | .unloadBack => .unloadBack h
  | .arrive => .arrive h 0 0 0 none
  | .depart => .depart h false
  | .withdraw => .withdraw h 0
  | .haltIntake => .haltIntake h
  | .resumeIntake => .resumeIntake h
  | .close => .close h
  | .reopen => .reopen h
  | .setCutoff => .setCutoff h 0
  | .setExpected => .setExpected h 0
  | .setClock => .setClock h none
  | .setNotices => .setNotices h 0 none
  | .readStatus => .readStatus h
  | .readNotice => .readNotice h
  | .readSummary => .readSummary h
  | .readDeck => .readDeck h 0
  | .readLane => .readLane h
  | .readHolds => .readHolds h
  | .readTransfer => .readTransfer h
  | .readDirectory => .readDirectory h
  | .readCounters => .readCounters h
  | .clearBay => .clearBay h
  | .restartLink => .restartLink h

/-- A whole request frame with a good check, by its code and its parameters (R155, tests 3 and 4). -/
def goodRequest (seq code o : Nat) (params : List Byte) : Instr :=
  match Machine.Request.ofCode code with
  | none => .unknown seq code
  | some q => (q.read { seq := seq, formOk := true } o params).getD (q.malformed seq)

/-- The command that the bytes received where a frame would begin make, while no request is in progress (R155). -/
def heardRequest (bytes : List Byte) : Option Instr :=
  match bytes with
  | [] => none
  | start :: r =>
    if start.toNat ≠ 165 then some (.nonStartByteDiscarded start.toNat)
    else
      match r with
      | n :: seq :: code :: o :: rest =>
        let len := n.toNat
        if len < 3 ∨ 32 < len ∨ rest.length ≠ len - 3 + 2
            ∨ rest.drop (len - 3) ≠ be16 (check16 ([n, seq, code, o] ++ rest.take (len - 3))) then
          some (.badFrame (some seq.toNat))
        else some (goodRequest seq.toNat code.toNat o.toNat (rest.take (len - 3)))
      | _ :: seq :: _ => some (.badFrame (some seq.toNat))
      | _ => some (.badFrame none)

/-! ## Replies -/

namespace Machine

/-- The code of a refusal: its position in the list of R155. -/
def RefusalCode.code : RefusalCode → Nat
  | .busy => 1
  | .badFrame => 2
  | .unknown => 3
  | .badValue => 4
  | .notDocked => 5
  | .alreadyDocked => 6
  | .clockUnset => 7
  | .cutoffPassed => 8
  | .runActive => 9
  | .noRun => 10
  | .deckFull => 11
  | .deckEmpty => 12
  | .notAtRear => 13
  | .deckNotClear => 14
  | .sequence => 15
  | .notInLane => 16
  | .duplicate => 17
  | .wrongDepot => 18
  | .noSpace => 19
  | .tooHeavy => 20
  | .tooLate => 21
  | .tableFull => 22
  | .notClosed => 23
  | .laneNotEmpty => 24
  | .notFound => 25
  | .linkBusy => 26

/-- The code of a tip mode, in the order of R24. -/
def TipMode.code : TipMode → Nat
  | .counted => 1
  | .openEnded => 2

/-- The code of a source state, in the order of R44. -/
def ClockSource.code : ClockSource → Nat
  | .reference => 1
  | .fallback => 2
  | .returning => 3

/-- The code of a tag, in the order of R2; EMPTY is the third. -/
def Tag.code : Tag → Nat
  | .inbound => 1
  | .outbound => 2

/-- The code of a compare outcome, in the order of R12. -/
def Compare.code : Compare → Nat
  | .openDeck => 1
  | .ahead => 2
  | .level => 3
  | .behind => 4

/-- The code of a group kind, in the order of R99; a resend is the fourth (R116). -/
def ClosedGroup.kindCode (g : ClosedGroup) : Nat :=
  if g.resend then 4
  else
    match g.kind with
    | .full => 1
    | .short => 2
    | .empty => 3

/-- The code of a start cause, in the order of R138. -/
def StartCause.code : StartCause → Nat
  | .shutter => 1
  | .autocloseReady => 2
  | .autocloseCutoff => 3

/-- A flag or a mark in one byte: 1 where it is set (Log 34). -/
def flagByte (b : Bool) : List Byte := be8 (if b then 1 else 0)

/-- The run state in one byte, in the order of R24: IDLE is 1 and RUNNING 2. -/
def runStateByte (running : Bool) : List Byte := be8 (if running then 2 else 1)

/-- A list preceded by its count. -/
def counted {α : Type} (f : α → List Byte) (l : List α) : List Byte := be8 l.length ++ l.flatMap f

/-- A value that may be absent, which is coded 0. -/
def optCode {α : Type} (f : α → Nat) (o : Option α) : Nat := (o.map f).getD 0

/-- The docking record. -/
def Docking.bytes (d : Docking) : List Byte :=
  counted be16 d.drops ++ be8 d.capacity ++ be16 d.payload ++ be8 d.handling ++ be8 d.expected ++ be16 d.cutoff

/-- A deck entry as READ DECK returns it; a position that reads EMPTY carries the tag alone. -/
def deckEntryBytes : Option DeckEntry → List Byte
  | none => be8 3 ++ be32 0 ++ be16 0 ++ be8 0 ++ be8 0 ++ flagByte false
  | some e => be8 e.tag.code ++ be32 e.label ++ be16 e.depot ++ be8 e.mass ++ be8 (e.rank.getD 0) ++ flagByte e.owed

/-- A lane entry. -/
def LaneEntry.bytes (e : LaneEntry) : List Byte :=
  be32 e.label ++ be16 e.depot ++ be8 e.rank ++ be8 e.mass ++ be8 e.origin ++ flagByte e.unannounced ++ flagByte e.owed

/-- A hold. -/
def Hold.bytes (h : Hold) : List Byte :=
  be32 h.label ++ be16 (h.depot.getD 0) ++ be8 (h.rank.getD 0) ++ be8 h.mass ++ be8 h.origin ++ be16 h.minute

/-- The code of a transfer state, in the order of R97. -/
def TransferState.code : TransferState → Nat
  | .parked => 1
  | .queued _ => 2
  | .offered _ _ _ _ => 3
  | .accepted _ _ => 4

/-- The seconds an answer timer has left; an expired one reads 0 (Log 55). -/
def AnswerTimer.value : AnswerTimer → Nat
  | .left n => n
  | .expired => 0

/-- The bay a transfer state names, 0 where it names none. -/
def TransferState.bay : TransferState → Nat
  | .parked => 0
  | .queued t => t
  | .offered t _ _ _ => t
  | .accepted t _ => t

/-- The state of a transfer entry with its fields: target, group number, send count, answer timer and
travel timer. A travel timer that has run out reads 0, as one with 0 minutes left does (R97, R116, Log 55). -/
def TransferState.bytes (st : TransferState) : List Byte :=
  be8 st.code ++ be8 st.bay ++
    match st with
    | .offered _ g n timer => be8 g ++ be8 n ++ be8 timer.value ++ be8 0
    | .accepted _ travel => be8 0 ++ be8 0 ++ be8 0 ++ be8 (travel.getD 0)
    | _ => be8 0 ++ be8 0 ++ be8 0 ++ be8 0

/-- A record of a declined set. -/
def DeclineRecord.bytes (r : DeclineRecord) : List Byte := be8 r.bay ++ be32 (r.stamp.getD 0)

/-- A transfer entry. -/
def TransferEntry.bytes (e : TransferEntry) : List Byte :=
  be32 e.label ++ be16 e.depot ++ be8 e.mass ++ e.state.bytes ++ flagByte e.astray
    ++ counted DeclineRecord.bytes e.declined

/-- An open group. -/
def OpenGroup.bytes (g : OpenGroup) : List Byte := be8 g.target ++ counted be32 g.members ++ be8 g.timer

/-- A closed group: its phase is WAITING, coded 1, or IN QUEUE, coded 2. -/
def ClosedGroup.bytes (g : ClosedGroup) : List Byte :=
  be8 g.target ++ be8 (g.number.getD 0) ++ counted be32 g.members ++ be8 g.kindCode
    ++ be8 (if g.inQueue then 2 else 1)

/-- What is kept for a target: the counter, and the last-closed record with whether it closed full, behind a byte that
says whether there is one (Log 44). -/
def TargetRecord.bytes (r : TargetRecord) : List Byte :=
  be8 r.bay ++ be8 r.next ++
    match r.last with
    | none => flagByte false ++ be8 0 ++ flagByte false
    | some c => flagByte true ++ be8 c.number ++ flagByte c.full

/-- The departure state in one byte, 0 where it is absent. -/
def depByte (d : Option DepState) : List Byte := be8 (optCode DepState.code d)

/-- A directory entry as READ DIRECTORY returns it. The unreachable mark takes one byte, its seconds left, 0 where it is
clear (R95, Log 55). -/
def DirLine.bytes (l : DirLine) : List Byte :=
  let e := l.entry
  be8 e.bay ++ be8 e.bayState.code ++ depByte e.departure ++ counted be16 e.drops ++ be16 e.minutes ++ be8 e.urgency
    ++ be8 e.free ++ be8 e.interval ++ be8 e.since ++ be32 e.stamp ++ be8 (e.unreachable.getD 0) ++ be8 l.pledged

/-- The last beaconed content. -/
def BeaconContent.bytes (c : BeaconContent) : List Byte :=
  be8 c.bayState.code ++ depByte c.departure ++ counted be16 c.drops ++ be8 c.free ++ be8 c.urgency

/-- The budget of READ HOLDS. -/
def Budget.bytes (b : Budget) : List Byte :=
  be8 b.outbound ++ be8 b.lane ++ be8 b.holds ++ be8 b.free ++ be8 b.beaconedFree ++ be16 b.outboundMass
    ++ be16 b.laneMass ++ be16 b.heldMass ++ be16 (b.spare.getD 0)

/-- A notice record, 12 bytes (9.7). -/
def Notice.bytes (r : Notice) : List Byte :=
  be8 r.kind.code ++ be16 r.minute ++ be8 r.second ++ be32 r.param1 ++ be32 r.param2

/-- The straps as sampled. -/
def strapBytes (p : Straps) : List Byte :=
  be8 p.bay ++ be8 p.rate ++ be8 p.size ++ flagByte p.noFinal ++ flagByte p.autoClose

/-- The snapshot of READ STATUS, block by block (R156). -/
def Status.bytes (s : Status) : List Byte :=
  be8 s.bay.code ++ (match s.docking with | none => [] | some d => d.bytes) ++ be8 s.free ++ be8 s.beaconedFree
    ++ be8 s.depth ++ be8 s.outbound ++ be16 s.outboundMass ++ be8 (s.rearRank.getD 0)
    ++ flagByte s.deckFault.isSome ++ be8 (optCode FaultDir.code s.deckFault)
    ++ runStateByte s.run.mode.isSome ++ be8 (optCode TipMode.code s.run.mode) ++ be8 (s.run.remaining.getD 0)
    ++ be16 s.run.tipped ++ be8 s.run.lastReason.code
    ++ be8 s.source.code ++ be8 s.goodRun ++ flagByte s.clockSet ++ be16 s.minute ++ be8 s.seconds ++ be16 s.fallback
    ++ be8 s.margin ++ be16 s.m ++ be8 s.urgency ++ be8 s.lastUrgency
    ++ depByte s.departure ++ be8 s.callNumber ++ be8 (s.windowLeft.getD 0) ++ be8 s.namedCount
    ++ be8 (s.allowance.getD 0) ++ be8 (s.waitLimit.getD 0) ++ counted (fun c => be8 c.code) s.startPending
    ++ flagByte s.doneOwed ++ flagByte s.lamp ++ flagByte s.ready ++ flagByte s.halt
    ++ be8 s.line.code ++ be8 s.queued ++ be8 s.failures ++ flagByte s.half ++ flagByte s.duplicate
    ++ flagByte s.badStrap ++ be8 s.notices ++ flagByte s.overrun ++ be32 s.mask.toNat ++ be8 s.mode.code
    ++ strapBytes s.straps

/-- What READ COUNTERS returns. -/
def Counters.bytes (c : Counters) : List Byte :=
  be16 c.errors ++ flagByte c.half ++ be8 c.fails ++ flagByte c.held ++ be8 c.line.code ++ be8 c.queued
    ++ be8 c.queuedLow ++ be8 c.failures

/-- The record of READ NOTICE, where there is one (R160). -/
def optRecord : Option Notice → List Byte
  | none => []
  | some r => r.bytes

/-- The data of a reply, in the order of the request's description (9.7, Log 34); READ DECK's position (Log 39), READ
LANE's advice (Log 41) and ARRIVE's mismatch byte (Log 45) stand where the model puts them. -/
def ReplyData.bytes : ReplyData → List Byte
  | .none => []
  | .dock m u p h e => be16 m ++ be8 u ++ be16 p ++ be8 h ++ be8 e
  | .depth d => be8 d
  | .tipStart mode r => be8 mode.code ++ be8 (r.getD 0)
  | .tipOff toLane target running r tipped =>
    be8 (if toLane then 1 else 2) ++ be8 (target.getD 0) ++ runStateByte running ++ be8 (r.getD 0) ++ be16 tipped
  | .tipEnd tipped => be16 tipped
  | .load c n u => be8 c.code ++ be8 n ++ be8 u
  | .unloadBack label n u => be32 label ++ be8 n ++ be8 u
  | .arrive held origin n queued mismatch =>
    be8 (if held then 1 else 2) ++ be8 origin ++ be8 n ++ flagByte queued ++ flagByte mismatch
  | .depart n u => be8 n ++ be8 u
  | .withdraw st => be8 st.code ++ be8 st.bay
  | .intake halt free => flagByte halt ++ be8 free
  | .closing d n => depByte d ++ be8 n
  | .setCutoff m => be16 m
  | .setExpected e u => be8 e ++ be8 u
  | .setClock t m src => be16 t ++ be16 m ++ be8 src.code
  | .setNotices mask mode => be32 mask.toNat ++ be8 mode.code
  | .status s => s.bytes
  | .notice record => optRecord record
  | .summary w => be32 w.toNat
  | .deck n c p e f =>
    be8 n ++ be8 (c.getD 0) ++ be8 (p.getD 0) ++ deckEntryBytes e ++ flagByte f.isSome ++ be8 (optCode FaultDir.code f)
  | .lane es a => counted LaneEntry.bytes es ++ be32 (optCode LaneEntry.label a)
  | .holds hs owing halt b => counted Hold.bytes hs ++ counted be8 owing ++ flagByte halt ++ b.bytes
  | .transfer es og w sl ts =>
    counted TransferEntry.bytes es ++ counted OpenGroup.bytes og ++ counted be32 w ++ counted ClosedGroup.bytes sl
      ++ counted TargetRecord.bytes ts
  | .directory ls i runs last => counted DirLine.bytes ls ++ be8 i ++ flagByte runs ++ last.bytes
  | .counters c => c.bytes
  | .clearBay line u => be8 line.code ++ be8 u
  | .restartLink line n => be8 line.code ++ be8 n
  | .busy n => be8 n

/-- The status, the code and the data of a reply. -/
def Answer.parts : Answer → Nat × Nat × List Byte
  | .ok r d => (1, r.code, d.bytes)
  | .refused c d => (2, c.code, d.bytes)

/-- The bytes of a reply that its check covers: from the length to the last data byte. -/
def replyHead (r : Reply) : List Byte :=
  let p := r.answer.parts
  be16 (4 + p.2.2.length) ++ be8 r.seq ++ be8 p.1 ++ be8 p.2.1 ++ be8 r.notices ++ p.2.2

/-- The bytes of a reply (9.7). -/
def replyBytes (r : Reply) : List Byte := [byteOf 90] ++ replyHead r ++ be16 (check16 (replyHead r))

end Machine

end Sys2Proof
end

