-- ==== Sys2Proof/Safety.lean ====
section
/-! DEFINITION. The laws of the door: what the manual says holds of the state between any two events. Each is a
decidable property of a state of its own, so that a claim can take the one it needs. The last part holds the words in
which claims about single commands are put: when a request or a frame is taken, the reply, and the own beacon. -/

namespace Sys2Proof.Machine

/-! ## The deck (R1, R16, R17) -/

/-- The tags on the deck do not mix (R16). -/
abbrev DeckUnmixed (s : State) : Prop :=
  (∀ e ∈ s.deck.entries, e.tag = .inbound) ∨ (∀ e ∈ s.deck.entries, e.tag = .outbound)

/-- The depth is at most C, and 0 while VACANT (R1, R16). -/
abbrev DeckBounded (s : State) : Prop := s.deck.entries.length ≤ (s.docking.map (·.capacity)).getD 0

/-- Every OUTBOUND entry has a drop rank (R2). -/
abbrev DeckRanked (s : State) : Prop := ∀ e ∈ s.deck.entries, e.tag = .outbound → e.rank.isSome = true

/-- Reading from the nose to the rear, the drop ranks of OUTBOUND entries never increase (R17). -/
abbrev DeckOrdered (s : State) : Prop :=
  s.deck.entries.Pairwise (fun a b => a.tag = .outbound → b.tag = .outbound → b.rank.getD 0 ≤ a.rank.getD 0)

/-- The laws of the deck. -/
abbrev DeckLaw (s : State) : Prop := DeckUnmixed s ∧ DeckBounded s ∧ DeckRanked s ∧ DeckOrdered s

/-! ## The budget (R120) -/

/-- A reconciliation hold is held at 120 mass units (R146). -/
abbrev ReconciledMass (s : State) : Prop := ∀ h ∈ s.store.holds, h.depot = none → h.mass = 120

/-- The space law and the mass law of the door, and the empty VACANT door (R120). -/
abbrev BudgetLaw (s : State) : Prop :=
  (s.docking = none → s.deck.entries = [] ∧ s.lane = [] ∧ s.store.holds = [])
    ∧ ∀ d ∈ s.docking, usedSpaces s ≤ d.capacity ∧ usedMass s ≤ d.payload

/-! ## Labels (R1, R34, R97, R118) -/

/-- The labels of the deck, the lane, the Hold Table and the Transfer Table, one after another. -/
def allLabels (s : State) : List Nat :=
  s.deck.entries.map (·.label) ++ s.lane.map (·.label) ++ s.store.holds.map (·.label) ++ s.table.map (·.label)

/-- No label stands twice anywhere in the node (R1, R34, R97, R118). -/
abbrev LabelLaw (s : State) : Prop := (allLabels s).Nodup

/-! ## The transmit queue (R78) -/

/-- The number of BEACONs in a queue. -/
def beaconCount (q : List Queued) : Nat := (q.filter isBeacon).length

/-- The limits and the order of the transmit queue (R78), with at most one frame on the line (R69). -/
abbrev QueueLaw (s : State) : Prop :=
  s.link.queue.length ≤ 16 ∧ lowCount s.link.queue ≤ 12 ∧ beaconCount s.link.queue ≤ 1
    ∧ s.link.queue.Pairwise (fun f g => f.key ≤ g.key) ∧ (s.link.queue.filter (·.onLine)).length ≤ 1

/-- A frame is on the line only while JOINED (R69). -/
abbrev OnLineLaw (s : State) : Prop := s.link.line ≠ .joined → s.link.queue.any (·.onLine) = false

/-! ## Notices and the port (R154, R158, R159, R162) -/

/-- The number of OVERRUN records. -/
def overrunCount (q : List Notice) : Nat := (q.filter (fun r => r.kind == .overrun)).length

/-- The notice queue holds at most 32 records, of which at most one is an OVERRUN, and at most 31 others (R159); the
OVERRUN kind is enabled (R162). -/
abbrev NoticeLaw (s : State) : Prop :=
  s.notes.queue.length ≤ 32 ∧ overrunCount s.notes.queue ≤ 1
    ∧ s.notes.queue.length ≤ 31 + overrunCount s.notes.queue ∧ hasFlag s.notes.mask .overrun = true

/-- The busy list holds at most 16 records, and without a request in progress there is no record and no reply (R154). -/
abbrev PortLaw (s : State) : Prop :=
  s.port.busy.length ≤ 16 ∧ (∀ r ∈ s.port.busy, 1 ≤ r.count ∧ r.count ≤ 255)
    ∧ (s.port.inProgress = false → s.port.busy = [] ∧ s.port.reply = none)
    ∧ (s.port.inProgress = true → s.port.reply.isSome = true)

/-! ## The docking record and the run counter (R19, R24) -/

/-- A docking record lies in the ranges of R19. -/
abbrev Docking.ok (d : Docking) : Prop :=
  dropsOk d.drops = true ∧ 1 ≤ d.capacity ∧ d.capacity ≤ 52 ∧ 10 ≤ d.payload ∧ d.payload ≤ 2600 ∧ 20 ≤ d.handling
    ∧ d.handling ≤ 240 ∧ d.expected ≤ d.capacity ∧ d.cutoff ≤ 1439

/-- The docking record lies in its ranges while there is one (R19). -/
abbrev DockingLaw (s : State) : Prop := ∀ d ∈ s.docking, d.ok

/-- A tip run is active only while DOCKED; it has a remaining count in COUNTED and none in OPEN, at most 52, and a
tipped count of at most 65,535 (R24). -/
abbrev RunLaw (s : State) : Prop :=
  (s.run.mode.isSome = true → s.docking.isSome = true)
    ∧ (s.run.mode = some .counted → s.run.remaining.isSome = true)
    ∧ (s.run.mode = some .openEnded → s.run.remaining = none)
    ∧ (∀ n ∈ s.run.remaining, n ≤ 52) ∧ s.run.tipped ≤ 65535

/-! ## Time and urgency (R44, R54, R57) -/

/-- The fields of the Time Base lie in the ranges of R44. -/
abbrev TimeLaw (s : State) : Prop :=
  s.time.goodRun ≤ 64 ∧ s.time.badRun ≤ 3 ∧ s.time.seconds ≤ 59 ∧ s.time.minute ≤ 1439 ∧ s.time.fallback ≤ 1439
    ∧ s.time.m ≤ 720 ∧ (s.time.clockSet = false → s.time.minute = 0) ∧ (s.time.source = .reference → s.time.goodRun = 64)

/-- M is held at 0 while VACANT (R54). -/
abbrev VacantMinutes (s : State) : Prop := s.docking = none → s.time.m = 0

/-- U is what R57 works out from M, E, O and H. -/
abbrev UrgencyLaw (s : State) : Prop := s.urgency = urgencyNow s

/-! ## The floor link and the directory (R62, R65, R67, R68, R75, R77, R86) -/

/-- The line state and what goes with it: DETACHED exactly with an invalid strap (R65), the rejoin timer exactly in
FAULTED without a duplicate bay (R68, R75), the latch only in JOINED (R77), the beacon timer exactly in JOINED (R86). -/
abbrev LinkLaw (s : State) : Prop :=
  (s.link.line = .detached ↔ strapValid s.straps = false) ∧ s.link.badStrap = !strapValid s.straps
    ∧ (s.link.rejoin.isSome = true ↔ s.link.line = .faulted ∧ s.link.duplicate = false)
    ∧ (s.link.duplicate = true → s.link.line = .faulted) ∧ (s.link.held = true → s.link.line = .joined)
    ∧ (s.dir.timer.isSome = true ↔ s.link.line = .joined)

/-- The counts of the link lie in the ranges of R62. -/
abbrev CountLaw (s : State) : Prop :=
  s.link.failures ≤ 16 ∧ s.link.errors ≤ 65535 ∧ s.link.fails ≤ 255 ∧ (s.link.line = .listening → s.link.valid < 3)

/-- The fields of a directory entry lie in the ranges of R87; an entry stands at most three beacon intervals unrefreshed
(R89), and an unreachable mark runs 60 s (R90). -/
abbrev DirEntry.ok (e : DirEntry) : Prop :=
  1 ≤ e.bay ∧ e.bay ≤ 60 ∧ dropsOk e.drops = true ∧ e.minutes ≤ 720 ∧ e.since ≤ 3 * e.interval ∧ e.urgency ≤ 255
    ∧ e.free ≤ 52 ∧ 4 ≤ e.interval ∧ e.interval ≤ 64 ∧ e.stamp ≤ 4294967295 ∧ (∀ n ∈ e.unreachable, n ≤ 60)
    ∧ (e.bayState = .vacant ↔ e.departure = none)

/-- The directory's entries stand in bay order, each once, none for the own bay, and they and the change count lie in
the ranges of R87. -/
abbrev DirectoryLaw (s : State) : Prop :=
  s.dir.entries.Pairwise (fun a b => a.bay < b.bay) ∧ s.dir.changes ≤ 4294967295
    ∧ ∀ e ∈ s.dir.entries, e.bay ≠ s.straps.bay ∧ e.ok

/-- The beacon interval is 4, 8, 16, 32 or 64 s (R86). -/
abbrev IntervalLaw (s : State) : Prop := s.dir.interval ∈ [4, 8, 16, 32, 64]

/-! ## Transfers and groups (R97, R99) -/

/-- The Transfer Table holds at most 96 entries, each with at most 4 declined records (R97). -/
abbrev TableLaw (s : State) : Prop := s.table.length ≤ 96 ∧ ∀ e ∈ s.table, e.declined.length ≤ 4

/-- At most 8 open groups, each for a target of its own, with members and fewer than G of them (R99). -/
abbrev GroupLaw (s : State) : Prop :=
  s.asm.openGroups.length ≤ 8 ∧ (s.asm.openGroups.map (·.target)).Nodup
    ∧ ∀ g ∈ s.asm.openGroups, g.members ≠ [] ∧ g.members.length < groupSize s.straps

/-- A group of the send list is without a number only while it is pending (R106). -/
abbrev NumberLaw (s : State) : Prop := ∀ g ∈ s.asm.sendList, g.number = none → g.pending = true

/-! ## Closing (R118, R138, R139, R149) -/

/-- The departure state and what goes with it (R138): absent exactly while VACANT; the window timer in CALLING alone, the
transit allowance in WAITING alone, the lamp in CLOSED alone; at most 64 named labels. -/
abbrev DepartureLaw (s : State) : Prop :=
  (s.dep.state = none ↔ s.docking = none) ∧ (s.dep.window.isSome = true ↔ s.dep.state = some .calling)
    ∧ (s.dep.allowance.isSome = true ↔ s.dep.state = some .waiting) ∧ (s.dep.lamp = true ↔ s.dep.state = some .closed)
    ∧ s.dep.named.length ≤ 64

/-- In CLOSED and while VACANT the Hold Table is empty (R118, R149). -/
abbrev ClosedHolds (s : State) : Prop :=
  s.dep.state = some .closed ∨ s.docking = none → s.store.holds = []

/-- READY as held is READY as R139 works it out. -/
abbrev ReadyLaw (s : State) : Prop := s.dep.ready = readyNow s

/-- The owing list stands in bay order, each bay once, of bays 1..60 and never the own; numbers are kept for such bays
alone; both are empty while VACANT (R119). -/
abbrev OwingLaw (s : State) : Prop :=
  s.store.owing.Pairwise (· < ·) ∧ (∀ b ∈ s.store.owing, 1 ≤ b ∧ b ≤ 60 ∧ b ≠ s.straps.bay)
    ∧ (∀ k ∈ s.store.kept, 1 ≤ k.bay ∧ k.bay ≤ 60 ∧ k.bay ≠ s.straps.bay)
    ∧ (s.docking = none → s.store.owing = [] ∧ s.store.kept = [])

/-! ## Words for claims about single commands -/

/-- A request frame whose parameters have their form is taken: the reset pin is not held and no request is in progress
(R154, R155, R167). -/
abbrev Taken (h : ReqHead) (s : State) : Prop :=
  s.pins.resetHeld = false ∧ s.port.inProgress = false ∧ h.formOk = true

/-- The port while the reply of a request taken in `s` is sent, `t` being the state the request leaves (R154, R155);
the reply is kept as data (Log 29). -/
def replyPort (h : ReqHead) (a : Answer) (s t : State) : Port :=
  { inProgress := true
    busy := s.port.busy
    reply := some { seq := h.seq, answer := a, notices := t.notes.queue.length } }

/-- A good frame is taken, and is not the one that brings LISTENING to JOINED (R64, R66, R75, R167). -/
abbrev Hears (key : Nat) (b : Body) (s : State) : Prop :=
  s.pins.resetHeld = false ∧ s.link.line ≠ .detached ∧ (s.link.line = .listening → s.link.valid < 2)
    ∧ framingOk key b = true ∧ keyBay key ≠ s.straps.bay

/-- The Floor Link Interface after a frame taken that queues nothing (R66, R72); the quiet timer has just started (Log
49). -/
def heardLink (s : State) : Link :=
  { s.link with
    quiet := none
    objection := false
    valid := if s.link.line = .listening then s.link.valid + 1 else s.link.valid }

/-- A frame as it is queued with the own U in its key (R59, R78). -/
def framed (b : Body) (s : State) : Queued :=
  { key := precedenceKey b.kind.cls s.urgency s.straps.bay, body := b, onLine := false }

/-- The Floor Link Interface after the own beacon, built of the values of `t`, has been handed to the queue of `s`
(R79): in the place of the queued one, held back where that one is on the line (Log 10), or with room as an OFFER needs
it. -/
def linkWithBeacon (s t : State) : Link :=
  match s.link.queue.find? isBeacon with
  | some f =>
    if f.onLine then { s.link with beaconWaiting := true }
    else
      { s.link with
        queue := insertQueued (framed (.beacon (buildBeacon t)) t) (s.link.queue.filter (fun g => !isBeacon g)) }
  | none =>
    if hasRoom 3 s.link.queue then
      { s.link with queue := insertQueued (framed (.beacon (buildBeacon t)) t) s.link.queue }
    else s.link

/-- Whether a beacon handed to the queue is not dropped (R79). -/
def beaconRoom (s : State) : Bool := s.link.queue.any isBeacon || hasRoom 3 s.link.queue

/-- A beaconed change (R85) between `s` and `t`: the interval of 4 s, the timer at 4 s where it runs, the beacon handed
over, and the last beaconed content taken from it where it is not dropped, at the handing over also where it waits (Log
10). -/
abbrev BeaconSent (s t : State) : Prop :=
  t.link = linkWithBeacon s t
    ∧ t.dir = { s.dir with
        interval := 4
        timer := if s.link.line = .joined then some 4 else none
        last := if beaconRoom s then contentNow t else s.dir.last }

/-- A beaconed change where the test holds, and nothing of the link and the directory changed where it does not. -/
abbrev BeaconIf (test : Bool) (s t : State) : Prop :=
  if test = true then BeaconSent s t else t.link = s.link ∧ t.dir = s.dir

/-- The READY that R139 works out, with the notice where it became true, and the AUTOCLOSE READY condition of R141, as
`t` holds them after `s`. -/
abbrev Settled (s t : State) : Prop :=
  t.dep.ready = readyNow t ∧ t.dep.autoWas = autocloseNow t
    ∧ t.notes = if readyNow t && !s.dep.ready then
        (raise .ready (outboundCount t.deck) (expectedLoad t) s).notes else s.notes

/-- Nothing starts a call by AUTOCLOSE (R141): the strap is clear, or the departure state is not OPEN. -/
abbrev NoAutoclose (s : State) : Prop := s.straps.autoClose = false ∨ s.dep.state ≠ some .openBay

/-- Departure Control in CALLING after the call of number n has started from `s` (R142). -/
def calledDep (s : State) : Departure :=
  { s.dep with
    state := some .calling, callNumber := (s.dep.callNumber + 1) % 256, window := some 0, named := [],
    startPending := [], retry := false, ready := false, autoWas := false }

/-- Every group open in `s` stands closed in the send list of `t`, with the next number of its target and its members;
where no entry waited for a place, with no member more, and short (R27, R102). -/
abbrev GroupsSent (s t : State) : Prop :=
  ∀ g ∈ s.asm.openGroups, ∃ x ∈ t.asm.sendList,
    x.target = g.target ∧ x.number = some (targetRecord s.asm g.target).next ∧ x.resend = false
      ∧ x.members.take g.members.length = g.members
      ∧ (waitingEntries s = [] → x.members = g.members ∧ x.kind = .short)

/-- Whether a RECEIPT that stands in a queue names a label. -/
def receiptQueued (q : List Queued) (label : Nat) : Bool :=
  q.any (fun f => match f.body with
    | .receipt m => m.label == label
    | _ => false)

/-- What RESTART LINK does from `s` to `t` with the RECEIPTs it flushes (R81, R82): lane and deck keep all but the
receipt-owed marks; a mark stands only where one stood or a RECEIPT was flushed, and only with the queue full; and
where one stood or a RECEIPT was flushed, the RECEIPT is queued or owed. INBOUND entries carry no mark (Log 38). -/
abbrev OwedAgain (s t : State) : Prop :=
  t.lane.map (fun e => { e with owed := false }) = s.lane.map (fun e => { e with owed := false })
    ∧ t.deck.fault = s.deck.fault
    ∧ t.deck.entries.map (fun e => { e with owed := false }) = s.deck.entries.map (fun e => { e with owed := false })
    ∧ (∀ p ∈ s.lane.zip t.lane, p.2.owed = true →
        (p.1.owed = true ∨ receiptQueued s.link.queue p.1.label = true) ∧ 16 ≤ t.link.queue.length)
    ∧ (∀ p ∈ s.deck.entries.zip t.deck.entries, p.1.tag = .outbound → p.2.owed = true →
        (p.1.owed = true ∨ receiptQueued s.link.queue p.1.label = true) ∧ 16 ≤ t.link.queue.length)
    ∧ (LabelLaw s → ∀ p ∈ s.lane.zip t.lane,
        (p.1.owed = true ∨ receiptQueued s.link.queue p.1.label = true) →
        p.2.owed = true ∨ ∃ f ∈ t.link.queue,
          f.body = .receipt { bay := s.straps.bay, origin := p.1.origin, label := p.1.label })
    ∧ (LabelLaw s → ∀ p ∈ s.deck.entries.zip t.deck.entries, p.1.tag = .outbound →
        (p.1.owed = true ∨ receiptQueued s.link.queue p.1.label = true) →
        p.2.owed = true ∨ ∃ f ∈ t.link.queue,
          f.body = .receipt { bay := s.straps.bay, origin := 0, label := p.1.label })

/-- Whether a frame may stand in the queue of `t` after a RESTART LINK taken in `s` (R81, R82): off the line, and a DONE
that was owed or flushed, a RECEIPT that a lane or deck entry owed or whose frame was flushed, the OFFER of a group that
stands IN QUEUE and is not pending, or, where the call was lost, the door's BEACON with the values of `t` (R138). Every
other frame is gone. -/
def queuedAgain (lost : Bool) (s t : State) (f : Queued) : Bool :=
  !f.onLine && match f.body with
    | .done m => m.bay == s.straps.bay && (s.dep.doneOwed || s.link.queue.any (fun g => g.body.kind == .done))
    | .receipt m => m.bay == s.straps.bay &&
        (s.lane.any (fun e => e.label == m.label && e.origin == m.origin
            && (e.owed || receiptQueued s.link.queue e.label))
          || s.deck.entries.any (fun e => e.label == m.label && m.origin == 0
            && (e.owed || receiptQueued s.link.queue e.label)))
    | .offer m => t.asm.sendList.any (fun g => g.inQueue && !g.pending && .offer m == offerBody s g)
    | .beacon m => lost && m == buildBeacon t
    | _ => false

/-- What RESTART LINK leaves of the queue (R82): only frames that may stand in it, and, where no entry waits for a place,
no OFFER but those of groups that waited unbuilt in `s` (R106). -/
abbrev FlushedQueue (lost : Bool) (s t : State) : Prop :=
  (∀ f ∈ t.link.queue, queuedAgain lost s t f = true)
    ∧ (GroupLaw s → waitingEntries s = [] → ∀ g ∈ t.asm.sendList, g.inQueue = true →
        { g with inQueue := false } ∈ s.asm.sendList)
    ∧ ((s.dep.doneOwed = true ∨ ∃ f ∈ s.link.queue, f.body.kind = .done) →
        t.dep.doneOwed = false ∧ ∃ f ∈ t.link.queue, f.body = .done { bay := s.straps.bay })

/-- What RESTART LINK does from `s` to `t` with the groups (R106): a group whose OFFER is flushed is WAITING and pending,
with its number and members; a group that waited keeps its place between pending and not; and, where no entry waits for
a place, an open group stands closed short and pending, with no number, and counters and records stay (R117). A resend with no member left is discarded (R104,
Log 51). -/
abbrev PendingAgain (s t : State) : Prop :=
  (∀ g ∈ s.asm.sendList, (g.resend = false ∨ g.members ≠ []) →
      if g.inQueue = true then { g with inQueue := false, pending := true } ∈ t.asm.sendList
      else ∃ x ∈ t.asm.sendList, { x with inQueue := false } = g)
    ∧ (GroupLaw s → waitingEntries s = [] → ∀ g ∈ s.asm.openGroups,
        { target := g.target, number := none, members := g.members, kind := .short, resend := false,
          inQueue := false, pending := true } ∈ t.asm.sendList)
    ∧ (GroupLaw s → waitingEntries s = [] → t.asm.targets = s.asm.targets)

/-- What READ TRANSFER tells of a closed group but for its phase (R99, R116). -/
def ClosedGroup.told (g : ClosedGroup) : Nat × Option Nat × List Nat × GroupKind × Bool :=
  (g.target, g.number, g.members, g.kind, g.resend)

/-- Free room has nobody to serve (R81, R104): no DONE and no RECEIPT is owed, and every group of the send list stands
in the queue or is pending. -/
abbrev NothingToSend (s : State) : Prop :=
  s.dep.doneOwed = false ∧ (∀ e ∈ s.lane, e.owed = false) ∧ (∀ e ∈ s.deck.entries, e.owed = false)
    ∧ ∀ g ∈ s.asm.sendList, g.inQueue = true ∨ g.pending = true

/-- What target selection leaves in `t` of the entry `x` (R93, R94, R98): its label, depot, mass, mark and declined set,
and either PARKED, with no candidate, or QUEUED toward a bay that takes its depot, is free for it and was not declined
since, and that no candidate surpasses. -/
abbrev Selected (x : TransferEntry) (t : State) : Prop :=
  ∃ y ∈ t.table, y.label = x.label ∧ y.depot = x.depot ∧ y.mass = x.mass ∧ y.astray = x.astray
    ∧ y.declined = x.declined
    ∧ ((y.state = .parked ∧ ∀ c ∈ t.dir.entries, candidate t y c = false)
      ∨ ∃ d ∈ t.dir.entries, y.state = .queued d.bay ∧ d.bayState = .docked ∧ d.departure = some .openBay
        ∧ d.unreachable = none ∧ d.bay ≠ t.straps.bay ∧ y.depot ∈ d.drops ∧ pledged t d.bay ≤ d.free
        ∧ (∀ r ∈ y.declined, r.bay = d.bay → r.stamp ≠ some d.stamp)
        ∧ ∀ c ∈ t.dir.entries, candidate t y c = true →
            d.minutes < c.minutes ∨ (d.minutes = c.minutes ∧ d.bay ≤ c.bay))

/-- The answer timer of an OFFERED entry (R97). -/
def TransferState.answerTimer : TransferState → Option AnswerTimer
  | .offered _ _ _ t => some t
  | _ => none

/-- The travel timer of an ACCEPTED entry (R97). -/
def TransferState.travel : TransferState → Option Nat
  | .accepted _ t => t
  | _ => none

/-- No timer's expiry is due (R46, Log 5). -/
abbrev NothingDue (s : State) : Prop :=
  (s.link.line ≠ .faulted ∨ s.link.rejoin ≠ some 30) ∧ s.dir.timer ≠ some 0
    ∧ (∀ e ∈ s.dir.entries, e.since < 3 * e.interval ∧ e.unreachable ≠ some 0)
    ∧ (∀ g ∈ s.asm.openGroups, g.timer < 20)
    ∧ (∀ e ∈ s.table, (∀ r ∈ e.state.answerTimer, r ≠ .left 0) ∧ e.state.travel ≠ some 0)
    ∧ s.dep.window ≠ some 6 ∧ (s.dep.state = some .waiting → waitLimit s ≠ some 0) ∧ s.dep.retry = false

/-- The state at a minute boundary of the oscillator, before M is recomputed: the time to the boundary has passed (Log 3),
every second timer and every minute timer has moved by 1, the seconds counter is 0, T has advanced where the clock is
set, and f outside REFERENCE (R46, R47, R89, R112, R148). -/
def minuteCounted (s : State) : State :=
  { s with
    time := { (passTime s.time.untilBoundary s).time with
      seconds := 0, sinceBoundary := 0, untilBoundary := 1000000, byOscillator := true
      minute := if s.time.clockSet then (s.time.minute + 1) % 1440 else 0
      fallback := if s.time.source = .reference then s.time.fallback else min 1439 (s.time.fallback + 1) }
    link := { (passTime s.time.untilBoundary s).link with rejoin := s.link.rejoin.map (fun n => min 30 (n + 1)) }
    dir := { s.dir with
      timer := s.dir.timer.map (fun n => n - 1)
      entries := s.dir.entries.map (fun e =>
        { e with since := e.since + 1, unreachable := e.unreachable.map (fun n => n - 1), minutes := e.minutes - 1 }) }
    asm := { s.asm with openGroups := s.asm.openGroups.map (fun g => { g with timer := g.timer + 1 }) }
    table := s.table.map (fun e => countTravel (countAnswer e))
    dep := { s.dep with
      window := s.dep.window.map (fun n => min 6 (n + 1))
      allowance := if s.dep.state = some .waiting then s.dep.allowance.map (fun n => n - 1) else s.dep.allowance
      retry := !s.dep.startPending.isEmpty && s.dep.state == some .openBay } }

end Sys2Proof.Machine

namespace Sys2Proof

/-- Whether a command is a TIP OFF. -/
def Instr.isTipOff : Instr → Bool
  | .tipOff _ _ _ _ => true
  | _ => false

/-- The head of a command that is a request (R155); absent for every other command. -/
def Instr.reqHead : Instr → Option ReqHead
  | .dock h _ => some h
  | .declare h _ _ _ => some h
  | .tipStart h _ => some h
  | .tipOff h _ _ _ => some h
  | .tipEnd h => some h
  | .load h _ => some h
  | .unloadBack h => some h
  | .arrive h _ _ _ _ => some h
  | .depart h _ => some h
  | .withdraw h _ => some h
  | .haltIntake h => some h
  | .resumeIntake h => some h
  | .close h => some h
  | .reopen h => some h
  | .setCutoff h _ => some h
  | .setExpected h _ => some h
  | .setClock h _ => some h
  | .setNotices h _ _ => some h
  | .readStatus h => some h
  | .readNotice h => some h
  | .readSummary h => some h
  | .readDeck h _ => some h
  | .readLane h => some h
  | .readHolds h => some h
  | .readTransfer h => some h
  | .readDirectory h => some h
  | .readCounters h => some h
  | .clearBay h => some h
  | .restartLink h => some h
  | _ => none

end Sys2Proof
end

