-- ==== Sys2Proof/WellFormed.lean ====
section
/-! DEFINITION. The commands whose operands fit the fields that carry them (spec/09_the_bay_port.md 9.7): a label in
4 bytes, a depot and a minute in 2, every other number of a request or a frame in 1, the straps in their pins. The
meanings are total and do not need it; it says which commands the bay port, the floor link and the pins can give. -/

namespace Sys2Proof

/-- A number of one byte. -/
def fits8 (n : Nat) : Bool := decide (n < 256)
/-- A number of two bytes. -/
def fits16 (n : Nat) : Bool := decide (n < 65536)
/-- A number of four bytes. -/
def fits32 (n : Nat) : Bool := decide (n < 4294967296)

/-- An optional value that fits where it is present. -/
def optFits (f : Nat → Bool) : Option Nat → Bool
  | none => true
  | some n => f n

/-- The head of a request frame. -/
def ReqHead.wf (h : ReqHead) : Bool := fits8 h.seq

/-- The parameters of DOCK. -/
def DockParams.wf (p : DockParams) : Bool :=
  fits8 p.drops.length && p.drops.all fits16 && optFits fits8 p.capacity && optFits fits16 p.payload
    && optFits fits8 p.handling && optFits fits8 p.expected && optFits fits16 p.cutoff

/-- The mode of a TIP START. -/
def TipModeArg.wf : TipModeArg → Bool
  | .counted n => fits8 n
  | .openEnded => true
  | .neither => true

/-- The strap pins: 6, 2, 2, 1 and 1 (9.6). -/
def Straps.wf (p : Straps) : Bool := decide (p.bay < 64 ∧ p.rate < 4 ∧ p.size < 4)

/-- A BEACON payload. -/
def BeaconMsg.wf (m : BeaconMsg) : Bool :=
  fits8 m.bay && decide (m.bayCode < 16 ∧ m.depCode < 16) && decide (m.drops.length ≤ 28) && m.drops.all fits16
    && fits16 m.minutes && fits8 m.urgency && fits8 m.free && fits8 m.interval

/-- An OFFER payload. -/
def OfferMsg.wf (m : OfferMsg) : Bool :=
  fits8 m.origin && fits8 m.target && fits8 m.group && fits8 m.size && decide (m.items.length ≤ 8)
    && m.items.all (fun i => fits32 i.label && fits16 i.depot && fits8 i.mass)

/-- An ANSWER payload. -/
def AnswerMsg.wf (m : AnswerMsg) : Bool :=
  fits8 m.target && fits8 m.origin && fits8 m.group && decide (m.items.length ≤ 12)
    && m.items.all (fun i => fits32 i.label && fits8 i.verdict)

/-- A RELEASE payload. -/
def ReleaseMsg.wf (m : ReleaseMsg) : Bool := fits8 m.origin && fits8 m.target && fits32 m.label

/-- A RECEIPT payload. -/
def ReceiptMsg.wf (m : ReceiptMsg) : Bool := fits8 m.bay && fits8 m.origin && fits32 m.label

/-- A CALL payload. -/
def CallMsg.wf (m : CallMsg) : Bool := fits8 m.bay && fits8 m.number

/-- A HOLD payload. -/
def HoldMsg.wf (m : HoldMsg) : Bool :=
  fits8 m.bay && fits8 m.caller && fits8 m.number && decide (m.labels.length ≤ 15) && m.labels.all fits32

/-- A DONE payload. -/
def DoneMsg.wf (m : DoneMsg) : Bool := fits8 m.bay

/-- A payload of any kind. -/
def Body.wf : Body → Bool
  | .beacon m => m.wf
  | .offer m => m.wf
  | .answer m => m.wf
  | .release m => m.wf
  | .receipt m => m.wf
  | .call m => m.wf
  | .hold m => m.wf
  | .done m => m.wf

/-- The commands whose operands fit their fields. -/
def Instr.wf : Instr → Bool
  | .dock h p => h.wf && p.wf
  | .declare h label depot mass => h.wf && fits32 label && fits16 depot && fits8 mass
  | .tipStart h mode => h.wf && mode.wf
  | .tipOff h label depot mass => h.wf && fits32 label && optFits fits16 depot && optFits fits8 mass
  | .tipEnd h => h.wf
  | .load h label => h.wf && fits32 label
  | .unloadBack h => h.wf
  | .arrive h label depot mass origin => h.wf && fits32 label && fits16 depot && fits8 mass && optFits fits8 origin
  | .depart h _ => h.wf
  | .withdraw h label => h.wf && fits32 label
  | .haltIntake h => h.wf
  | .resumeIntake h => h.wf
  | .close h => h.wf
  | .reopen h => h.wf
  | .setCutoff h k => h.wf && fits16 k
  | .setExpected h e => h.wf && fits8 e
  | .setClock h minute => h.wf && optFits fits16 minute
  | .setNotices h _ _ => h.wf
  | .readStatus h => h.wf
  | .readNotice h => h.wf
  | .readSummary h => h.wf
  | .readDeck h position => h.wf && fits8 position
  | .readLane h => h.wf
  | .readHolds h => h.wf
  | .readTransfer h => h.wf
  | .readDirectory h => h.wf
  | .readCounters h => h.wf
  | .clearBay h => h.wf
  | .restartLink h => h.wf
  | .busy seq => fits8 seq
  | .badFrame seq => optFits fits8 seq
  | .unknown seq code => fits8 seq && fits8 code && decide (code = 0 ∨ 29 < code)
  | .interByteTimeout seq => optFits fits8 seq
  | .replySent => true
  | .beacon key m => fits16 key && m.wf
  | .offer key m => fits16 key && m.wf
  | .answer key m => fits16 key && m.wf
  | .release key m => fits16 key && m.wf
  | .receipt key m => fits16 key && m.wf
  | .call key m => fits16 key && m.wf
  | .hold key m => fits16 key && m.wf
  | .done key m => fits16 key && m.wf
  | .badFrameHeard => true
  | .objectedFrameDropped => true
  | .duplicateBay _ => true
  | .quietGapStart => true
  | .lostContention heard => fits16 heard
  | .transmitFailure => true
  | .transmitComplete => true
  | .queueRoomOffered => true
  | .quietTimerExpiry => true
  | .rejoinTimerExpiry => true
  | .hallClockPulse _ => true
  | .pulseSilence => true
  | .secondBoundary => true
  | .beaconTimerExpiry => true
  | .directoryEntryExpiry bay => fits8 bay
  | .unreachableMarkExpiry bay => fits8 bay
  | .holdTimerExpiry target => fits8 target
  | .answerTimerExpiry target group => fits8 target && fits8 group
  | .travelTimerExpiry label => fits32 label
  | .callWindowEnd => true
  | .waitLimitExpiry => true
  | .automaticStart => true
  | .shutterClosed => true
  | .shutterOpened => true
  | .powerOn straps _ => straps.wf
  | .resetAsserted => true
  | .nonStartByteDiscarded byte => fits8 byte && decide (byte ≠ 165)

end Sys2Proof
end

