-- ==== Sys2Proof/Certificates/Slice0/Obligations.lean ====
section
/-! DEFINITION. The statements made of this model, from the numbered rules of the manual. A result statement says what a
command answers under hypotheses on the state and the operands alone, and its frame: `t = { s with … }` names every
field that may differ, and every other field is as it was. The words that many statements share stand in
Sys2Proof/Safety.lean with what they rest on: a reply is kept as data (Log 29), the quiet timer has just started after a
frame heard (Log 49), and a beacon handed over while the queued one is on the line waits for its end (Log 10). -/

open Sys2Proof Sys2Proof.Machine

/-- A step of a state with a command at the front of its queue is `exec` of that command on the state with the queue's
rest, and an empty queue idles (the model's own convention, Log 2). -/
def Obligations.StepRunsFrontCommand : Prop :=
  (∀ (c : Instr) (rest : List Instr) (s : State),
     step (s.withPending (c :: rest)) = exec c (s.withPending rest))
  ∧ (∀ (s : State),
       s.pending = [] →
       step s = .next s)

/-- The laws that the following statements keep hold at `State.reset`, whose straps and shutter level are the model's
choice (Log 1). -/
def Obligations.ResetSatisfiesTheLaws : Prop :=
    (DeckLaw State.reset ∧ BudgetLaw State.reset ∧ ReconciledMass State.reset ∧ LabelLaw State.reset)
      ∧ (QueueLaw State.reset ∧ OnLineLaw State.reset ∧ NoticeLaw State.reset ∧ PortLaw State.reset)
      ∧ (DockingLaw State.reset ∧ RunLaw State.reset ∧ TimeLaw State.reset ∧ VacantMinutes State.reset)
      ∧ (UrgencyLaw State.reset ∧ LinkLaw State.reset ∧ CountLaw State.reset ∧ DirectoryLaw State.reset)
      ∧ (IntervalLaw State.reset ∧ TableLaw State.reset ∧ GroupLaw State.reset ∧ DepartureLaw State.reset)
      ∧ (NumberLaw State.reset ∧ ClosedHolds State.reset ∧ ReadyLaw State.reset ∧ OwingLaw State.reset)

/-- The two laws of the door (R120): while DOCKED, OUTBOUND entries, lane entries and holds never exceed C, nor their
mass P; while VACANT there are none. Reconciliation holds weigh 120 (R146), which a hold turned into a lane entry
relies on. -/
def Obligations.EveryStepKeepsTheBudget : Prop :=
  ∀ (s t : State),
    (BudgetLaw s ∧ ReconciledMass s) → step s = .next t →
    BudgetLaw t ∧ ReconciledMass t

/-- The deck's laws (R1, R16, R17): no mixing of tags, at most C entries, and OUTBOUND drop ranks that never increase
toward the rear. -/
def Obligations.EveryStepKeepsTheDeckInOrder : Prop :=
  ∀ (s t : State),
    DeckLaw s → step s = .next t →
    DeckLaw t

/-- Node-wide uniqueness of labels (R1, R34, R97, R118) is kept by every step. -/
def Obligations.EveryStepKeepsLabelsUnique : Prop :=
  ∀ (s t : State),
    LabelLaw s → step s = .next t →
    LabelLaw t

/-- The transmit queue's limits and key order (R78, R79), and a frame on the line only while JOINED (R69); the mark of
the frame on the line is the model's own (Log 32). -/
def Obligations.EveryStepKeepsTheTransmitQueue : Prop :=
  ∀ (s t : State),
    (QueueLaw s ∧ OnLineLaw s) → step s = .next t →
    QueueLaw t ∧ OnLineLaw t

/-- The limits of the notice queue (R159) and of the busy list (R154), and the OVERRUN kind always enabled (R162). -/
def Obligations.EveryStepKeepsTheNoticeQueueAndThePort : Prop :=
  ∀ (s t : State),
    (NoticeLaw s ∧ PortLaw s) → step s = .next t →
    NoticeLaw t ∧ PortLaw t

/-- U is recomputed at each change of M, E or O (R57, R58), so it always has the value that R57 works out. -/
def Obligations.EveryStepKeepsTheUrgency : Prop :=
  ∀ (s t : State),
    UrgencyLaw s → step s = .next t →
    UrgencyLaw t

/-- The line state with its timers, marks and counts (R62 to R68, R74 to R77, R86). That the rejoin timer runs on
across a DEPART, against the words of R83, is Log 42. -/
def Obligations.EveryStepKeepsTheLineState : Prop :=
  ∀ (s t : State),
    (LinkLaw s ∧ CountLaw s) → step s = .next t →
    LinkLaw t ∧ CountLaw t

/-- The Route Directory's entries in bay order and in the ranges of every field of R87 (R88 to R90), and the interval
of R86. The urgency of a beacon fills a byte, so the waiting commands are taken with operands that fit their fields.
-/
def Obligations.EveryStepKeepsTheDirectory : Prop :=
  ∀ (s t : State),
    (DirectoryLaw s ∧ IntervalLaw s ∧ (∀ c ∈ s.pending, c.wf = true)) → step s = .next t →
    DirectoryLaw t ∧ IntervalLaw t ∧ (∀ c ∈ t.pending, c.wf = true)

/-- The limits of the Transfer Table (R97, R108) and of the open groups (R99, R100); a closed group is without a
number only while it is pending (R106). -/
def Obligations.EveryStepKeepsTransfersAndGroups : Prop :=
  ∀ (s t : State),
    (TableLaw s ∧ GroupLaw s ∧ NumberLaw s) → step s = .next t →
    TableLaw t ∧ GroupLaw t ∧ NumberLaw t

/-- Departure Control's state (R138), no hold in CLOSED or while VACANT (R118, R149), and READY as R139 works it out.
-/
def Obligations.EveryStepKeepsDepartureControl : Prop :=
  ∀ (s t : State),
    (DepartureLaw s ∧ ClosedHolds s ∧ ReadyLaw s) → step s = .next t →
    DepartureLaw t ∧ ClosedHolds t ∧ ReadyLaw t

/-- The Time Base's ranges (R44, R53, R54), the docking record's (R19), the run's (R24), and the owing list (R119). A
COUNTED run may take its count from the deck (R25), so the deck's limit (R16) stands among them. -/
def Obligations.EveryStepKeepsTimeRunAndRecord : Prop :=
  ∀ (s t : State),
    (TimeLaw s ∧ DockingLaw s ∧ DeckBounded s ∧ RunLaw s ∧ VacantMinutes s ∧ OwingLaw s) → step s = .next t →
    TimeLaw t ∧ DockingLaw t ∧ DeckBounded t ∧ RunLaw t ∧ VacantMinutes t ∧ OwingLaw t

/-- No command stops the block, and every command but POWER ON leaves the straps as they were sampled (R163). -/
def Obligations.EveryCommandAnswersAndKeepsTheStraps : Prop :=
  ∀ (c : Instr) (s : State),
    ∃ t, exec c s = .next t ∧ t.pending = s.pending ∧ ((∀ p b, c ≠ .powerOn p b) → t.straps = s.straps)

/-- While the reset pin is held active the controller takes no request, sends no reply, and its outputs are off
(R167); that frames and timers wait as well is read from the rule (Log 8). -/
def Obligations.ResetPinStopsEverything : Prop :=
  ∀ (c : Instr) (s : State),
    s.pins.resetHeld = true → (∀ p b, c ≠ .powerOn p b) → c ≠ .resetAsserted →
    exec c s = .next s ∧ attention s = false ∧ lampOutput s = false ∧ transmitterOn s = false

/-- A refused request changes nothing (R11, R20, R23, R28, R38, R40), apart from the deck faults of R14 that the
attempt itself records, with their notice, in which the direction's code is Log 20; that a LOAD whose push finds no
place is refused DECK_FULL is Log 16. -/
def Obligations.RefusedRequestsChangeNothing : Prop :=
  (∀ (c : Instr) (s t : State) (r : Reply) (k : RefusalCode) (d : ReplyData),
     s.port.reply = none → exec c s = .next t → t.port.reply = some r → r.answer = .refused k d →
     t = { s with port := t.port, deck := { s.deck with fault := t.deck.fault }, notes := t.notes }
       ∧ (if k = .deckFull then
           t.deck.fault = some .overflow ∧ t.notes = (raise .deckFault 1 s.deck.entries.length s).notes
         else if k = .deckEmpty ∨ (k = .noRun ∧ c.isTipOff = true ∧ s.deck.entries = []) then
           t.deck.fault = some .underflow ∧ t.notes = (raise .deckFault 2 s.deck.entries.length s).notes
         else t.deck = s.deck ∧ t.notes = s.notes))
  ∧ (∀ (h : ReqHead) (label : Nat) (depot mass : Option Nat) (s : State),
       Taken h s → s.run.mode = none → s.deck.entries = [] →
       ∃ t, exec (.tipOff h label depot mass) s = .next t
         ∧ t.deck = { s.deck with fault := some .underflow } ∧ t.notes = (raise .deckFault 2 0 s).notes
         ∧ t = { s with deck := t.deck, notes := t.notes, port := replyPort h (.refused .noRun .none) s t })

/-- A request frame that begins while the request-in-progress flag is set is put on the busy list, and has no other
effect (R154); that a request's command comes to the list as BUSY does is Log 6. -/
def Obligations.RequestsWaitTheirTurn : Prop :=
  (∀ (c : Instr) (h : ReqHead) (s : State),
     s.pins.resetHeld = false → s.port.inProgress = true → (c.reqHead = some h ∨ c = .busy h.seq) →
     s.port.busy.length < 16 →
     exec c s = .next { s with port := { s.port with busy := s.port.busy ++ [{ seq := h.seq, count := 1 }] } })
  ∧ (∀ (c : Instr) (h : ReqHead) (s : State) (older : List BusyRecord) (r : BusyRecord),
       s.pins.resetHeld = false → s.port.inProgress = true → (c.reqHead = some h ∨ c = .busy h.seq) →
       s.port.busy = older ++ [r] → older.length = 15 →
       exec c s = .next { s with port := { s.port with busy := older ++ [{ r with count := min 255 (r.count + 1) }] } })

/-- The form tests of R155: BAD_FRAME for a broken frame, UNKNOWN for a code of no request, BAD_VALUE for parameters
of the wrong number or width; a byte other than the start byte is discarded. An inter-byte gap breaks the frame; that
it comes as a command of its own is the table's, and that a frame with no sequence number is answered with 0 is Log 6.
-/
def Obligations.FramesBadInFormAreRefused : Prop :=
  (∀ (seq : Option Nat) (s : State),
     s.pins.resetHeld = false → s.port.inProgress = false →
     (∀ c ∈ [Instr.badFrame seq, .interByteTimeout seq],
       exec c s = .next { s with port := replyPort ⟨seq.getD 0, false⟩ (.refused .badFrame .none) s s }))
  ∧ (∀ (seq code : Nat) (s : State),
       s.pins.resetHeld = false → s.port.inProgress = false →
       exec (.unknown seq code) s = .next { s with port := replyPort ⟨seq, true⟩ (.refused .unknown .none) s s })
  ∧ (∀ (c : Instr) (h : ReqHead) (s : State),
       s.pins.resetHeld = false → s.port.inProgress = false → c.reqHead = some h → h.formOk = false →
       exec c s = .next { s with port := replyPort h (.refused .badValue .none) s s })
  ∧ (∀ (byte : Nat) (s : State),
       exec (.nonStartByteDiscarded byte) s = .next s)

/-- After a reply, each record of the busy list is answered BUSY with its repeat count, oldest first, and with none
left the request-in-progress flag is cleared (R154; one command for one reply, Log 7); its notice count is that of the
moment at which it begins (Log 57). -/
def Obligations.RepliesFollowOneAnother : Prop :=
  (∀ (s : State) (left : List BusyRecord),
     s.pins.resetHeld = false → s.port.inProgress = true →
     left = (if sendingBusy s.port then s.port.busy.tail else s.port.busy) → left = [] →
     exec .replySent s = .next { s with port := { inProgress := false, busy := [], reply := none } })
  ∧ (∀ (s : State) (r : BusyRecord) (rest : List BusyRecord),
       s.pins.resetHeld = false → s.port.inProgress = true →
       r :: rest = (if sendingBusy s.port then s.port.busy.tail else s.port.busy) →
       exec .replySent s = .next { s with port := {
         inProgress := true, busy := r :: rest,
         reply := some { seq := r.seq, answer := .refused .busy (.busy r.count), notices := s.notes.queue.length } } })

/-- A frame written in the bytes of 9.7 with the check of R63 is judged good and read back with every field. That a
HOLD of 0 or of 9 to 15 labels and an ANSWER of 9 to 12 items are good frames is Log 37. -/
def Obligations.FloorFramesReadBack : Prop :=
  ∀ (key own : Nat) (b : Body),
    key < 65536 → b.wf = true → framingOk key b = true →
    judgeFrame (frameBytes key b) = some (key, b)
      ∧ heardFrame own (frameBytes key b) = (if keyBay key = own then .duplicateBay b.kind else b.command key)

/-- A request frame written in the bytes of 9.7 is read back with every parameter; the order of the options flags and
the codes of the modes are the model's reading (Logs 20, 23 and 34). -/
def Obligations.RequestFramesReadBack : Prop :=
  ∀ (i : Instr) (h : ReqHead) (bytes : List Byte),
    i.wf = true → i.reqHead = some h → h.formOk = true → requestBytes i = some bytes → bytes.length ≤ 36 →
    heardRequest bytes = some i

/-- R158 and R159: the flag is latched whatever the mask holds, and an enabled kind's record is placed, replaced by an
OVERRUN, or counted in the one there is. -/
def Obligations.NoticesRaisedAreKeptOrCounted : Prop :=
  ∀ (k : NoticeKind) (a b : Nat) (s : State),
    NoticeLaw s → k ≠ .overrun →
    hasFlag (raise k a b s).notes.summary k = true
      ∧ raise k a b s = { s with notes := { s.notes with
          summary := (raise k a b s).notes.summary, queue := (raise k a b s).notes.queue } }
      ∧ (hasFlag s.notes.mask k = false → (raise k a b s).notes.queue = s.notes.queue)
      ∧ (hasFlag s.notes.mask k = true → s.notes.queue.length - overrunCount s.notes.queue < 31 →
          (raise k a b s).notes.queue = s.notes.queue ++ [⟨k, s.time.minute, s.time.seconds, a, b⟩])
      ∧ (hasFlag s.notes.mask k = true → s.notes.queue.length = 31 → overrunCount s.notes.queue = 0 →
          (raise k a b s).notes.queue = s.notes.queue ++ [⟨.overrun, s.time.minute, s.time.seconds, k.code, 1⟩]
            ∧ hasFlag (raise k a b s).notes.summary .overrun = true)
      ∧ (hasFlag s.notes.mask k = true → s.notes.queue.length = 32 →
          (raise k a b s).notes.queue = s.notes.queue.map
            (fun r => if r.kind = .overrun then { r with param2 := min 65535 (r.param2 + 1) } else r))

/-- DOCK (R20, R21): the docking record with its clamps and defaults, OPEN, M, U, the beacon, READY (R139),
CUTOFF_NEAR where M is 15 or less (R55), and the reply; and the automatic start of R141 where AUTOCLOSE is set and E
is at most O. That READY is raised ahead of CUTOFF_NEAR is Log 18. -/
def Obligations.DockBindsTheTrailer : Prop :=
  (∀ (h : ReqHead) (p : DockParams) (s : State) (c pl k : Nat),
     Taken h s → s.docking = none → s.time.clockSet = true → p.capacity = some c → p.payload = some pl →
     p.cutoff = some k → dropsOk p.drops = true → 1 ≤ c → c ≤ 52 → k ≤ 1439 → effectiveMinutes s.time k ≠ 0 →
     (s.straps.autoClose = false ∨ outboundCount s.deck < min c (p.expected.getD c)) →
     ∃ t, exec (.dock h p) s = .next t
       ∧ t.docking = some {
           drops := p.drops, capacity := c, payload := max 10 (min 2600 pl),
           handling := max 20 (min 240 (p.handling.getD 90)), expected := min c (p.expected.getD c), cutoff := k }
       ∧ t.time = { s.time with
           m := rawMinutes s.time.minute k - margin s.time,
           warned := decide (rawMinutes s.time.minute k - margin s.time ≤ 15) }
       ∧ t.urgency = urgencyNow t
       ∧ t.dep = { s.dep with
           state := some .openBay, window := none, named := [], allowance := none, startPending := [], lamp := false,
           halt := false, retry := false, ready := readyNow t, autoWas := autocloseNow t }
       ∧ BeaconSent s t
       ∧ t.notes = (
           let e := min c (p.expected.getD c)
           let a := if readyNow t && !s.dep.ready then raise .ready (outboundCount s.deck) e s else s
           if t.time.m ≤ 15 then (raise .cutoffNear t.time.m k a).notes else a.notes)
       ∧ t.port = replyPort h (.ok .dock (.dock t.time.m t.urgency (max 10 (min 2600 pl))
           (max 20 (min 240 (p.handling.getD 90))) (min c (p.expected.getD c)))) s t
       ∧ t = { s with
           docking := t.docking, time := t.time, urgency := t.urgency, dep := t.dep, link := t.link, dir := t.dir,
           notes := t.notes, port := t.port })
  ∧ (∀ (h : ReqHead) (p : DockParams) (s : State) (c pl k : Nat),
       Taken h s → s.docking = none → s.time.clockSet = true → p.capacity = some c → p.payload = some pl →
       p.cutoff = some k → dropsOk p.drops = true → 1 ≤ c → c ≤ 52 → k ≤ 1439 → effectiveMinutes s.time k ≠ 0 →
       s.straps.autoClose = true → min c (p.expected.getD c) ≤ outboundCount s.deck → s.dep.autoWas = false →
       s.store.owing = [] → s.store.holds = [] → s.lane = [] → s.run.mode = none → s.link.line = .joined →
       s.link.queue.length < 15 →
       ∃ t, exec (.dock h p) s = .next t
         ∧ t.docking = some {
             drops := p.drops, capacity := c, payload := max 10 (min 2600 pl),
             handling := max 20 (min 240 (p.handling.getD 90)), expected := min c (p.expected.getD c), cutoff := k }
         ∧ t.time = { s.time with
             m := rawMinutes s.time.minute k - margin s.time,
             warned := decide (rawMinutes s.time.minute k - margin s.time ≤ 15) }
         ∧ t.urgency = urgencyNow t
         ∧ t.dep = { calledDep s with allowance := none, lamp := false, halt := false }
         ∧ (∃ f ∈ t.link.queue, f.body = .call { bay := s.straps.bay, number := (s.dep.callNumber + 1) % 256 })
         ∧ t.notes = (
             let e := min c (p.expected.getD c)
             let a := if s.dep.ready = false then raise .ready (outboundCount s.deck) e s else s
             if t.time.m ≤ 15 then (raise .cutoffNear t.time.m k a).notes else a.notes)
         ∧ t.port = replyPort h (.ok .dock (.dock t.time.m t.urgency (max 10 (min 2600 pl))
             (max 20 (min 240 (p.handling.getD 90))) (min c (p.expected.getD c)))) s t
         ∧ t = { s with
             docking := t.docking, time := t.time, urgency := t.urgency, dep := t.dep, link := t.link, dir := t.dir,
             notes := t.notes, port := t.port })
  ∧ (∀ (h : ReqHead) (p : DockParams) (s : State) (c pl k : Nat),
       Taken h s → s.docking = none → s.time.clockSet = true → p.capacity = some c → p.payload = some pl →
       p.cutoff = some k → dropsOk p.drops = true → 1 ≤ c → c ≤ 52 → k ≤ 1439 → effectiveMinutes s.time k ≠ 0 →
       s.straps.autoClose = true → min c (p.expected.getD c) ≤ outboundCount s.deck → s.dep.autoWas = false →
       s.store.owing = [] → s.store.holds = [] → s.lane = [] → (s.run.mode ≠ none ∨ s.link.line ≠ .joined) →
       ∃ t, exec (.dock h p) s = .next t
         ∧ t.docking = some {
             drops := p.drops, capacity := c, payload := max 10 (min 2600 pl),
             handling := max 20 (min 240 (p.handling.getD 90)), expected := min c (p.expected.getD c), cutoff := k }
         ∧ t.time = { s.time with
             m := rawMinutes s.time.minute k - margin s.time,
             warned := decide (rawMinutes s.time.minute k - margin s.time ≤ 15) }
         ∧ t.urgency = urgencyNow t
         ∧ t.dep = { s.dep with
             state := some .openBay, window := none, named := [], allowance := none, startPending := [.autocloseReady],
             lamp := false, halt := false, retry := false, ready := true, autoWas := true }
         ∧ BeaconSent s t
         ∧ t.notes = (
             let e := min c (p.expected.getD c)
             let a := if s.dep.ready = false then raise .ready (outboundCount s.deck) e s else s
             if t.time.m ≤ 15 then (raise .cutoffNear t.time.m k a).notes else a.notes)
         ∧ t.port = replyPort h (.ok .dock (.dock t.time.m t.urgency (max 10 (min 2600 pl))
             (max 20 (min 240 (p.handling.getD 90))) (min c (p.expected.getD c)))) s t
         ∧ t = { s with
             docking := t.docking, time := t.time, urgency := t.urgency, dep := t.dep, link := t.link, dir := t.dir,
             notes := t.notes, port := t.port })

/-- DECLARE (R23) by the push of R6: PLACED at position depth + 1, or FULL with the deck fault of R14 in direction
OVERFLOW, whose code in the notice is Log 20. -/
def Obligations.DeclarePushesAnInboundEntry : Prop :=
  (∀ (h : ReqHead) (label depot mass : Nat) (s : State) (d : Docking),
     Taken h s → s.docking = some d → s.run.mode = none → outboundCount s.deck = 0 → label ≠ 0 →
     depotOk depot = true → mass ≠ 0 → labelKnown s label = false → s.deck.entries.length < d.capacity →
     exec (.declare h label depot mass) s = .next { s with
       deck := { s.deck with entries := s.deck.entries ++
         [{ tag := .inbound, label := label, depot := depot, mass := min mass 120, rank := none, owed := false }] },
       port := replyPort h (.ok .declare (.depth (s.deck.entries.length + 1))) s s })
  ∧ (∀ (h : ReqHead) (label depot mass : Nat) (s : State) (d : Docking),
       Taken h s → s.docking = some d → s.run.mode = none → outboundCount s.deck = 0 → label ≠ 0 →
       depotOk depot = true → mass ≠ 0 → labelKnown s label = false → d.capacity ≤ s.deck.entries.length →
       ∃ t, exec (.declare h label depot mass) s = .next t
         ∧ t.deck = { s.deck with fault := some .overflow }
         ∧ t.notes = (raise .deckFault 1 s.deck.entries.length s).notes
         ∧ t.port = replyPort h (.refused .deckFull .none) s t
         ∧ t = { s with deck := t.deck, notes := t.notes, port := t.port })

/-- TIP START (R25): its tests in their order, and mode, remaining count, tipped count 0 and the last termination
reason kept; the last-closed records are cleared besides (R99). -/
def Obligations.TipStartBeginsARun : Prop :=
  (∀ (h : ReqHead) (s : State),
     Taken h s → s.docking.isSome = true → s.run.mode = none →
     exec (.tipStart h .openEnded) s = .next { s with
       run := { s.run with mode := some .openEnded, remaining := none, tipped := 0 },
       asm := { s.asm with targets := s.asm.targets.map (fun r => { r with last := none }) },
       port := replyPort h (.ok .tipStart (.tipStart .openEnded none)) s s })
  ∧ (∀ (h : ReqHead) (n : Nat) (s : State) (r : Nat),
       Taken h s → s.docking.isSome = true → s.run.mode = none → n ≤ 52 →
       r = (if n = 0 then inboundCount s.deck else n) → r ≠ 0 →
       exec (.tipStart h (.counted n)) s = .next { s with
         run := { s.run with mode := some .counted, remaining := some r, tipped := 0 },
         asm := { s.asm with targets := s.asm.targets.map (fun x => { x with last := none }) },
         port := replyPort h (.ok .tipStart (.tipStart .counted (some r))) s s })
  ∧ (∀ (h : ReqHead) (mode : TipModeArg) (s : State),
       Taken h s → s.docking = none →
       exec (.tipStart h mode) s = .next { s with port := replyPort h (.refused .notDocked .none) s s })
  ∧ (∀ (h : ReqHead) (mode : TipModeArg) (s : State),
       Taken h s → s.docking.isSome = true → s.run.mode ≠ none →
       exec (.tipStart h mode) s = .next { s with port := replyPort h (.refused .runActive .none) s s })
  ∧ (∀ (h : ReqHead) (mode : TipModeArg) (n : Nat) (s : State),
       Taken h s → s.docking.isSome = true → s.run.mode = none →
       (mode = .neither ∨ (mode = .counted n ∧ (52 < n ∨ (n = 0 ∧ inboundCount s.deck = 0)))) →
       exec (.tipStart h mode) s = .next { s with port := replyPort h (.refused .badValue .none) s s })

/-- TIP OFF routed to the lane (R28 to R32) where the run does not end by it: the exchange and pop, the lane entry,
the notices, the counts, the beacon where the beaconed free spaces change, and the reply. That nothing is beaconed
where the event leaves the beaconed free spaces as they were, though they differ from the last beaconed ones, is Log
19. -/
def Obligations.TipOffMovesAPalletToTheLane : Prop :=
  (∀ (h : ReqHead) (label : Nat) (depot mass : Option Nat) (s : State) (k rank : Nat) (e : DeckEntry),
     Taken h s → label ≠ 0 → (∀ d ∈ depot, depotOk d = true) → mass ≠ some 0 → s.run.mode ≠ none →
     (s.run.mode = some .counted → s.run.remaining ≠ some 1 ∧ s.run.remaining ≠ some 0) →
     examineLabel s.deck label = some (k, e) → e.tag = .inbound → k < 3 → 1 < inboundCount s.deck →
     rankOf (dropList s) e.depot = some rank → admission e.mass s = .admitted →
     ∃ t, exec (.tipOff h label depot mass) s = .next t
       ∧ t.lane = s.lane ++ [{ label := label, depot := e.depot, rank := rank, mass := e.mass, origin := 0,
                               unannounced := false, owed := false }]
       ∧ t.deck.fault = s.deck.fault
       ∧ t.deck.entries = (match s.deck.entries.getLast? with
           | some rear => (s.deck.entries.set (s.deck.entries.length - 1 - k) rear).dropLast
           | none => [])
       ∧ t.run = { s.run with
           tipped := min 65535 (s.run.tipped + 1),
           remaining := if s.run.mode = some .counted then s.run.remaining.map (· - 1) else s.run.remaining }
       ∧ t.dep = { s.dep with ready := false, autoWas := false }
       ∧ t.notes = (if k = 0 then s.notes else (raise .orderCorrected label k s).notes)
       ∧ BeaconIf ((contentNow t).free != (contentNow s).free && (contentNow t).free != s.dir.last.free) s t
       ∧ t.port = replyPort h (.ok .tipOff (.tipOff true none true t.run.remaining t.run.tipped)) s t
       ∧ t = { s with
           deck := t.deck, lane := t.lane, run := t.run, dep := t.dep, notes := t.notes, link := t.link,
           dir := t.dir, port := t.port })
  ∧ (∀ (h : ReqHead) (label depot mass rank : Nat) (s : State),
       Taken h s → label ≠ 0 → depotOk depot = true → mass ≠ 0 → s.run.mode ≠ none →
       (s.run.mode = some .counted → s.run.remaining ≠ some 1 ∧ s.run.remaining ≠ some 0) →
       labelKnown s label = false → rankOf (dropList s) depot = some rank → admission (min mass 120) s = .admitted →
       ∃ t, exec (.tipOff h label (some depot) (some mass)) s = .next t
         ∧ t.lane = s.lane ++ [{ label := label, depot := depot, rank := rank, mass := min mass 120, origin := 0,
                                 unannounced := false, owed := false }]
         ∧ t.deck = s.deck
         ∧ t.run = { s.run with
             tipped := min 65535 (s.run.tipped + 1),
             remaining := if s.run.mode = some .counted then s.run.remaining.map (· - 1) else s.run.remaining }
         ∧ t.dep = { s.dep with ready := false, autoWas := false }
         ∧ t.notes = (raise .undeclared label depot s).notes
         ∧ BeaconIf ((contentNow t).free != (contentNow s).free && (contentNow t).free != s.dir.last.free) s t
         ∧ t.port = replyPort h (.ok .tipOff (.tipOff true none true t.run.remaining t.run.tipped)) s t
         ∧ t = { s with
             lane := t.lane, run := t.run, dep := t.dep, notes := t.notes, link := t.link, dir := t.dir,
             port := t.port })

/-- TIP OFF routed to the Transfer Table (R31) with target selection (R93, R94, R98), where the run does not end by
it. -/
def Obligations.TipOffOffersAPalletElsewhere : Prop :=
  (∀ (h : ReqHead) (label : Nat) (s : State) (e : DeckEntry),
     Taken h s → label ≠ 0 → s.run.mode ≠ none →
     (s.run.mode = some .counted → s.run.remaining ≠ some 1 ∧ s.run.remaining ≠ some 0) →
     examineLabel s.deck label = some (0, e) → e.tag = .inbound → 1 < inboundCount s.deck →
     rankOf (dropList s) e.depot = none → s.table.length < 96 → inTable s label = false →
     (∀ d ∈ s.dir.entries, candidate s (⟨label, e.depot, e.mass, .parked, false, []⟩ : TransferEntry) d = false) →
     ∃ t, exec (.tipOff h label none none) s = .next t
       ∧ t.table = s.table ++ [⟨label, e.depot, e.mass, .parked, false, []⟩]
       ∧ t.deck = { s.deck with entries := s.deck.entries.dropLast }
       ∧ t.notes = (raise .parked label e.depot s).notes
       ∧ t.run = { s.run with
           tipped := min 65535 (s.run.tipped + 1),
           remaining := if s.run.mode = some .counted then s.run.remaining.map (· - 1) else s.run.remaining }
       ∧ t.port = replyPort h (.ok .tipOff (.tipOff false none true t.run.remaining t.run.tipped)) s t
       ∧ t = { s with deck := t.deck, table := t.table, run := t.run, notes := t.notes, port := t.port })
  ∧ (∀ (h : ReqHead) (label : Nat) (s : State) (e : DeckEntry),
       Taken h s → label ≠ 0 → s.run.mode ≠ none →
       (s.run.mode = some .counted → s.run.remaining ≠ some 1 ∧ s.run.remaining ≠ some 0) →
       examineLabel s.deck label = some (0, e) → e.tag = .inbound → 1 < inboundCount s.deck →
       rankOf (dropList s) e.depot = none → s.table.length < 96 → inTable s label = false →
       (∃ d ∈ s.dir.entries, candidate s (⟨label, e.depot, e.mass, .parked, false, []⟩ : TransferEntry) d = true) →
       ∃ t, exec (.tipOff h label none none) s = .next t
         ∧ (∃ b ∈ s.dir.entries, candidate s (⟨label, e.depot, e.mass, .parked, false, []⟩ : TransferEntry) b = true
             ∧ (∀ d ∈ s.dir.entries, candidate s (⟨label, e.depot, e.mass, .parked, false, []⟩ : TransferEntry) d = true →
                 b.minutes < d.minutes ∨ (b.minutes = d.minutes ∧ b.bay ≤ d.bay))
             ∧ t.table = s.table ++ [⟨label, e.depot, e.mass, .queued b.bay, false, []⟩]
             ∧ t.port = replyPort h
                 (.ok .tipOff (.tipOff false (some b.bay) true t.run.remaining t.run.tipped)) s t)
         ∧ t.deck = { s.deck with entries := s.deck.entries.dropLast }
         ∧ t.notes = s.notes
         ∧ t.run = { s.run with
             tipped := min 65535 (s.run.tipped + 1),
             remaining := if s.run.mode = some .counted then s.run.remaining.map (· - 1) else s.run.remaining }
         ∧ t = { s with
             deck := t.deck, table := t.table, run := t.run, asm := t.asm,
             link := { s.link with queue := t.link.queue }, port := t.port })

/-- TIP END (R26) with the effects of R27: the groups close short (R102), empty finals follow full ones (R103), and
TIP_DONE is raised; and the terminations COUNT and EMPTY that a TIP OFF brings (R32). That groups which waiting
entries open between the closings are closed too is Log 12; the code of the reason in TIP_DONE is Log 20; the order of
the closings is the model's choice (Log 40), and the statement leaves it out of account. -/
def Obligations.RunsEndWithTheirGroups : Prop :=
  (∀ (h : ReqHead) (s : State),
     Taken h s → s.run.mode ≠ none → s.asm.targets.Pairwise (fun a b => a.bay < b.bay) →
     ∃ t, exec (.tipEnd h) s = .next t
       ∧ t.run = { s.run with mode := none, lastReason := .ended }
       ∧ t.notes = (raise .tipDone 512 s.run.tipped s).notes
       ∧ t.asm.openGroups = [] ∧ (GroupLaw s → GroupsSent s t)
       ∧ (s.straps.noFinal = false → ∀ r ∈ t.asm.targets, ∀ l ∈ r.last, l.full = false)
       ∧ t.port = replyPort h (.ok .tipEnd (.tipEnd s.run.tipped)) s t
       ∧ t = { s with
           run := t.run, notes := t.notes, asm := t.asm, link := { s.link with queue := t.link.queue },
           port := t.port })
  ∧ (∀ (h : ReqHead) (s : State),
       Taken h s → s.run.mode = none →
       exec (.tipEnd h) s = .next { s with port := replyPort h (.refused .noRun .none) s s })
  ∧ (∀ (h : ReqHead) (label : Nat) (s : State) (rank : Nat) (e : DeckEntry),
       Taken h s → label ≠ 0 → s.run.mode = some .counted → s.run.remaining = some 1 →
       examineLabel s.deck label = some (0, e) → e.tag = .inbound → rankOf (dropList s) e.depot = some rank →
       admission e.mass s = .admitted →
       ∃ t, exec (.tipOff h label none none) s = .next t
         ∧ t.run = { mode := none, remaining := some 0, tipped := min 65535 (s.run.tipped + 1), lastReason := .count }
         ∧ t.notes = (raise .tipDone (if inboundCount s.deck = 1 then 257 else 256) (min 65535 (s.run.tipped + 1)) s).notes
         ∧ t.asm.openGroups = [] ∧ (GroupLaw s → GroupsSent s t)
         ∧ t.lane.length = s.lane.length + 1 ∧ t.table = s.table
         ∧ t.port = replyPort h (.ok .tipOff (.tipOff true none false (some 0) (min 65535 (s.run.tipped + 1)))) s t)
  ∧ (∀ (h : ReqHead) (label : Nat) (s : State) (rank : Nat) (e : DeckEntry),
       Taken h s → label ≠ 0 → s.run.mode ≠ none →
       (s.run.mode = some .counted → s.run.remaining ≠ some 1 ∧ s.run.remaining ≠ some 0) →
       inboundCount s.deck = 1 → examineLabel s.deck label = some (0, e) → e.tag = .inbound →
       rankOf (dropList s) e.depot = some rank → admission e.mass s = .admitted →
       ∃ t, exec (.tipOff h label none none) s = .next t
         ∧ t.run.mode = none ∧ t.run.lastReason = .empty ∧ t.run.tipped = min 65535 (s.run.tipped + 1)
         ∧ t.notes = (raise .tipDone 768 (min 65535 (s.run.tipped + 1)) s).notes
         ∧ t.asm.openGroups = [] ∧ (GroupLaw s → GroupsSent s t)
         ∧ t.lane.length = s.lane.length + 1 ∧ t.table = s.table ∧ inboundCount t.deck = 0
         ∧ t.port = replyPort h (.ok .tipOff (.tipOff true none false t.run.remaining (min 65535 (s.run.tipped + 1)))) s t)

/-- LOAD (R38) by the compare of R12 and the push of R6; U under R58, READY under R139. Where U stands in the reply is
Log 21. -/
def Obligations.LoadMovesAPalletOntoTheDeck : Prop :=
  ∀ (h : ReqHead) (label : Nat) (s : State) (d : Docking) (e : LaneEntry),
    Taken h s → s.docking = some d → s.lane.find? (fun x => x.label == label) = some e → inboundCount s.deck = 0 →
    compareRank s.deck e.rank ≠ .behind → s.deck.entries.length < d.capacity → NoAutoclose s →
    ∃ t, exec (.load h label) s = .next t
      ∧ t.deck = { s.deck with entries := s.deck.entries ++
          [{ tag := .outbound, label := label, depot := e.depot, mass := e.mass, rank := some e.rank, owed := e.owed }] }
      ∧ t.lane = s.lane.filter (fun x => x.label != label)
      ∧ t.urgency = urgencyFor s.time.m d.expected (outboundCount s.deck + 1) d.handling
      ∧ BeaconIf (significant t.urgency s.dir.last.urgency) s t
      ∧ Settled s t ∧ t.dep = { s.dep with ready := t.dep.ready, autoWas := t.dep.autoWas }
      ∧ t.port = replyPort h
          (.ok .load (.load (compareRank s.deck e.rank) (s.deck.entries.length + 1) t.urgency)) s t
      ∧ t = { s with
          deck := t.deck, lane := t.lane, urgency := t.urgency, link := t.link, dir := t.dir, dep := t.dep,
          notes := t.notes, port := t.port }

/-- An automatic start by AUTOCLOSE READY (R141), brought by a LOAD, with the start of a call (R142). -/
def Obligations.LoadMayStartTheCall : Prop :=
  ∀ (h : ReqHead) (s : State) (d : Docking) (e : LaneEntry),
    Taken h s → s.docking = some d → s.lane = [e] → inboundCount s.deck = 0 → compareRank s.deck e.rank ≠ .behind →
    s.deck.entries.length < d.capacity → s.straps.autoClose = true → s.dep.state = some .openBay →
    s.dep.autoWas = false → s.run.mode = none → s.store.owing = [] → s.store.holds = [] →
    d.expected ≤ outboundCount s.deck + 1 → (s.link.line = .joined ∨ s.time.m = 0) → s.link.queue.length < 15 →
    ∃ t, exec (.load h e.label) s = .next t
      ∧ t.dep = calledDep s
      ∧ (∃ f ∈ t.link.queue, f.body = .call { bay := s.straps.bay, number := (s.dep.callNumber + 1) % 256 })
      ∧ t.lane = [] ∧ t.deck.entries.length = s.deck.entries.length + 1 ∧ (s.dep.ready = false → hasFlag t.notes.summary .ready = true)

/-- UNLOAD BACK (R39) by the pop of R9, or the refusal DECK_EMPTY with the deck fault of R14. That the reply carries
U, which R58 recomputes, is Log 21; the code of the fault's direction is Log 20. -/
def Obligations.UnloadBackReturnsTheRearPallet : Prop :=
  (∀ (h : ReqHead) (s : State) (e : DeckEntry) (rank : Nat),
     Taken h s → s.deck.entries.getLast? = some e → e.tag = .outbound → e.rank = some rank →
     ∃ t, exec (.unloadBack h) s = .next t
       ∧ t.deck = { s.deck with entries := s.deck.entries.dropLast }
       ∧ t.lane = s.lane ++ [{ label := e.label, depot := e.depot, rank := rank, mass := e.mass, origin := 0,
                               unannounced := false, owed := e.owed }]
       ∧ t.urgency = urgencyNow t
       ∧ BeaconIf (significant t.urgency s.dir.last.urgency) s t
       ∧ t.dep = { s.dep with ready := false, autoWas := false }
       ∧ t.port = replyPort h (.ok .unloadBack (.unloadBack e.label (s.deck.entries.length - 1) t.urgency)) s t
       ∧ t = { s with
           deck := t.deck, lane := t.lane, urgency := t.urgency, link := t.link, dir := t.dir, dep := t.dep,
           port := t.port })
  ∧ (∀ (h : ReqHead) (s : State),
       Taken h s → outboundCount s.deck = 0 →
       ∃ t, exec (.unloadBack h) s = .next t
         ∧ t.deck = { s.deck with fault := some .underflow }
         ∧ t.notes = (raise .deckFault 2 s.deck.entries.length s).notes
         ∧ t.port = replyPort h (.refused .deckEmpty .none) s t
         ∧ t = { s with deck := t.deck, notes := t.notes, port := t.port })

/-- ARRIVE of a held pallet (R130, R131), with a depot of its own or made at the reconciliation (R146), with its
RECEIPT (R133), and the CLOSED of R148 where it was the last hold in WAITING. That the RECEIPT is asked for before
Departure Control is told is Log 11. -/
def Obligations.ArriveTurnsAHoldIntoALaneEntry : Prop :=
  (∀ (h : ReqHead) (label depot mass : Nat) (origin : Option Nat) (s : State) (rank : Nat) (hd : Hold) (dp rk :
   Nat),
     Taken h s → s.docking.isSome = true → label ≠ 0 → depotOk depot = true → mass ≠ 0 →
     (∀ o ∈ origin, bayOk o = true ∧ o ≠ s.straps.bay) → s.dep.state ≠ some .closed →
     rankOf (dropList s) depot = some rank → onDeck s label = false → inLane s label = false →
     inTable s label = false → s.store.holds.find? (fun x => x.label == label) = some hd → hd.depot = some dp →
     hd.rank = some rk → (s.dep.state ≠ some .waiting ∨ s.store.holds.filter (fun x => x.label != label) ≠ []) →
     ∃ t, exec (.arrive h label depot mass origin) s = .next t
       ∧ t.store = { s.store with holds := s.store.holds.filter (fun x => x.label != label) }
       ∧ t.lane = s.lane ++ [{ label := label, depot := dp, rank := rk, mass := hd.mass, origin := hd.origin,
                               unannounced := false, owed := !hasRoom 0 s.link.queue }]
       ∧ t.link.queue = (if hasRoom 0 s.link.queue = true then
           insertQueued (framed (.receipt { bay := s.straps.bay, origin := hd.origin, label := label }) s) s.link.queue
           else s.link.queue)
       ∧ t.dep = { s.dep with ready := false, autoWas := false }
       ∧ t.port = replyPort h (.ok .arrive (.arrive true hd.origin (s.lane.length + 1) (hasRoom 0 s.link.queue)
           (dp != depot || hd.mass != min mass 120))) s t
       ∧ t = { s with
           store := t.store, lane := t.lane, link := { s.link with queue := t.link.queue }, dep := t.dep,
           port := t.port })
  ∧ (∀ (h : ReqHead) (label depot mass : Nat) (origin : Option Nat) (s : State) (rank : Nat) (hd : Hold) (dp rk :
     Nat),
       Taken h s → s.docking.isSome = true → label ≠ 0 → depotOk depot = true → mass ≠ 0 →
       (∀ o ∈ origin, bayOk o = true ∧ o ≠ s.straps.bay) → s.dep.state ≠ some .closed →
       rankOf (dropList s) depot = some rank → onDeck s label = false → inLane s label = false →
       inTable s label = false → s.store.holds.find? (fun x => x.label == label) = some hd → hd.depot = some dp →
       hd.rank = some rk → s.dep.state = some .waiting → s.store.holds.filter (fun x => x.label != label) = [] →
       ∃ t, exec (.arrive h label depot mass origin) s = .next t
         ∧ t.dep.state = some .closed ∧ t.dep.lamp = true ∧ t.dep.allowance = none ∧ t.store.holds = []
         ∧ hasFlag t.notes.summary .closed = true
         ∧ (t.dep.doneOwed = true ∨ ∃ f ∈ t.link.queue, f.body = .done { bay := s.straps.bay })
         ∧ t.lane = s.lane ++ [{ label := label, depot := dp, rank := rk, mass := hd.mass, origin := hd.origin,
                                 unannounced := false, owed := !hasRoom 0 s.link.queue }])
  ∧ (∀ (h : ReqHead) (label depot mass : Nat) (origin : Option Nat) (s : State) (rank : Nat) (hd : Hold),
       Taken h s → s.docking.isSome = true → label ≠ 0 → depotOk depot = true → mass ≠ 0 →
       (∀ o ∈ origin, bayOk o = true ∧ o ≠ s.straps.bay) → s.dep.state ≠ some .closed →
       rankOf (dropList s) depot = some rank → onDeck s label = false → inLane s label = false →
       inTable s label = false → s.store.holds.find? (fun x => x.label == label) = some hd → hd.depot = none →
       hd.rank = none → (s.dep.state ≠ some .waiting ∨ s.store.holds.filter (fun x => x.label != label) ≠ []) →
       ∃ t, exec (.arrive h label depot mass origin) s = .next t
         ∧ t.store = { s.store with holds := s.store.holds.filter (fun x => x.label != label) }
         ∧ t.lane = s.lane ++ [{ label := label, depot := depot, rank := rank, mass := min mass 120, origin := hd.origin,
                                 unannounced := false, owed := !hasRoom 0 s.link.queue }]
         ∧ t.link.queue = (if hasRoom 0 s.link.queue = true then
             insertQueued (framed (.receipt { bay := s.straps.bay, origin := hd.origin, label := label }) s) s.link.queue
             else s.link.queue)
         ∧ t.dep = { s.dep with ready := false, autoWas := false }
         ∧ t.port = replyPort h (.ok .arrive (.arrive true hd.origin (s.lane.length + 1) (hasRoom 0 s.link.queue) false)) s t
         ∧ t = { s with
             store := t.store, lane := t.lane, link := { s.link with queue := t.link.queue }, dep := t.dep,
             port := t.port })
  ∧ (∀ (h : ReqHead) (label depot mass : Nat) (origin : Option Nat) (s : State) (rank : Nat) (hd : Hold),
       Taken h s → s.docking.isSome = true → label ≠ 0 → depotOk depot = true → mass ≠ 0 →
       (∀ o ∈ origin, bayOk o = true ∧ o ≠ s.straps.bay) → s.dep.state ≠ some .closed →
       rankOf (dropList s) depot = some rank → onDeck s label = false → inLane s label = false →
       inTable s label = false → s.store.holds.find? (fun x => x.label == label) = some hd → hd.depot = none →
       hd.rank = none → s.dep.state = some .waiting → s.store.holds.filter (fun x => x.label != label) = [] →
       ∃ t, exec (.arrive h label depot mass origin) s = .next t
         ∧ t.dep.state = some .closed ∧ t.dep.lamp = true ∧ t.dep.allowance = none ∧ t.store.holds = []
         ∧ hasFlag t.notes.summary .closed = true
         ∧ (t.dep.doneOwed = true ∨ ∃ f ∈ t.link.queue, f.body = .done { bay := s.straps.bay })
         ∧ t.lane = s.lane ++ [{ label := label, depot := depot, rank := rank, mass := min mass 120, origin := hd.origin,
                                 unannounced := false, owed := !hasRoom 0 s.link.queue }])

/-- ARRIVE of an unannounced pallet (R132) by the admission test (R120), with its RECEIPT (R133) and the free spaces
handed on at once, ahead of the RECEIPT, as a beaconed change where they differ from the last beaconed ones (R85,
R121). That the directory keeps what it holds where the event leaves the beaconed free spaces as they were, though
they differ from the last beaconed ones, is Log 19. -/
def Obligations.ArriveTakesAnUnannouncedPalletThatFits : Prop :=
  (∀ (h : ReqHead) (label depot mass : Nat) (origin : Option Nat) (s : State) (rank : Nat) (d : Docking),
     Taken h s → s.docking.isSome = true → label ≠ 0 → depotOk depot = true → mass ≠ 0 →
     (∀ o ∈ origin, bayOk o = true ∧ o ≠ s.straps.bay) → s.dep.state ≠ some .closed →
     rankOf (dropList s) depot = some rank → onDeck s label = false → inLane s label = false →
     inTable s label = false → inHolds s label = false → s.docking = some d → usedSpaces s < d.capacity →
     usedMass s + min mass 120 ≤ d.payload →
     ∃ t, exec (.arrive h label depot mass origin) s = .next t
       ∧ (let news := (contentNow t).free != (contentNow s).free && (contentNow t).free != s.dir.last.free
          let l := if news then linkWithBeacon s t else s.link
          BeaconIf news s { t with link := l }
          ∧ t.lane = s.lane ++ [{ label := label, depot := depot, rank := rank, mass := min mass 120,
                                  origin := origin.getD 0, unannounced := true, owed := !hasRoom 0 l.queue }]
          ∧ t.link = (if hasRoom 0 l.queue = true then
              let receipt : Body := .receipt { bay := s.straps.bay, origin := origin.getD 0, label := label }
              { l with queue := insertQueued (framed receipt s) l.queue }
              else l)
          ∧ t.port = replyPort h (.ok .arrive
              (.arrive false (origin.getD 0) (s.lane.length + 1) (hasRoom 0 l.queue) false)) s t)
       ∧ t.dep = { s.dep with ready := false, autoWas := false }
       ∧ t = { s with lane := t.lane, dep := t.dep, dir := t.dir, link := t.link, port := t.port })
  ∧ (∀ (h : ReqHead) (label depot mass : Nat) (origin : Option Nat) (s : State) (rank : Nat) (d : Docking),
       Taken h s → s.docking.isSome = true → label ≠ 0 → depotOk depot = true → mass ≠ 0 →
       (∀ o ∈ origin, bayOk o = true ∧ o ≠ s.straps.bay) → s.dep.state ≠ some .closed →
       rankOf (dropList s) depot = some rank → onDeck s label = false → inLane s label = false →
       inTable s label = false → inHolds s label = false → s.docking = some d →
       (d.capacity ≤ usedSpaces s ∨ d.payload < usedMass s + min mass 120) →
       exec (.arrive h label depot mass origin) s = .next { s with
         port := replyPort h (.refused (if d.capacity ≤ usedSpaces s then .noSpace else .tooHeavy) .none) s s })

/-- DEPART (R40 to R42) from CLOSED or an emptied tip-only trailer in OPEN. That the reply carries U (R58) is Log 21;
that groups which waiting entries open between the closings at the run's end are closed too is Log 12; that the link
keeps its rejoin timer, against the words of R83, is Log 42; that the run's end raises TIP_DONE within a DEPART,
against the row of R168, is Log 48; the code of its reason is Log 20. -/
def Obligations.DepartEndsTheDocking : Prop :=
  (∀ (h : ReqHead) (s : State),
     Taken h s → s.docking.isSome = true →
     (s.dep.state = some .closed ∨ (s.dep.state = some .openBay ∧ dropList s = [] ∧ s.deck.entries = [])) →
     s.run.mode = none → s.lane = [] →
     ∃ t, exec (.depart h false) s = .next t
       ∧ t.docking = none ∧ t.deck = { s.deck with entries := [] } ∧ t.store = { holds := [], owing := [], kept := [] }
       ∧ t.time = { s.time with m := 0, warned := false } ∧ t.urgency = 0
       ∧ t.dep = { Departure.initial with callNumber := s.dep.callNumber, doneOwed := s.dep.doneOwed }
       ∧ BeaconSent s t
       ∧ t.port = replyPort h (.ok .depart (.depart 0 0)) s t
       ∧ t = { s with
           docking := none, deck := t.deck, store := t.store, time := t.time, urgency := 0, dep := t.dep,
           link := t.link, dir := t.dir, port := t.port })
  ∧ (∀ (h : ReqHead) (s : State),
       Taken h s → s.docking.isSome = true →
       (s.dep.state = some .closed ∨ (s.dep.state = some .openBay ∧ dropList s = [] ∧ s.deck.entries = [])) →
       s.run.mode = none → s.lane.length + s.table.length ≤ 96 →
       ∃ t, exec (.depart h true) s = .next t
         ∧ t.docking = none ∧ t.lane = [] ∧ t.deck.entries = [] ∧ t.store.holds = [] ∧ t.dep.state = none
         ∧ t.table.map (fun e => (e.label, e.depot, e.mass)) =
             s.table.map (fun e => (e.label, e.depot, e.mass)) ++ s.lane.map (fun e => (e.label, e.depot, e.mass))
         ∧ t.port = replyPort h (.ok .depart (.depart s.lane.length 0)) s t)
  ∧ (∀ (h : ReqHead) (s : State),
       Taken h s → s.docking.isSome = true → s.dep.state = some .closed → s.run.mode ≠ none → s.lane = [] →
       ∃ t, exec (.depart h false) s = .next t
         ∧ t.docking = none ∧ t.deck.entries = [] ∧ t.store.holds = [] ∧ t.dep.state = none ∧ t.urgency = 0
         ∧ t.run = { s.run with mode := none, lastReason := .ended }
         ∧ t.notes = (raise .tipDone 512 s.run.tipped s).notes
         ∧ t.asm.openGroups = [] ∧ (GroupLaw s → GroupsSent s t) ∧ t.table = s.table
         ∧ t.port = replyPort h (.ok .depart (.depart 0 0)) s t)

/-- WITHDRAW (R114) in its forms. -/
def Obligations.WithdrawRemovesAnEntry : Prop :=
  (∀ (h : ReqHead) (label : Nat) (s : State) (e : TransferEntry),
     Taken h s → label ≠ 0 → entryOf s label = some e → releaseTarget e.state = none →
     ∃ t, exec (.withdraw h label) s = .next t
       ∧ t.table = s.table.filter (fun x => x.label != label) ∧ grouped t.asm label = false
       ∧ t.port = replyPort h (.ok .withdraw (.withdraw e.state)) s t
       ∧ t = { s with table := t.table, asm := t.asm, link := { s.link with queue := t.link.queue }, port := t.port })
  ∧ (∀ (h : ReqHead) (label target : Nat) (s : State) (e : TransferEntry),
       Taken h s → label ≠ 0 → entryOf s label = some e → releaseTarget e.state = some target →
       hasRoom 1 s.link.queue = true →
       ∃ t, exec (.withdraw h label) s = .next t
         ∧ t.table = s.table.filter (fun x => x.label != label) ∧ grouped t.asm label = false
         ∧ framed (.release { origin := s.straps.bay, target := target, label := label }) s ∈ t.link.queue
         ∧ t.port = replyPort h (.ok .withdraw (.withdraw e.state)) s t
         ∧ t = { s with
             table := t.table, asm := t.asm, link := { s.link with queue := t.link.queue }, port := t.port })
  ∧ (∀ (h : ReqHead) (label target : Nat) (s : State) (e : TransferEntry),
       Taken h s → label ≠ 0 → entryOf s label = some e → releaseTarget e.state = some target →
       hasRoom 1 s.link.queue = false →
       exec (.withdraw h label) s = .next { s with port := replyPort h (.refused .linkBusy .none) s s })

/-- HALT INTAKE (R127) and RESUME INTAKE (R128), whose beaconed change does not depend on what was beaconed last (Log
35). -/
def Obligations.HaltAndResumeSetTheFlag : Prop :=
  (∀ (h : ReqHead) (s : State),
     Taken h s → s.docking.isSome = true →
     ∃ t, exec (.haltIntake h) s = .next t
       ∧ t.dep = { s.dep with halt := true }
       ∧ BeaconIf (!s.dep.halt && s.dir.last.free != 0) s t
       ∧ t.port = replyPort h (.ok .haltIntake (.intake true (freeSpaces s))) s t
       ∧ t = { s with dep := t.dep, link := t.link, dir := t.dir, port := t.port })
  ∧ (∀ (h : ReqHead) (s : State),
       Taken h s → s.docking.isSome = true →
       ∃ t, exec (.resumeIntake h) s = .next t
         ∧ t.dep = { s.dep with halt := false }
         ∧ BeaconIf (s.dep.halt && decide (0 < freeSpaces s)) s t
         ∧ t.port = replyPort h (.ok .resumeIntake (.intake false (freeSpaces s))) s t
         ∧ t = { s with dep := t.dep, link := t.link, dir := t.dir, port := t.port })

/-- CLOSE (R140) with the start of the call (R142). -/
def Obligations.CloseStartsTheCall : Prop :=
  (∀ (h : ReqHead) (s : State),
     Taken h s → s.docking.isSome = true → (s.run.mode = none ∨ inboundCount s.deck = 0) →
     (s.link.line = .joined ∨ s.time.m = 0) → hasRoom 0 s.link.queue = true → s.dep.state = some .openBay →
     ∃ t, exec (.close h) s = .next t
       ∧ t.dep = calledDep s
       ∧ BeaconSent { s with
           link := { s.link with
             queue := insertQueued
               (framed (.call { bay := s.straps.bay, number := (s.dep.callNumber + 1) % 256 }) s)
               s.link.queue } } t
       ∧ t.port = replyPort h (.ok .close (.closing (some .calling) ((s.dep.callNumber + 1) % 256))) s t
       ∧ t = { s with dep := t.dep, link := t.link, dir := t.dir, port := t.port })
  ∧ (∀ (h : ReqHead) (s : State),
       Taken h s → s.docking.isSome = true → (s.run.mode = none ∨ inboundCount s.deck = 0) →
       (s.link.line = .joined ∨ s.time.m = 0) → hasRoom 0 s.link.queue = true → s.dep.state ≠ some .openBay →
       exec (.close h) s = .next { s with
         port := replyPort h (.ok .close (.closing s.dep.state s.dep.callNumber)) s s })

/-- REOPEN (R150): the return to OPEN with the holds kept, after which AUTOCLOSE READY does not count as becoming true
(R141). -/
def Obligations.ReopenReturnsToOpen : Prop :=
  (∀ (h : ReqHead) (s : State),
     Taken h s → s.docking.isSome = true → (s.dep.state = some .calling ∨ s.dep.state = some .waiting) →
     ∃ t, exec (.reopen h) s = .next t
       ∧ t.dep = { s.dep with
           state := some .openBay, window := none, allowance := none, named := [], ready := t.dep.ready,
           autoWas := t.dep.autoWas }
       ∧ Settled s t ∧ BeaconSent s t
       ∧ t.port = replyPort h (.ok .reopen (.closing (some .openBay) s.dep.callNumber)) s t
       ∧ t = { s with dep := t.dep, notes := t.notes, link := t.link, dir := t.dir, port := t.port })
  ∧ (∀ (h : ReqHead) (s : State),
       Taken h s → s.docking.isSome = true → s.dep.state = some .openBay →
       exec (.reopen h) s = .next { s with
         dep := { s.dep with startPending := [], retry := false },
         port := replyPort h (.ok .reopen (.closing (some .openBay) s.dep.callNumber)) s s })

/-- SET CUTOFF and SET EXPECTED (R22), with the cutoff-reached event that a SET CUTOFF can bring (R56, R152); SET
EXPECTED where no call is started by it. That CUTOFF_NEAR stands ahead of CUTOFF_REACHED is Log 26; the pending causes
are kept in the order in which they joined (Log 47). -/
def Obligations.SetCutoffAndExpectedRecompute : Prop :=
  (∀ (h : ReqHead) (k : Nat) (s : State) (d : Docking) (m : Nat),
     Taken h s → s.docking = some d → k ≤ 1439 → m = rawMinutes s.time.minute k - margin s.time →
     (m ≠ 0 ∨ s.time.m = 0) →
     ∃ t, exec (.setCutoff h k) s = .next t
       ∧ t.docking = some { d with cutoff := k }
       ∧ t.time = { s.time with m := m, warned := s.time.warned || decide (m ≤ 15) }
       ∧ t.notes = (if m ≤ 15 ∧ s.time.warned = false then (raise .cutoffNear m k s).notes else s.notes)
       ∧ t.urgency = urgencyFor m d.expected (outboundCount s.deck) d.handling
       ∧ BeaconIf (significant t.urgency s.dir.last.urgency) s t
       ∧ t.port = replyPort h (.ok .setCutoff (.setCutoff m)) s t
       ∧ t = { s with
           docking := t.docking, time := t.time, notes := t.notes, urgency := t.urgency, link := t.link,
           dir := t.dir, port := t.port })
  ∧ (∀ (h : ReqHead) (k : Nat) (s : State) (d : Docking),
       Taken h s → s.docking = some d → k ≤ 1439 → rawMinutes s.time.minute k ≤ margin s.time → 0 < s.time.m →
       s.dep.state ≠ some .waiting → (s.straps.autoClose = false ∨ s.dep.state ≠ some .openBay) →
       ∃ t, exec (.setCutoff h k) s = .next t
         ∧ t.docking = some { d with cutoff := k } ∧ t.time = { s.time with m := 0, warned := true }
         ∧ t.urgency = urgencyFor 0 d.expected (outboundCount s.deck) d.handling
         ∧ t.notes = (
             let a := if s.time.warned = true then s else raise .cutoffNear 0 k s
             if s.dep.state = some .openBay then (raise .cutoffReached k s.time.minute a).notes else a.notes)
         ∧ BeaconIf (significant t.urgency s.dir.last.urgency) s t
         ∧ t.port = replyPort h (.ok .setCutoff (.setCutoff 0)) s t
         ∧ t = { s with
             docking := t.docking, time := t.time, notes := t.notes, urgency := t.urgency, link := t.link,
             dir := t.dir, port := t.port })
  ∧ (∀ (h : ReqHead) (k : Nat) (s : State) (d : Docking),
       Taken h s → s.docking = some d → k ≤ 1439 → rawMinutes s.time.minute k ≤ margin s.time → 0 < s.time.m →
       s.dep.state = some .waiting →
       ∃ t, exec (.setCutoff h k) s = .next t
         ∧ t.docking = some { d with cutoff := k } ∧ t.time = { s.time with m := 0, warned := true }
         ∧ t.dep = { s.dep with
             state := some .closed, lamp := true, window := none, allowance := none, named := [], doneOwed := t.dep.doneOwed,
             ready := false, autoWas := false }
         ∧ t.store = { s.store with holds := [] }
         ∧ (t.dep.doneOwed = true ∨ ∃ f ∈ t.link.queue, f.body = .done { bay := s.straps.bay })
         ∧ hasFlag t.notes.summary .closed = true ∧ (s.store.holds ≠ [] → hasFlag t.notes.summary .voided = true)
         ∧ t.port = replyPort h (.ok .setCutoff (.setCutoff 0)) s t
         ∧ t = { s with
             docking := t.docking, time := t.time, notes := t.notes, urgency := t.urgency, dep := t.dep,
             store := t.store, link := t.link, dir := t.dir, port := t.port })
  ∧ (∀ (h : ReqHead) (k : Nat) (s : State) (d : Docking),
       Taken h s → s.docking = some d → k ≤ 1439 → rawMinutes s.time.minute k ≤ margin s.time → 0 < s.time.m →
       s.dep.state = some .openBay → s.straps.autoClose = true → s.run.mode = none → s.link.queue.length < 15 →
       ∃ t, exec (.setCutoff h k) s = .next t
         ∧ t.docking = some { d with cutoff := k } ∧ t.time = { s.time with m := 0, warned := true }
         ∧ t.dep = calledDep s
         ∧ (∃ f ∈ t.link.queue, f.body = .call { bay := s.straps.bay, number := (s.dep.callNumber + 1) % 256 })
         ∧ t.notes = (if s.time.warned = true then s.notes else (raise .cutoffNear 0 k s).notes)
         ∧ t.port = replyPort h (.ok .setCutoff (.setCutoff 0)) s t
         ∧ t = { s with
             docking := t.docking, time := t.time, notes := t.notes, urgency := t.urgency, dep := t.dep,
             link := t.link, dir := t.dir, port := t.port })
  ∧ (∀ (h : ReqHead) (k : Nat) (s : State) (d : Docking),
       Taken h s → s.docking = some d → k ≤ 1439 → rawMinutes s.time.minute k ≤ margin s.time → 0 < s.time.m →
       s.dep.state = some .openBay → s.straps.autoClose = true → s.run.mode ≠ none →
       ∃ t, exec (.setCutoff h k) s = .next t
         ∧ t.time = { s.time with m := 0, warned := true }
         ∧ t.dep = { s.dep with startPending :=
             if StartCause.autocloseCutoff ∈ s.dep.startPending then s.dep.startPending
             else s.dep.startPending ++ [.autocloseCutoff] }
         ∧ t.notes = (if s.time.warned = true then s.notes else (raise .cutoffNear 0 k s).notes))
  ∧ (∀ (h : ReqHead) (x : Nat) (s : State) (d : Docking),
       Taken h s → s.docking = some d → x ≤ 52 → NoAutoclose s →
       ∃ t, exec (.setExpected h x) s = .next t
         ∧ t.docking = some { d with expected := min d.capacity x }
         ∧ t.urgency = urgencyFor s.time.m (min d.capacity x) (outboundCount s.deck) d.handling
         ∧ BeaconIf (significant t.urgency s.dir.last.urgency) s t
         ∧ Settled s t ∧ t.dep = { s.dep with ready := t.dep.ready, autoWas := t.dep.autoWas }
         ∧ t.port = replyPort h (.ok .setExpected (.setExpected (min d.capacity x) t.urgency)) s t
         ∧ t = { s with
             docking := t.docking, urgency := t.urgency, link := t.link, dir := t.dir, dep := t.dep,
             notes := t.notes, port := t.port })

/-- SET CLOCK (R51), with the cutoff-reached event that it can bring (R56, R152), and SET NOTICES (R162). That
CUTOFF_NEAR stands ahead of CUTOFF_REACHED is Log 26; the pending causes are kept in the order in which they joined
(Log 47). -/
def Obligations.SetClockAndSetNotices : Prop :=
  (∀ (h : ReqHead) (k : Nat) (s : State),
     Taken h s → k ≤ 1439 → s.docking = none →
     exec (.setClock h (some k)) s = .next { s with
       time := { s.time with minute := k, seconds := 0, clockSet := true },
       port := replyPort h (.ok .setClock (.setClock k s.time.m s.time.source)) s s })
  ∧ (∀ (h : ReqHead) (k : Nat) (s : State) (d : Docking) (m : Nat),
       Taken h s → k ≤ 1439 → s.docking = some d → m = rawMinutes k d.cutoff - margin s.time →
       (m ≠ 0 ∨ s.time.m = 0) →
       ∃ t, exec (.setClock h (some k)) s = .next t
         ∧ t.time = { s.time with
             minute := k, seconds := 0, clockSet := true, m := m, warned := s.time.warned || decide (m ≤ 15) }
         ∧ t.urgency = urgencyFor m d.expected (outboundCount s.deck) d.handling
         ∧ BeaconIf (significant t.urgency s.dir.last.urgency) s t
         ∧ t.notes = (if m ≤ 15 ∧ s.time.warned = false then
             (raise .cutoffNear m d.cutoff { s with time := { s.time with minute := k, seconds := 0 } }).notes else s.notes)
         ∧ t.port = replyPort h (.ok .setClock (.setClock k m s.time.source)) s t
         ∧ t = { s with
             time := t.time, notes := t.notes, urgency := t.urgency, link := t.link, dir := t.dir, port := t.port })
  ∧ (∀ (h : ReqHead) (k : Nat) (s : State) (d : Docking),
       Taken h s → k ≤ 1439 → s.docking = some d → rawMinutes k d.cutoff ≤ margin s.time → 0 < s.time.m →
       s.dep.state ≠ some .waiting → (s.straps.autoClose = false ∨ s.dep.state ≠ some .openBay) →
       ∃ t, exec (.setClock h (some k)) s = .next t
         ∧ t.time = { s.time with minute := k, seconds := 0, clockSet := true, m := 0, warned := true }
         ∧ t.urgency = urgencyFor 0 d.expected (outboundCount s.deck) d.handling
         ∧ t.notes = (
             let z := { s with time := { s.time with minute := k, seconds := 0 } }
             let a := if s.time.warned = true then z else raise .cutoffNear 0 d.cutoff z
             if s.dep.state = some .openBay then (raise .cutoffReached d.cutoff k a).notes else a.notes)
         ∧ BeaconIf (significant t.urgency s.dir.last.urgency) s t
         ∧ t.port = replyPort h (.ok .setClock (.setClock k 0 s.time.source)) s t
         ∧ t = { s with
             time := t.time, notes := t.notes, urgency := t.urgency, link := t.link, dir := t.dir, port := t.port })
  ∧ (∀ (h : ReqHead) (k : Nat) (s : State) (d : Docking),
       Taken h s → k ≤ 1439 → s.docking = some d → rawMinutes k d.cutoff ≤ margin s.time → 0 < s.time.m →
       s.dep.state = some .waiting →
       ∃ t, exec (.setClock h (some k)) s = .next t
         ∧ t.time = { s.time with minute := k, seconds := 0, clockSet := true, m := 0, warned := true }
         ∧ t.dep = { s.dep with
             state := some .closed, lamp := true, window := none, allowance := none, named := [], doneOwed := t.dep.doneOwed,
             ready := false, autoWas := false }
         ∧ t.store = { s.store with holds := [] }
         ∧ (t.dep.doneOwed = true ∨ ∃ f ∈ t.link.queue, f.body = .done { bay := s.straps.bay })
         ∧ hasFlag t.notes.summary .closed = true ∧ (s.store.holds ≠ [] → hasFlag t.notes.summary .voided = true)
         ∧ t.port = replyPort h (.ok .setClock (.setClock k 0 s.time.source)) s t
         ∧ t = { s with
             time := t.time, notes := t.notes, urgency := t.urgency, dep := t.dep, store := t.store, link := t.link,
             dir := t.dir, port := t.port })
  ∧ (∀ (h : ReqHead) (k : Nat) (s : State) (d : Docking),
       Taken h s → k ≤ 1439 → s.docking = some d → rawMinutes k d.cutoff ≤ margin s.time → 0 < s.time.m →
       s.dep.state = some .openBay → s.straps.autoClose = true → s.run.mode = none → s.link.queue.length < 15 →
       ∃ t, exec (.setClock h (some k)) s = .next t
         ∧ t.time = { s.time with minute := k, seconds := 0, clockSet := true, m := 0, warned := true }
         ∧ t.dep = calledDep s
         ∧ (∃ f ∈ t.link.queue, f.body = .call { bay := s.straps.bay, number := (s.dep.callNumber + 1) % 256 })
         ∧ t.notes = (
             let z := { s with time := { s.time with minute := k, seconds := 0 } }
             if s.time.warned = true then s.notes else (raise .cutoffNear 0 d.cutoff z).notes)
         ∧ t.port = replyPort h (.ok .setClock (.setClock k 0 s.time.source)) s t
         ∧ t = { s with
             time := t.time, notes := t.notes, urgency := t.urgency, dep := t.dep, link := t.link, dir := t.dir,
             port := t.port })
  ∧ (∀ (h : ReqHead) (k : Nat) (s : State) (d : Docking),
       Taken h s → k ≤ 1439 → s.docking = some d → rawMinutes k d.cutoff ≤ margin s.time → 0 < s.time.m →
       s.dep.state = some .openBay → s.straps.autoClose = true → s.run.mode ≠ none →
       ∃ t, exec (.setClock h (some k)) s = .next t
         ∧ t.time = { s.time with minute := k, seconds := 0, clockSet := true, m := 0, warned := true }
         ∧ t.dep = { s.dep with startPending :=
             if StartCause.autocloseCutoff ∈ s.dep.startPending then s.dep.startPending
             else s.dep.startPending ++ [.autocloseCutoff] }
         ∧ t.notes = (
             let z := { s with time := { s.time with minute := k, seconds := 0 } }
             if s.time.warned = true then s.notes else (raise .cutoffNear 0 d.cutoff z).notes)
         ∧ BeaconIf (significant t.urgency s.dir.last.urgency) s t
         ∧ t.port = replyPort h (.ok .setClock (.setClock k 0 s.time.source)) s t
         ∧ t = { s with
             time := t.time, notes := t.notes, urgency := t.urgency, dep := t.dep, link := t.link, dir := t.dir,
             port := t.port })
  ∧ (∀ (h : ReqHead) (mask : FlagWord) (mode : DeclineMode) (s : State),
       Taken h s → mask &&& ~~~allKinds = 0 →
       exec (.setNotices h mask (some mode)) s = .next { s with
         notes := { s.notes with mask := mask ||| BitVec.ofNat 32 16777216, mode := mode },
         port := replyPort h (.ok .setNotices (.setNotices (mask ||| BitVec.ofNat 32 16777216) mode)) s s })

/-- The reads that change nothing (R37, R95, R116, R136, R156), and the advice of R36. Which entries are the waiting
ones is worked out from the table and the groups (Log 33), which targets READ TRANSFER lists is Log 50, that it gives
the waiting entries by their labels Log 58, the order of the open groups Log 59, the order of the start causes is Log
47, and that the advised pallet is its whole entry is Log 41. -/
def Obligations.ReadsThatChangeNothing : Prop :=
  (∀ (h : ReqHead) (s : State),
     Taken h s →
     exec (.readStatus h) s = .next { s with
         port := replyPort h (.ok .readStatus (.status {
           bay := if s.docking.isSome then .docked else .vacant
           docking := s.docking
           free := freeSpaces s
           beaconedFree := if s.dep.halt then 0 else freeSpaces s
           depth := s.deck.entries.length
           outbound := outboundCount s.deck
           outboundMass := outboundMass s.deck
           rearRank := rearRank s.deck
           deckFault := s.deck.fault
           run := s.run
           source := s.time.source
           goodRun := s.time.goodRun
           clockSet := s.time.clockSet
           minute := s.time.minute
           seconds := s.time.seconds
           fallback := s.time.fallback
           margin := if s.time.source = .reference then 0 else min 15 (1 + s.time.fallback / 10)
           m := s.time.m
           urgency := s.urgency
           lastUrgency := s.dir.last.urgency
           departure := s.dep.state
           callNumber := s.dep.callNumber
           windowLeft := s.dep.window.map (fun n => 6 - n)
           namedCount := s.dep.named.length
           allowance := s.dep.allowance
           waitLimit := s.dep.allowance.map (fun a => min s.time.m a)
           startPending := s.dep.startPending
           doneOwed := s.dep.doneOwed
           lamp := s.dep.lamp
           ready := s.dep.ready
           halt := s.dep.halt
           line := s.link.line
           queued := s.link.queue.length
           failures := s.link.failures
           half := s.link.half
           duplicate := s.link.duplicate
           badStrap := s.link.badStrap
           notices := s.notes.queue.length
           overrun := s.notes.queue.any (fun r => r.kind == .overrun)
           mask := s.notes.mask
           mode := s.notes.mode
           straps := s.straps })) s s }
       ∧ exec (.readHolds h) s = .next { s with
           port := replyPort h (.ok .readHolds (.holds s.store.holds s.store.owing s.dep.halt {
             outbound := outboundCount s.deck
             lane := s.lane.length
             holds := s.store.holds.length
             free := freeSpaces s
             beaconedFree := if s.dep.halt then 0 else freeSpaces s
             outboundMass := outboundMass s.deck
             laneMass := (s.lane.map (fun e => e.mass)).sum
             heldMass := (s.store.holds.map (fun x => x.mass)).sum
             capacity := s.docking.map (fun d => d.capacity)
             payload := s.docking.map (fun d => d.payload)
             spare := s.docking.map (fun d => d.payload - usedMass s) })) s s }
       ∧ exec (.readTransfer h) s = .next { s with
           port := replyPort h (.ok .readTransfer (.transfer s.table s.asm.openGroups
             ((waitingEntries s).map (·.label)) s.asm.sendList s.asm.targets)) s s }
       ∧ exec (.readDirectory h) s = .next { s with
           port := replyPort h (.ok .readDirectory (.directory
             (s.dir.entries.map (fun e => { entry := e, pledged := pledged s e.bay })) s.dir.interval s.dir.timer.isSome
             s.dir.last)) s s })
  ∧ (∀ (h : ReqHead) (s : State) (older newer : List LaneEntry) (e : LaneEntry),
       Taken h s → s.lane = older ++ e :: newer → (∀ x ∈ older, x.rank < e.rank) → (∀ x ∈ newer, x.rank ≤ e.rank) →
       exec (.readLane h) s = .next { s with port := replyPort h (.ok .readLane (.lane s.lane (some e))) s s })
  ∧ (∀ (h : ReqHead) (s : State),
       Taken h s → s.lane = [] →
       exec (.readLane h) s = .next { s with port := replyPort h (.ok .readLane (.lane [] none)) s s })

/-- The reads that clear (R15, R77, R157, R160, R161). -/
def Obligations.ReadsThatClear : Prop :=
  (∀ (h : ReqHead) (s : State),
     Taken h s → s.notes.queue = [] →
     exec (.readNotice h) s = .next { s with port := replyPort h (.ok .readNotice (.notice none)) s s })
  ∧ (∀ (h : ReqHead) (s : State) (r : Notice) (rs : List Notice),
       Taken h s → s.notes.queue = r :: rs →
       ∃ t, exec (.readNotice h) s = .next t ∧ t.notes = { s.notes with queue := rs }
         ∧ t.port = replyPort h (.ok .readNotice (.notice (some r))) s t ∧ t = { s with notes := t.notes, port := t.port })
  ∧ (∀ (h : ReqHead) (s : State),
       Taken h s →
       exec (.readSummary h) s = .next { s with
           notes := { s.notes with summary := 0 },
           port := replyPort h (.ok .readSummary (.summary s.notes.summary)) s s }
         ∧ exec (.readCounters h) s = .next { s with
             link := { s.link with errors := 0, half := false, fails := 0, held := decide (s.link.line = .joined) },
             port := replyPort h (.ok .readCounters (.counters
               { errors := s.link.errors, half := s.link.half, fails := s.link.fails, held := s.link.held,
                 line := s.link.line, queued := s.link.queue.length,
                 queuedLow := (s.link.queue.filter (fun f => decide (2 ≤ f.body.kind.cls))).length,
                 failures := s.link.failures })) s s })
  ∧ (∀ (h : ReqHead) (position : Nat) (s : State),
       Taken h s → position ≤ 52 →
       exec (.readDeck h position) s = .next { s with
         deck := { s.deck with fault := none },
         port := replyPort h (.ok .readDeck (.deck s.deck.entries.length (s.docking.map (·.capacity))
           (if position = 0 then some s.deck.entries.length else none)
           (if position = 0 then s.deck.entries.getLast? else s.deck.entries[position - 1]?) s.deck.fault)) s s })

/-- CLEAR BAY (R165), with what each block's rule states for it. That the reply carries U (R58), which is 0, is Log
21; that the shutter level found is the last counted one is Log 61; that the quiet timer has just started is the
model's own form (Log 49). -/
def Obligations.ClearBayRestartsTheBay : Prop :=
  ∀ (h : ReqHead) (s : State),
    Taken h s →
    exec (.clearBay h) s = .next {
      pins := s.pins
      straps := s.straps
      port := { inProgress := true, busy := s.port.busy,
                reply := some { seq := h.seq, notices := 0, answer := .ok .clearBay (.clearBay
                  (if 1 ≤ s.straps.bay ∧ s.straps.bay ≤ 60 then .listening else .detached) 0) } }
      notes := { queue := [], summary := 0, mask := allKinds, mode := .first, marks := [] }
      docking := none
      deck := { entries := [], fault := none }
      lane := []
      run := { mode := none, remaining := some 0, tipped := 0,
               lastReason := if s.run.mode = none then s.run.lastReason else .abort }
      time := { s.time with m := 0, warned := false }
      urgency := 0
      link := { line := if 1 ≤ s.straps.bay ∧ s.straps.bay ≤ 60 then .listening else .detached
                quiet := none, valid := 0, queue := [], failures := 0, errors := 0, half := false, fails := 0,
                held := false, rejoin := none, duplicate := false, badStrap := s.link.badStrap,
                beaconWaiting := false, objection := false }
      dir := { entries := [], changes := 0, interval := 4, timer := none,
               last := { bayState := .vacant, departure := none, drops := [], free := 0, urgency := 0 } }
      table := []
      asm := { openGroups := [], sendList := [], targets := [] }
      store := { holds := [], owing := [], kept := [] }
      dep := { state := none, callNumber := 0, window := none, named := [], allowance := none, startPending := [],
               doneOwed := false, lamp := false, halt := false, ready := false, autoWas := false, retry := false }
      pending := s.pending }

/-- RESTART LINK (R82, R166) where the strap is valid and no call is lost, where the call is lost (R151) with its
beaconed change (R85, R138), and where the strap is not valid. What the emptied queue may hold afterwards is
FlushedQueue: OFFERs of groups that waited unbuilt are built into it at once (R81, R106). That groups which waiting
entries open between the closings are closed too is Log 12, that a resend with no member left is discarded Log 51,
what such entries may fill meanwhile Log 52, that a beacon which waits for the end of the attempt is lost with the
queue Log 54, that only OUTBOUND entries carry the mark Log 38, that CALL_ABANDONED stands ahead of READY Log 18, that
AUTOCLOSE READY does not count as becoming true at the lost call Log 53; the quiet timer has just started (Log 49). -/
def Obligations.RestartLinkListensAgain : Prop :=
  (∀ (h : ReqHead) (s : State),
     Taken h s → strapValid s.straps = true → (s.link.line ≠ .joined ∨ s.dep.state ≠ some .calling ∨ s.time.m = 0) →
     ∃ t, exec (.restartLink h) s = .next t
       ∧ t.link = { s.link with
           line := .listening, quiet := none, valid := 0, failures := 0, rejoin := none, duplicate := false,
           queue := t.link.queue, beaconWaiting := false,
           held := if s.link.line = .joined then false else s.link.held }
       ∧ t.asm.openGroups = [] ∧ FlushedQueue false s t ∧ OwedAgain s t ∧ PendingAgain s t
       ∧ t.dir = (if s.link.line = .joined then { s.dir with timer := none } else s.dir)
       ∧ t.dep = { s.dep with doneOwed := t.dep.doneOwed } ∧ t.notes = s.notes
       ∧ t.port = replyPort h (.ok .restartLink (.restartLink .listening s.link.queue.length)) s t
       ∧ t = { s with
           link := t.link, dir := t.dir, asm := t.asm, lane := t.lane, deck := t.deck, dep := t.dep,
           notes := t.notes, port := t.port })
  ∧ (∀ (h : ReqHead) (s : State),
       Taken h s → strapValid s.straps = true → s.link.line = .joined → s.dep.state = some .calling → 0 < s.time.m →
       ∃ t, exec (.restartLink h) s = .next t
         ∧ t.link = { s.link with
             line := .listening, quiet := none, valid := 0, failures := 0, rejoin := none, duplicate := false,
             queue := t.link.queue, beaconWaiting := false,
             held := if s.link.line = .joined then false else s.link.held }
         ∧ t.asm.openGroups = [] ∧ FlushedQueue true s t ∧ OwedAgain s t ∧ PendingAgain s t
         ∧ t.dir = { s.dir with interval := 4, timer := none, last := contentNow t }
         ∧ (∃ f ∈ t.link.queue, f.body = .beacon (buildBeacon t))
         ∧ t.dep = { s.dep with
             state := some .openBay, window := none, allowance := none, named := [], doneOwed := t.dep.doneOwed,
             ready := readyNow t, autoWas := autocloseNow t }
         ∧ t.notes = (
             let a := raise .callAbandoned 2 s.dep.callNumber s
             if readyNow t && !s.dep.ready then (raise .ready (outboundCount s.deck) (expectedLoad s) a).notes else a.notes)
         ∧ t.port = replyPort h (.ok .restartLink (.restartLink .listening s.link.queue.length)) s t
         ∧ t = { s with
             link := t.link, dir := t.dir, asm := t.asm, lane := t.lane, deck := t.deck, dep := t.dep,
             notes := t.notes, port := t.port })
  ∧ (∀ (h : ReqHead) (s : State),
       Taken h s → strapValid s.straps = false →
       ∃ t, exec (.restartLink h) s = .next t
         ∧ t.link.line = .detached ∧ t.link.duplicate = false ∧ t.link.rejoin = none
         ∧ t.asm.openGroups = [] ∧ FlushedQueue (decide (s.link.line = .joined ∧ s.dep.state = some .calling ∧ 0 < s.time.m)) s t ∧ OwedAgain s t ∧ PendingAgain s t
         ∧ (s.link.line ≠ .joined ∨ s.dep.state ≠ some .calling ∨ s.time.m = 0 →
             t.dir = (if s.link.line = .joined then { s.dir with timer := none } else s.dir)
             ∧ t.dep = { s.dep with doneOwed := t.dep.doneOwed } ∧ t.notes = s.notes)
         ∧ t.port = replyPort h (.ok .restartLink (.restartLink .detached s.link.queue.length)) s t
         ∧ t = { s with
             link := t.link, dir := t.dir, asm := t.asm, lane := t.lane, deck := t.deck, dep := t.dep,
             notes := t.notes, port := t.port })

/-- A BEACON taken (R88) with the change count and the stamps of R87, and what its event brings to the transfer
entries (R91, R92, R115) and to the owing list (R135). A beacon whose state code names none is left out of account
(Log 15); the change count is taken below its last value where declined sets would lose their stamps (R87). -/
def Obligations.BeaconWritesTheDirectory : Prop :=
  (∀ (key : Nat) (m : BeaconMsg) (s : State) (b : BayState) (d : Option DepState),
     Hears key (.beacon m) s → beaconStates m = some (b, d) → beaconSound m b d = true →
     s.dir.entries.Pairwise (fun x y => x.bay < y.bay) → dirEntry s m.bay = none →
     ∃ t, exec (.beacon key m) s = .next t
       ∧ t.dir.changes = (if s.dir.changes < 4294967295 then s.dir.changes + 1 else 0)
       ∧ dirEntry t m.bay = some ⟨m.bay, b, d, m.drops, m.minutes, 0, m.urgency, m.free, m.interval, t.dir.changes, none⟩
       ∧ t.dir.entries.filter (fun x => x.bay != m.bay) = s.dir.entries
       ∧ (b = .docked → s.dir.changes < 4294967295 → (s.table.map (·.label)).Nodup →
           ∀ x ∈ s.table, if x.state = .parked then Selected x t else x ∈ t.table)
       ∧ (b = .docked → t = { s with dir := t.dir, table := t.table, asm := t.asm, notes := t.notes, link := { (heardLink s) with queue := t.link.queue } }))
  ∧ (∀ (key : Nat) (m : BeaconMsg) (s : State) (b : BayState) (d : Option DepState) (e : DirEntry),
       Hears key (.beacon m) s → beaconStates m = some (b, d) → beaconSound m b d = true →
       s.dir.entries.Pairwise (fun x y => x.bay < y.bay) → dirEntry s m.bay = some e →
       ∃ t, exec (.beacon key m) s = .next t
         ∧ (if e.bayState ≠ b ∨ e.departure ≠ d ∨ e.drops ≠ m.drops ∨ e.free ≠ m.free ∨ significant e.urgency m.urgency = true
             then t.dir.changes = (if s.dir.changes < 4294967295 then s.dir.changes + 1 else 0)
               ∧ dirEntry t m.bay =
                 some ⟨m.bay, b, d, m.drops, m.minutes, 0, m.urgency, m.free, m.interval, t.dir.changes, e.unreachable⟩
             else t.dir.changes = s.dir.changes
               ∧ dirEntry t m.bay =
                 some ⟨m.bay, b, d, m.drops, m.minutes, 0, m.urgency, m.free, m.interval, e.stamp, e.unreachable⟩)
         ∧ t.dir.entries.filter (fun x => x.bay != m.bay) = s.dir.entries.filter (fun x => x.bay != m.bay)
         ∧ (b = .docked → s.dir.changes < 4294967295 → (s.table.map (·.label)).Nodup →
             if e.bayState ≠ b ∨ e.departure ≠ d ∨ e.drops ≠ m.drops ∨ e.free ≠ m.free ∨ significant e.urgency m.urgency = true
             then ∀ x ∈ s.table,
               if x.state = .parked
                 ∨ (queuedTo m.bay x = true ∧ (e.drops ≠ m.drops ∨ d ≠ some .openBay ∨ m.free = 0))
               then Selected x t else x ∈ t.table
             else t.table = s.table ∧ t.asm = s.asm ∧ t.notes = s.notes ∧ t.link = heardLink s)
         ∧ (b = .docked → t = { s with dir := t.dir, table := t.table, asm := t.asm, notes := t.notes, link := { (heardLink s) with queue := t.link.queue } }))
  ∧ (∀ (key : Nat) (m : BeaconMsg) (s : State),
       Hears key (.beacon m) s → beaconStates m = some (.vacant, none) → beaconSound m .vacant none = true →
       s.dir.entries.Pairwise (fun x y => x.bay < y.bay) → (s.table.map (·.label)).Nodup →
       s.dir.changes < 4294967295 →
       ∃ t, exec (.beacon key m) s = .next t
         ∧ (∀ x ∈ s.table,
             if acceptedTo m.bay x = true then { x with state := .parked } ∈ t.table
             else if x.state.target = some m.bay then Selected x t
             else if x.state = .parked then x ∈ t.table ∨ Selected x t
             else x ∈ t.table)
         ∧ (∀ y ∈ t.table, y.state.target ≠ some m.bay)
         ∧ ((∃ x ∈ s.table, acceptedTo m.bay x = true) → hasFlag t.notes.summary .missed = true)
         ∧ t.store = { s.store with
             owing := s.store.owing.filter (fun b => b != m.bay), kept := s.store.kept.filter (fun k => k.bay != m.bay) }
         ∧ t.dep.ready = readyNow t
         ∧ t = { s with
             dir := t.dir, table := t.table, asm := t.asm, notes := t.notes, store := t.store, dep := t.dep,
             link := { (heardLink s) with queue := t.link.queue, beaconWaiting := t.link.beaconWaiting } })
  ∧ (∀ (key : Nat) (m : BeaconMsg) (s : State),
       Hears key (.beacon m) s → m.bayCode ≠ 1 → (∀ x ∈ beaconStates m, beaconSound m x.1 x.2 = false) →
       exec (.beacon key m) s = .next { s with link := heardLink s })

/-- Offer evaluation (R122 to R125), for every OFFER in what it answers and for one item in full, with the owing list
of R119. -/
def Obligations.OfferIsJudgedAndAnswered : Prop :=
  (∀ (key : Nat) (m : OfferMsg) (s : State),
     Hears key (.offer m) s → m.target = s.straps.bay → hasRoom 1 s.link.queue = true → offerSound m = true →
     ∃ t, exec (.offer key m) s = .next t
       ∧ (m.items ≠ [] → ∃ f ∈ t.link.queue, ∃ a ∈ (match f.body with | .answer x => some x | _ => none),
           a.target = s.straps.bay ∧ a.origin = m.origin ∧ a.group = m.group
             ∧ a.items.map (·.label) = m.items.map (·.label))
       ∧ t.store.holds.take s.store.holds.length = s.store.holds
       ∧ (∀ x ∈ t.store.holds.drop s.store.holds.length, x.origin = m.origin ∧ ∃ i ∈ m.items, i.label = x.label)
       ∧ t = { s with
           store := t.store, dep := t.dep, dir := t.dir, notes := t.notes,
           link := { (heardLink s) with queue := t.link.queue, beaconWaiting := t.link.beaconWaiting } })
  ∧ (∀ (key : Nat) (origin group size : Nat) (i : OfferItem) (s : State) (d : Docking) (rank : Nat),
       Hears key (.offer ⟨origin, s.straps.bay, group, size, [i]⟩) s → hasRoom 1 s.link.queue = true →
       offerSound ⟨origin, s.straps.bay, group, size, [i]⟩ = true → s.docking = some d →
       s.dep.state = some .openBay → s.dep.halt = false → rankOf d.drops i.depot = some rank →
       labelKnown s i.label = false → compareRank s.deck rank ≠ .behind →
       60 * transit origin s.straps.bay + d.handling ≤ 60 * s.time.m → s.store.holds.length < d.capacity →
       usedSpaces s < d.capacity → usedMass s + min i.mass 120 ≤ d.payload →
       (∀ n ∈ keptFor s origin, olderGroup (some n) group = false) →
       ∃ t, exec (.offer key ⟨origin, s.straps.bay, group, size, [i]⟩) s = .next t
         ∧ t.store.holds = s.store.holds ++ [⟨i.label, some i.depot, some rank, min i.mass 120, origin, s.time.minute⟩]
         ∧ framed (.answer ⟨s.straps.bay, origin, group, [⟨i.label, 1⟩]⟩) s ∈ t.link.queue
         ∧ (if size = 1 then origin ∈ t.store.owing else t.store.owing = s.store.owing.filter (fun b => b != origin))
         ∧ keptFor t origin = some group
         ∧ t.dep.ready = false ∧ t.dep.state = some .openBay)
  ∧ (∀ (key : Nat) (origin group size : Nat) (i : OfferItem) (s : State) (d : Docking) (rank : Nat),
       Hears key (.offer ⟨origin, s.straps.bay, group, size, [i]⟩) s → hasRoom 1 s.link.queue = true →
       offerSound ⟨origin, s.straps.bay, group, size, [i]⟩ = true → s.docking = some d →
       s.dep.state = some .openBay → s.dep.halt = false → rankOf d.drops i.depot = some rank →
       labelKnown s i.label = false → compareRank s.deck rank ≠ .behind →
       60 * transit origin s.straps.bay + d.handling ≤ 60 * s.time.m → s.store.holds.length < d.capacity →
       usedSpaces s < d.capacity → usedMass s + min i.mass 120 ≤ d.payload →
       (∃ n ∈ keptFor s origin, olderGroup (some n) group = true) →
       ∃ t, exec (.offer key ⟨origin, s.straps.bay, group, size, [i]⟩) s = .next t
         ∧ t.store = { s.store with holds :=
             s.store.holds ++ [⟨i.label, some i.depot, some rank, min i.mass 120, origin, s.time.minute⟩] }
         ∧ framed (.answer ⟨s.straps.bay, origin, group, [⟨i.label, 1⟩]⟩) s ∈ t.link.queue
         ∧ t.dep.ready = false ∧ t.dep.state = some .openBay)
  ∧ (∀ (key : Nat) (origin group size : Nat) (i : OfferItem) (s : State) (d : Docking) (v : Nat),
       Hears key (.offer ⟨origin, s.straps.bay, group, size, [i]⟩) s → hasRoom 1 s.link.queue = true →
       offerSound ⟨origin, s.straps.bay, group, size, [i]⟩ = true → d = s.docking.getD ⟨[], 0, 0, 0, 0, 0⟩ →
       v = (if s.docking = none then 2
           else if s.dep.state ≠ some .openBay then 3
           else if s.dep.halt = true then 4
           else if rankOf d.drops i.depot = none then 5
           else if (∃ x ∈ s.store.holds, x.label = i.label ∧ x.origin = origin) then 1
           else if labelKnown s i.label = true then 6
           else if compareRank s.deck ((rankOf d.drops i.depot).getD 0) = .behind then 7
           else if 60 * s.time.m < 60 * transit origin s.straps.bay + d.handling then 8
           else if d.capacity ≤ s.store.holds.length then 9
           else if d.capacity ≤ usedSpaces s then 10
           else if d.payload < usedMass s + min i.mass 120 then 11
           else 0) →
       v ≠ 0 →
       ∃ t, exec (.offer key ⟨origin, s.straps.bay, group, size, [i]⟩) s = .next t
         ∧ framed (.answer ⟨s.straps.bay, origin, group, [⟨i.label, v⟩]⟩) s ∈ t.link.queue
         ∧ t.store.holds = s.store.holds
         ∧ (if s.docking = none ∨ (∃ n ∈ keptFor s origin, olderGroup (some n) group = true) then t.store = s.store
           else keptFor t origin = some group
             ∧ (if size = 1 then origin ∈ t.store.owing else t.store.owing = s.store.owing.filter (fun b => b != origin)))
         ∧ t = { s with
             store := t.store, dep := t.dep, dir := t.dir, notes := t.notes,
             link := { (heardLink s) with queue := t.link.queue, beaconWaiting := t.link.beaconWaiting } })
  ∧ (∀ (key : Nat) (m : OfferMsg) (s : State),
       Hears key (.offer m) s → (m.target ≠ s.straps.bay ∨ hasRoom 1 s.link.queue = false ∨ offerSound m = false) →
       exec (.offer key m) s = .next { s with link := heardLink s })

/-- The items of an ANSWER (R107): a current ACCEPT, a current decline (R108) and a late ACCEPT (R109). -/
def Obligations.AnswerSettlesTheEntriesOffered : Prop :=
  (∀ (key : Nat) (target group label : Nat) (s : State) (e : TransferEntry),
     Hears key (.answer ⟨target, s.straps.bay, group, [⟨label, 1⟩]⟩) s → label ≠ 0 → entryOf s label = some e →
     offeredTo target e = true →
     ∃ t, exec (.answer key ⟨target, s.straps.bay, group, [⟨label, 1⟩]⟩) s = .next t
       ∧ t.table = s.table.map (fun x => if x.label = label then
           { x with state := .accepted target (some (transit s.straps.bay target + 5)) } else x)
       ∧ t.notes = { (raise .deliver label target s).notes with marks := s.notes.marks.filter (fun b => b != target) }
       ∧ grouped t.asm label = false
       ∧ t = { s with
           table := t.table, notes := t.notes, asm := t.asm, link := { (heardLink s) with queue := t.link.queue } })
  ∧ (∀ (key : Nat) (target group label : Nat) (v : Nat) (s : State) (e : TransferEntry),
       Hears key (.answer ⟨target, s.straps.bay, group, [⟨label, v⟩]⟩) s → 2 ≤ v → v ≤ 11 → label ≠ 0 →
       entryOf s label = some e → offeredTo target e = true →
       ∃ t, exec (.answer key ⟨target, s.straps.bay, group, [⟨label, v⟩]⟩) s = .next t
         ∧ (∃ x ∈ entryOf t label, x.declined.getLast? = some ⟨target, (dirEntry s target).map (·.stamp)⟩
             ∧ x.declined.length ≤ 4 ∧ (x.state = .parked ∨ ∃ b ∈ s.dir.entries, x.state = .queued b.bay))
         ∧ target ∈ t.notes.marks
         ∧ ((s.notes.mode = .all ∨ (s.notes.mode = .first ∧ target ∉ s.notes.marks)) →
             hasFlag t.notes.summary .declined = true)
         ∧ t = { s with
             table := t.table, notes := t.notes, asm := t.asm,
             link := { (heardLink s) with queue := t.link.queue } })
  ∧ (∀ (key : Nat) (target group label : Nat) (s : State),
       Hears key (.answer ⟨target, s.straps.bay, group, [⟨label, 1⟩]⟩) s → label ≠ 0 →
       (∀ e ∈ entryOf s label, offeredTo target e = false) →
       ∃ t, exec (.answer key ⟨target, s.straps.bay, group, [⟨label, 1⟩]⟩) s = .next t
         ∧ (hasRoom 1 s.link.queue = true →
             framed (.release { origin := s.straps.bay, target := target, label := label }) s ∈ t.link.queue)
         ∧ t = { s with asm := t.asm, link := { (heardLink s) with queue := t.link.queue } })

/-- RELEASE (R129) with what the removal of a hold brings (R121, R141, R148), and RECEIPT (R113). That nothing is
beaconed where the event leaves the beaconed free spaces as they were, though they differ from the last beaconed ones,
is Log 19. -/
def Obligations.ReleaseAndReceiptRetire : Prop :=
  (∀ (key : Nat) (m : ReleaseMsg) (s : State) (hd : Hold),
     Hears key (.release m) s → m.target = s.straps.bay →
     s.store.holds.find? (fun x => x.label == m.label) = some hd → hd.origin = m.origin →
     (s.dep.state ≠ some .waiting ∨ s.store.holds.filter (fun x => x.label != m.label) ≠ []) → NoAutoclose s →
     ∃ t, exec (.release key m) s = .next t
       ∧ t.store = { s.store with holds := s.store.holds.filter (fun x => x.label != m.label) }
       ∧ t.dep.named = (if s.dep.state = some .calling then s.dep.named.filter (fun n => n.label != m.label) else s.dep.named)
       ∧ t.dep = { s.dep with named := t.dep.named, ready := readyNow t, autoWas := autocloseNow t }
       ∧ BeaconIf ((contentNow t).free != (contentNow s).free && (contentNow t).free != s.dir.last.free)
           { s with link := heardLink s } t
       ∧ (Settled s t) ∧ t = { s with store := t.store, dep := t.dep, notes := t.notes, dir := t.dir, link := t.link })
  ∧ (∀ (key : Nat) (m : ReleaseMsg) (s : State) (hd : Hold),
       Hears key (.release m) s → m.target = s.straps.bay →
       s.store.holds.find? (fun x => x.label == m.label) = some hd → hd.origin = m.origin →
       s.dep.state = some .waiting → s.store.holds.filter (fun x => x.label != m.label) = [] →
       ∃ t, exec (.release key m) s = .next t
         ∧ t.store = { s.store with holds := [] }
         ∧ t.dep = { s.dep with
             state := some .closed, lamp := true, window := none, allowance := none, named := [], doneOwed := t.dep.doneOwed,
             ready := false, autoWas := false }
         ∧ (t.dep.doneOwed = true ∨ ∃ f ∈ t.link.queue, f.body = .done { bay := s.straps.bay })
         ∧ t.notes = (raise .closed 2 s.dep.callNumber s).notes
         ∧ t = { s with
             store := t.store, dep := t.dep, notes := t.notes, dir := t.dir,
             link := { (heardLink s) with queue := t.link.queue, beaconWaiting := t.link.beaconWaiting } })
  ∧ (∀ (key : Nat) (m : ReleaseMsg) (s : State) (d : Docking) (hd : Hold),
       Hears key (.release m) s → m.target = s.straps.bay → s.docking = some d → s.store.holds = [hd] →
       hd.label = m.label → hd.origin = m.origin → s.straps.autoClose = true → s.dep.state = some .openBay →
       s.dep.autoWas = false → s.lane = [] → s.store.owing = [] → d.expected ≤ outboundCount s.deck →
       s.run.mode = none → (s.link.line = .joined ∨ s.time.m = 0) → s.link.queue.length < 15 →
       ∃ t, exec (.release key m) s = .next t
         ∧ t.store = { s.store with holds := [] } ∧ t.dep = calledDep s
         ∧ (∃ f ∈ t.link.queue, f.body = .call { bay := s.straps.bay, number := (s.dep.callNumber + 1) % 256 })
         ∧ t.notes = (if s.dep.ready = true then s.notes else (raise .ready (outboundCount s.deck) d.expected s).notes)
         ∧ t = { s with
             store := t.store, dep := t.dep, notes := t.notes, dir := t.dir,
             link := { (heardLink s) with queue := t.link.queue, beaconWaiting := t.link.beaconWaiting } })
  ∧ (∀ (key : Nat) (m : ReleaseMsg) (s : State),
       Hears key (.release m) s →
       (m.target ≠ s.straps.bay ∨ (∃ x ∈ s.store.holds.find? (fun y : Hold => y.label == m.label), x.origin ≠ m.origin)
           ∨ (inHolds s m.label = false ∧ inLane s m.label = false ∧ onDeck s m.label = false)) →
       exec (.release key m) s = .next { s with link := heardLink s })
  ∧ (∀ (key : Nat) (m : ReleaseMsg) (s : State),
       Hears key (.release m) s → m.target = s.straps.bay → inHolds s m.label = false →
       (inLane s m.label = true ∨ onDeck s m.label = true) →
       exec (.release key m) s = .next { s with
         notes := (raise .lateRelease m.label m.origin s).notes, link := heardLink s })
  ∧ (∀ (key : Nat) (m : ReceiptMsg) (s : State),
       Hears key (.receipt m) s → (m.origin = s.straps.bay ∨ m.origin = 0) → inTable s m.label = true →
       ∃ t, exec (.receipt key m) s = .next t
         ∧ t.table = s.table.filter (fun x => x.label != m.label) ∧ grouped t.asm m.label = false
         ∧ t.notes = (raise .delivered m.label m.bay s).notes
         ∧ t = { s with
             table := t.table, asm := t.asm, notes := t.notes,
             link := { (heardLink s) with queue := t.link.queue } })
  ∧ (∀ (key : Nat) (m : ReceiptMsg) (s : State),
       Hears key (.receipt m) s → inTable s m.label = false →
       exec (.receipt key m) s = .next { s with
         notes := if m.origin = s.straps.bay then (raise .strayReceipt m.label m.bay s).notes else s.notes
         link := heardLink s })

/-- CALL (R143) with its two steps, and HOLD in CALLING (R144) and in WAITING (R145, R146, R148): for any HOLD, and in
full for a HOLD of one label. That the labels of one HOLD in WAITING are reconciled step by step is Log 60, that a
HOLD of 0 or of more than 8 labels is acted on is Log 37, that only OUTBOUND deck entries carry a receipt-owed mark
Log 38. That nothing is beaconed where the event leaves the beaconed free spaces as they were, though they differ from
the last beaconed ones, is Log 19. -/
def Obligations.CallAndHoldNameThePallets : Prop :=
  (∀ (key : Nat) (m : CallMsg) (s : State) (ls : List Nat),
     Hears key (.call m) s → (s.table.map (·.label)).Nodup → s.dir.entries.Pairwise (fun x y => x.bay < y.bay) →
     ls = labelsWhere (acceptedTo m.bay) s →
     ∃ t, exec (.call key m) s = .next t
       ∧ (∀ j < ls.length, s.link.queue.length + j / 8 < 16 →
           framed (.hold ⟨s.straps.bay, m.bay, m.number, (ls.drop (8 * (j / 8))).take 8⟩) s ∈ t.link.queue)
       ∧ (16 ≤ s.link.queue.length → t.link.queue = s.link.queue)
       ∧ (ls = [] → ∀ f ∈ t.link.queue, f ∈ s.link.queue ∨ f.body.kind = .offer)
       ∧ (∀ x ∈ s.table, if queuedTo m.bay x = true then Selected x t else x ∈ t.table)
       ∧ (∀ x ∈ s.table, queuedTo m.bay x = true → ∀ y ∈ t.table, y.label = x.label →
           (y.state = .parked → grouped t.asm x.label = false ∧ hasFlag t.notes.summary .parked = true)
           ∧ (∀ g ∈ t.asm.openGroups, x.label ∈ g.members → y.state = .queued g.target)
           ∧ (∀ g ∈ t.asm.sendList, x.label ∈ g.members → y.state = .queued g.target))
       ∧ t = { s with
           table := t.table, asm := t.asm, notes := t.notes, link := { (heardLink s) with queue := t.link.queue } })
  ∧ (∀ (key : Nat) (m : HoldMsg) (s : State),
       Hears key (.hold m) s → m.caller = s.straps.bay → m.number = s.dep.callNumber → s.dep.state = some .calling →
       s.dep.named.length + m.labels.length ≤ 64 →
       ∃ t, exec (.hold key m) s = .next t
         ∧ (∀ l ∈ m.labels, l ≠ 0 → ∃ n ∈ t.dep.named, n.label = l)
         ∧ t.dep.named.take s.dep.named.length = s.dep.named
         ∧ (∀ n ∈ t.dep.named.drop s.dep.named.length, n.bay = m.bay ∧ n.label ∈ m.labels ∧ n.label ≠ 0)
         ∧ t = { s with dep := { s.dep with named := t.dep.named }, link := heardLink s })
  ∧ (∀ (key : Nat) (m : HoldMsg) (s : State),
       Hears key (.hold m) s →
       (m.caller ≠ s.straps.bay ∨ m.number ≠ s.dep.callNumber ∨ (s.dep.state ≠ some .calling ∧ s.dep.state ≠ some
         .waiting)) →
       exec (.hold key m) s = .next { s with link := heardLink s })
  ∧ (∀ (key : Nat) (m : HoldMsg) (s : State),
       Hears key (.hold m) s → m.caller = s.straps.bay → m.number = s.dep.callNumber → s.dep.state = some .waiting →
       ∃ t, exec (.hold key m) s = .next t
         ∧ t.store.holds.take s.store.holds.length = s.store.holds
         ∧ (∀ x ∈ t.store.holds.drop s.store.holds.length,
             x.label ∈ m.labels ∧ x.label ≠ 0 ∧ foundNowhere s x.label = true
             ∧ x = ⟨x.label, none, none, 120, m.bay, s.time.minute⟩)
         ∧ t.lane.map (fun e => { e with owed := false }) = s.lane.map (fun e => { e with owed := false })
         ∧ t.deck.entries.map (fun e => { e with owed := false }) = s.deck.entries.map (fun e => { e with owed := false })
         ∧ t = { s with
             store := { s.store with holds := t.store.holds }, lane := t.lane,
             deck := { s.deck with entries := t.deck.entries }, dir := t.dir,
             link := { heardLink s with queue := t.link.queue, beaconWaiting := t.link.beaconWaiting } })
  ∧ (∀ (key bay label : Nat) (s : State),
       Hears key (.hold ⟨bay, s.straps.bay, s.dep.callNumber, [label]⟩) s → label ≠ 0 →
       s.dep.state = some .waiting →
       (receiptOwed s label = true ∨ (inLane s label = false ∧ onDeck s label = false ∧ (inHolds s label = true ∨
         inTable s label = true))) →
       exec (.hold key ⟨bay, s.straps.bay, s.dep.callNumber, [label]⟩) s = .next { s with link := heardLink s })
  ∧ (∀ (key bay label : Nat) (s : State),
       Hears key (.hold ⟨bay, s.straps.bay, s.dep.callNumber, [label]⟩) s → label ≠ 0 →
       s.dep.state = some .waiting → (inLane s label = true ∨ onDeck s label = true) → receiptOwed s label = false →
       exec (.hold key ⟨bay, s.straps.bay, s.dep.callNumber, [label]⟩) s = .next (if hasRoom 0 s.link.queue = true then
           { s with link := { (heardLink s) with
               queue := insertQueued (framed (.receipt ⟨s.straps.bay, bay, label⟩) s) s.link.queue } }
         else { s with
           link := heardLink s
           lane := s.lane.map (fun e => if e.label = label then { e with owed := true } else e)
           deck := { s.deck with
             entries := s.deck.entries.map (fun e =>
               if e.label = label ∧ e.tag = .outbound then { e with owed := true } else e) } }))
  ∧ (∀ (key bay label : Nat) (s : State) (d : Docking),
       Hears key (.hold ⟨bay, s.straps.bay, s.dep.callNumber, [label]⟩) s → label ≠ 0 →
       s.dep.state = some .waiting → foundNowhere s label = true → s.docking = some d → 0 < s.time.m →
       s.store.holds.length < d.capacity → usedSpaces s < d.capacity → usedMass s + 120 ≤ d.payload →
       ∃ t, exec (.hold key ⟨bay, s.straps.bay, s.dep.callNumber, [label]⟩) s = .next t
         ∧ t.store = { s.store with holds := s.store.holds ++ [⟨label, none, none, 120, bay, s.time.minute⟩] }
         ∧ BeaconIf ((contentNow t).free != (contentNow s).free && (contentNow t).free != s.dir.last.free)
             { s with link := heardLink s } t
         ∧ t = { s with store := t.store, dir := t.dir, link := t.link })
  ∧ (∀ (key bay label : Nat) (s : State) (d : Docking),
       Hears key (.hold ⟨bay, s.straps.bay, s.dep.callNumber, [label]⟩) s → label ≠ 0 →
       s.dep.state = some .waiting → foundNowhere s label = true → s.docking = some d →
       (s.time.m = 0 ∨ d.capacity ≤ s.store.holds.length ∨ d.capacity ≤ usedSpaces s ∨ d.payload < usedMass s +
         120) →
       exec (.hold key ⟨bay, s.straps.bay, s.dep.callNumber, [label]⟩) s = .next { s with link := { (heardLink s) with
         queue := if hasRoom 1 s.link.queue = true then
             insertQueued (framed (.answer ⟨s.straps.bay, bay, s.dep.callNumber, [⟨label, 3⟩]⟩) s) s.link.queue
           else s.link.queue } })

/-- DONE (R115) with target selection (R93, R94, R98), the owing list and the number kept (R119, R135), and READY
(R139). -/
def Obligations.DoneParksWhatWasAccepted : Prop :=
  ∀ (key : Nat) (m : DoneMsg) (s : State),
    Hears key (.done m) s → (s.table.map (·.label)).Nodup →
    ∃ t, exec (.done key m) s = .next t
      ∧ (∀ e ∈ s.table, acceptedTo m.bay e = true → { e with state := .parked } ∈ t.table)
      ∧ (∀ e ∈ s.table, e.state.target ≠ some m.bay → e ∈ t.table)
      ∧ (∀ e ∈ t.table, acceptedTo m.bay e = false ∧ offeredTo m.bay e = false)
      ∧ ((∃ e ∈ s.table, acceptedTo m.bay e = true) → hasFlag t.notes.summary .missed = true)
      ∧ t.store = { s.store with
          owing := s.store.owing.filter (fun b => b != m.bay), kept := s.store.kept.filter (fun k => k.bay != m.bay) }
      ∧ t.dep.ready = readyNow t
      ∧ (s.dir.entries.Pairwise (fun x y => x.bay < y.bay) → ∀ x ∈ s.table,
          if acceptedTo m.bay x = true then { x with state := .parked } ∈ t.table
          else if x.state.target = some m.bay then Selected x t
          else x ∈ t.table)
      ∧ t.table.map (fun e => (e.label, e.depot, e.mass, e.astray, e.declined)) =
          s.table.map (fun e => (e.label, e.depot, e.mass, e.astray, e.declined))
      ∧ (NoAutoclose s → t.dep = { s.dep with ready := readyNow t, autoWas := autocloseNow t } ∧ t.dir = s.dir
          ∧ t.link.beaconWaiting = s.link.beaconWaiting)
      ∧ t = { s with
          table := t.table, asm := t.asm, notes := t.notes, store := t.store, dep := t.dep, dir := t.dir,
          link := { (heardLink s) with queue := t.link.queue, beaconWaiting := t.link.beaconWaiting } }

/-- Bad and objected frames (R72, R76), and a duplicate bay (R75) with the call that is lost (R151). That
CALL_ABANDONED stands ahead of READY is Log 18, that AUTOCLOSE READY does not count as becoming true then Log 53, the
code of the line state Log 20, the mark of the frame on the line Log 32. The objection driven is kept as state of the
model's own (Log 31), and the quiet timer has just started (Log 49). -/
def Obligations.BadAndForeignFramesAreCounted : Prop :=
  (∀ (s : State) (n : Nat),
     s.pins.resetHeld = false → s.link.line ≠ .detached → n = min 65535 (s.link.errors + 1) →
     ∃ t, exec .badFrameHeard s = .next t
       ∧ t.link = { s.link with
           quiet := none, errors := n, half := s.link.half || decide (32768 ≤ n),
           objection := (s.link.line == .listening || s.link.line == .joined) && !(s.link.half || decide (32768 ≤ n)) }
       ∧ t.notes = (if 32768 ≤ n ∧ s.link.half = false then (raise .errorsHalf n s.link.line.code s).notes else s.notes)
       ∧ t = { s with link := t.link, notes := t.notes })
  ∧ (∀ (s : State),
       s.pins.resetHeld = false → s.link.line ≠ .detached →
       exec .objectedFrameDropped s = .next { s with link := { s.link with quiet := none, objection := false } })
  ∧ (∀ (kind : FrameKind) (s : State),
       s.pins.resetHeld = false → s.link.line = .joined → (s.dep.state ≠ some .calling ∨ s.time.m = 0) →
       s.link.beaconWaiting = false →
       ∃ t, exec (.duplicateBay kind) s = .next t
         ∧ t.link = { s.link with
             line := .faulted, quiet := none, objection := false, duplicate := true, held := false, rejoin := none,
             fails := min 255 (s.link.fails + 1), queue := s.link.queue.map (fun f => { f with onLine := false }) }
         ∧ t.notes = (raise .duplicateBay s.straps.bay kind.code s).notes
         ∧ t.dir = { s.dir with timer := none }
         ∧ t = { s with link := t.link, notes := t.notes, dir := t.dir })
  ∧ (∀ (kind : FrameKind) (s : State),
       s.pins.resetHeld = false → s.link.line = .joined → s.dep.state = some .calling → 0 < s.time.m →
       s.link.beaconWaiting = false →
       ∃ t, exec (.duplicateBay kind) s = .next t
         ∧ t.dep = { s.dep with
             state := some .openBay, window := none, allowance := none, named := [], ready := readyNow t,
             autoWas := autocloseNow t }
         ∧ t.notes = (
             let a := raise .callAbandoned 2 s.dep.callNumber (raise .duplicateBay s.straps.bay kind.code s)
             if readyNow t && !s.dep.ready then (raise .ready (outboundCount s.deck) (expectedLoad s) a).notes else a.notes)
         ∧ BeaconSent { s with link := { s.link with
             line := .faulted, quiet := none, objection := false, duplicate := true, held := false, rejoin := none,
             fails := min 255 (s.link.fails + 1),
             queue := s.link.queue.map (fun g => { g with onLine := false }) } } t
         ∧ t = { s with dep := t.dep, link := t.link, notes := t.notes, dir := t.dir })
  ∧ (∀ (kind : FrameKind) (s : State),
       s.pins.resetHeld = false → (s.link.line = .listening ∨ s.link.line = .faulted) →
       ∃ t, exec (.duplicateBay kind) s = .next t
         ∧ t.link = { s.link with
             line := .faulted, quiet := none, objection := false, duplicate := true, rejoin := none,
             fails := if s.link.line = .listening then min 255 (s.link.fails + 1) else s.link.fails }
         ∧ t.notes = (raise .duplicateBay s.straps.bay kind.code s).notes
         ∧ t = { s with link := t.link, notes := t.notes })

/-- An attempt begun (R69), given up to a lower key (R70), and failed (R71, R73, R74), with the call that is lost
(R151), where no beacon waits for its end; that the frame of the attempt is marked is Log 32, that CALL_ABANDONED
stands ahead of READY Log 18, that AUTOCLOSE READY does not count as becoming true at the lost call Log 53. -/
def Obligations.AttemptsContendAndFail : Prop :=
  (∀ (s : State) (f : Queued) (fs : List Queued),
     s.pins.resetHeld = false → s.link.line = .joined → s.link.queue = f :: fs →
     (∀ g ∈ s.link.queue, g.onLine = false) →
     exec .quietGapStart s = .next { s with link := { s.link with queue := { f with onLine := true } :: fs } })
  ∧ (∀ (key : Nat) (s : State) (f : Queued),
       s.pins.resetHeld = false → s.link.line = .joined → s.link.queue.find? (·.onLine) = some f →
       s.link.beaconWaiting = false → key < 65536 → f.key < 65536 →
       exec (.lostContention key) s = .next (if key < f.key then
         { s with link := { s.link with queue := s.link.queue.map (fun g => { g with onLine := false }) } } else s))
  ∧ (∀ (s : State),
       s.pins.resetHeld = false → s.link.line = .joined → (∃ f ∈ s.link.queue, f.onLine = true) →
       s.link.beaconWaiting = false → s.link.failures < 15 →
       exec .transmitFailure s = .next { s with
         link := { s.link with
           failures := s.link.failures + 1, queue := s.link.queue.map (fun g => { g with onLine := false }) } })
  ∧ (∀ (s : State),
       s.pins.resetHeld = false → s.link.line = .joined → (∃ f ∈ s.link.queue, f.onLine = true) →
       s.link.beaconWaiting = false → s.link.failures = 15 → s.link.duplicate = false →
       (s.dep.state ≠ some .calling ∨ s.time.m = 0) →
       ∃ t, exec .transmitFailure s = .next t
         ∧ t.link = { s.link with
             line := .faulted, failures := 16, fails := min 255 (s.link.fails + 1), held := false, rejoin := some 0,
             queue := s.link.queue.map (fun g => { g with onLine := false }) }
         ∧ t.dir = { s.dir with timer := none }
         ∧ t.notes = (raise .linkDown (min 255 (s.link.fails + 1)) s.link.queue.length s).notes
         ∧ t = { s with link := t.link, dir := t.dir, notes := t.notes })
  ∧ (∀ (s : State),
       s.pins.resetHeld = false → s.link.line = .joined → (∃ f ∈ s.link.queue, f.onLine = true) →
       s.link.beaconWaiting = false → s.link.failures = 15 → s.link.duplicate = false →
       s.dep.state = some .calling → 0 < s.time.m →
       ∃ t, exec .transmitFailure s = .next t
         ∧ t.dep = { s.dep with
             state := some .openBay, window := none, allowance := none, named := [], ready := readyNow t,
             autoWas := autocloseNow t }
         ∧ t.notes = (
             let a := raise .callAbandoned 2 s.dep.callNumber (raise .linkDown (min 255 (s.link.fails + 1)) s.link.queue.length s)
             if readyNow t && !s.dep.ready then (raise .ready (outboundCount s.deck) (expectedLoad s) a).notes else a.notes)
         ∧ BeaconSent { s with link := { s.link with
             line := .faulted, failures := 16, fails := min 255 (s.link.fails + 1), held := false, rejoin := some 0,
             queue := s.link.queue.map (fun g => { g with onLine := false }) } } t
         ∧ t = { s with dep := t.dep, link := t.link, notes := t.notes, dir := t.dir })

/-- The end of a transmission (R73) with what it does to an OFFER's group and entries (R105), and the free room
offered (R81). That a completion offers the room itself is Log 36; the mark of the frame on the line is Log 32. -/
def Obligations.CompletionsFreeTheQueue : Prop :=
  (∀ (s : State) (f : Queued),
     s.pins.resetHeld = false → s.link.line = .joined → s.link.queue.find? (·.onLine) = some f →
     f.body.kind ≠ .offer →
     ∃ t, exec .transmitComplete s = .next t
       ∧ t.link.failures = 0 ∧ (∀ g ∈ t.link.queue, g.onLine = false)
       ∧ (∀ g ∈ s.link.queue, g.onLine = false → g.body.kind ≠ .beacon → g ∈ t.link.queue)
       ∧ (NothingToSend s → s.link.beaconWaiting = false →
           t.link.queue = s.link.queue.filter (fun g => !g.onLine))
       ∧ t.asm.sendList.map (·.told) = s.asm.sendList.map (·.told)
       ∧ t.table = s.table
       ∧ t = { s with
           link := { s.link with failures := 0, queue := t.link.queue, beaconWaiting := false },
           asm := { s.asm with sendList := t.asm.sendList }, dir := t.dir, lane := t.lane, deck := t.deck,
           dep := t.dep })
  ∧ (∀ (s : State) (f : Queued) (m : OfferMsg) (g : ClosedGroup),
       s.pins.resetHeld = false → s.link.line = .joined → s.link.queue.find? (·.onLine) = some f →
       f.body = .offer m → s.asm.sendList.find? (fun x => x.target == m.target && x.inQueue) = some g →
       (∀ e ∈ s.table, e.label ∈ g.members → queuedTo m.target e = true ∨ offeredTo m.target e = true) →
       ∃ t, exec .transmitComplete s = .next t
         ∧ t.link.failures = 0 ∧ (∀ x ∈ t.link.queue, x.onLine = false)
         ∧ (∀ x ∈ s.link.queue, x.onLine = false → x.body.kind ≠ .beacon → x ∈ t.link.queue)
         ∧ (NothingToSend s → s.link.beaconWaiting = false →
             t.link.queue = s.link.queue.filter (fun x => !x.onLine))
         ∧ t.asm.sendList.map (·.told) =
             (s.asm.sendList.filter (fun x => !(x.target == m.target && x.inQueue))).map (·.told)
         ∧ t.asm.openGroups = s.asm.openGroups ∧ t.asm.targets = s.asm.targets
         ∧ t.table = s.table.map (fun e => if e.label ∈ g.members then
             { e with
               state := .offered m.target (g.number.getD 0)
                 (match e.state with | .offered _ _ n _ => if g.resend = true then n + 1 else 1 | _ => 1) (.left 2) } else e)
         ∧ t.notes = s.notes ∧ t.store = s.store)
  ∧ (∀ (s : State),
       s.pins.resetHeld = false → s.dep.doneOwed = true → hasRoom 0 s.link.queue = true →
       ∃ t, exec .queueRoomOffered s = .next t
         ∧ t.dep = { s.dep with doneOwed := false } ∧ framed (.done { bay := s.straps.bay }) s ∈ t.link.queue
         ∧ t = { s with
             dep := t.dep, lane := t.lane, deck := t.deck, asm := t.asm,
             link := { s.link with queue := t.link.queue } })
  ∧ (∀ (s : State) (e : LaneEntry),
       s.pins.resetHeld = false → s.dep.doneOwed = false → (s.lane.filter (·.owed)).head? = some e →
       hasRoom 0 s.link.queue = true →
       ∃ t, exec .queueRoomOffered s = .next t
         ∧ framed (.receipt { bay := s.straps.bay, origin := e.origin, label := e.label }) s ∈ t.link.queue
         ∧ (∀ x ∈ t.lane, x.label = e.label → x.owed = false)
         ∧ t.lane.map (fun x => (x.label, x.depot, x.rank, x.mass, x.origin, x.unannounced)) =
             s.lane.map (fun x => (x.label, x.depot, x.rank, x.mass, x.origin, x.unannounced))
         ∧ t = { s with lane := t.lane, deck := t.deck, asm := t.asm, link := { s.link with queue := t.link.queue } })
  ∧ (∀ (s : State),
       s.pins.resetHeld = false → (16 ≤ s.link.queue.length ∨ NothingToSend s) →
       exec .queueRoomOffered s = .next s)

/-- Entering JOINED (R66, R67, R86, R106), by QUIET and by FRAMES, and the rejoin of R68. That the third frame is
handed on before the join is Log 22, the codes of its causes are Log 20. What the quiet timer holds is Log 49; that
its expiry lets no oscillator time pass is Log 3. -/
def Obligations.StationsJoinAndRejoin : Prop :=
  (∀ (s : State),
     s.pins.resetHeld = false → s.link.line = .listening → NumberLaw s →
     ∃ t, exec .quietTimerExpiry s = .next t
       ∧ t.link.line = .joined ∧ t.dir.interval = 4 ∧ t.dir.timer = some 4
       ∧ t.notes = (raise .linkUp 1 s.link.fails s).notes
       ∧ (beaconRoom s = true → t.dir.last = contentNow s
           ∧ (t.link.beaconWaiting = true ∨ framed (.beacon (buildBeacon t)) s ∈ t.link.queue))
       ∧ (∀ g ∈ t.asm.sendList, g.pending = false ∧ g.number ≠ none)
       ∧ t.asm.sendList.map (fun x => (x.target, x.members, x.kind, x.resend)) =
           s.asm.sendList.map (fun x => (x.target, x.members, x.kind, x.resend))
       ∧ (∀ x ∈ s.asm.sendList.zip t.asm.sendList, x.1.number ≠ none → x.2.number = x.1.number)
       ∧ t = { s with
           link := { s.link with
             line := .joined, quiet := some 1000000, queue := t.link.queue, beaconWaiting := t.link.beaconWaiting }
           dir := t.dir, notes := t.notes, asm := t.asm })
  ∧ (∀ (key : Nat) (m : ReceiptMsg) (s : State),
       s.pins.resetHeld = false → s.link.line = .listening → s.link.valid = 2 → framingOk key (.receipt m) = true →
       keyBay key ≠ s.straps.bay → m.origin ≠ s.straps.bay → m.origin ≠ 0 → NumberLaw s →
       ∃ t, exec (.receipt key m) s = .next t
         ∧ t.link.line = .joined ∧ t.link.valid = 3 ∧ t.dir.interval = 4 ∧ t.dir.timer = some 4
         ∧ t.notes = (raise .linkUp 2 s.link.fails s).notes
         ∧ (∀ g ∈ t.asm.sendList, g.pending = false ∧ g.number ≠ none)
         ∧ t.asm.sendList.map (fun x => (x.target, x.members, x.kind, x.resend)) =
             s.asm.sendList.map (fun x => (x.target, x.members, x.kind, x.resend))
         ∧ t = { s with link := t.link, dir := t.dir, notes := t.notes, asm := t.asm })
  ∧ (∀ (key : Nat) (b : Body) (s : State),
       s.pins.resetHeld = false → s.link.line = .listening → s.link.valid = 2 → framingOk key b = true →
       keyBay key ≠ s.straps.bay → NumberLaw s →
       ∃ u, exec (b.command key) { s with link := { s.link with valid := 0 } } = .next u
         ∧ u.link.line = .listening ∧ u.link.valid = 1
         ∧ ∃ t, exec (b.command key) s = .next t
           ∧ t.link.line = .joined ∧ t.link.valid = 3 ∧ t.dir.interval = 4 ∧ t.dir.timer = some 4
           ∧ t.notes = (raise .linkUp 2 s.link.fails u).notes
           ∧ (beaconRoom u = true → t.dir.last = contentNow u
               ∧ (t.link.beaconWaiting = true ∨ framed (.beacon (buildBeacon t)) u ∈ t.link.queue))
           ∧ (∀ g ∈ t.asm.sendList, g.pending = false ∧ g.number ≠ none)
           ∧ t.asm.sendList.map (fun x => (x.target, x.members, x.kind, x.resend)) =
               u.asm.sendList.map (fun x => (x.target, x.members, x.kind, x.resend))
           ∧ t = { u with
               link := { u.link with
                 line := .joined, valid := 3, queue := t.link.queue, beaconWaiting := t.link.beaconWaiting }
               dir := { u.dir with interval := 4, timer := some 4, last := t.dir.last }
               notes := t.notes, asm := t.asm })
  ∧ (∀ (s : State),
       s.pins.resetHeld = false → s.link.line = .faulted → s.link.duplicate = false → s.link.rejoin = some 30 →
       exec .rejoinTimerExpiry s = .next { s with
         link := { s.link with line := .listening, valid := 0, failures := 0, quiet := some 0, rejoin := none } })

/-- The hall clock pulse and its silence (R45) under the rules of the source states (R46, R48 to R50), with the
recomputation of M. Where a pulse makes a boundary of its own, no timer's expiry is due in the clause that gives the
whole state (Log 5). That the pulse carries the oscillator time since the last such command is Log 3, what it adds to
the quiet timer Log 49, the codes of the causes of FALLBACK Log 20. -/
def Obligations.PulsesQualifyTheClock : Prop :=
  (∀ (us : Nat) (s : State),
     s.pins.resetHeld = false → s.time.sincePulse = none →
     exec (.hallClockPulse us) s = .next { s with
       time := { s.time with
         sincePulse := some 0, silence := 0, sinceBoundary := s.time.sinceBoundary + us,
         untilBoundary := s.time.untilBoundary - us },
       link := (passTime us s).link })
  ∧ (∀ (us d : Nat) (s : State),
       s.pins.resetHeld = false → s.time.sincePulse = some d → 900000 ≤ d + us → d + us ≤ 1100000 →
       s.time.source = .reference → s.time.byOscillator = true → s.time.sinceBoundary + us < 500000 →
       exec (.hallClockPulse us) s = .next { s with
         time := { s.time with
           sincePulse := some 0, silence := 0, badRun := 0, sinceBoundary := s.time.sinceBoundary + us,
           untilBoundary := 1000000 },
         link := (passTime us s).link })
  ∧ (∀ (us d : Nat) (s : State),
       s.pins.resetHeld = false → s.time.sincePulse = some d → 900000 ≤ d + us → d + us ≤ 1100000 →
       (s.time.source = .fallback ∨ (s.time.source = .returning ∧ s.time.goodRun < 63)) →
       exec (.hallClockPulse us) s = .next { s with
         time := { s.time with
           source := .returning, goodRun := if s.time.source = .fallback then 1 else s.time.goodRun + 1,
           sincePulse := some 0, silence := 0, sinceBoundary := s.time.sinceBoundary + us,
           untilBoundary := s.time.untilBoundary - us },
         link := (passTime us s).link })
  ∧ (∀ (us d : Nat) (s : State),
       s.pins.resetHeld = false → s.time.sincePulse = some d → 900000 ≤ d + us → d + us ≤ 1100000 →
       s.time.source = .reference → (s.time.byOscillator = false ∨ 500000 ≤ s.time.sinceBoundary + us) →
       s.time.seconds < 59 → NothingDue s →
       exec (.hallClockPulse us) s = .next { s with
         time := { s.time with
           sincePulse := some 0, silence := 0, badRun := 0, seconds := s.time.seconds + 1, sinceBoundary := 0,
           untilBoundary := 1000000, byOscillator := false }
         link := { (passTime us s).link with rejoin := s.link.rejoin.map (fun n => min 30 (n + 1)) }
         dir := { s.dir with
           timer := s.dir.timer.map (fun n => n - 1)
           entries := s.dir.entries.map (fun e =>
             { e with since := e.since + 1, unreachable := e.unreachable.map (fun n => n - 1) }) }
         asm := { s.asm with openGroups := s.asm.openGroups.map (fun g => { g with timer := g.timer + 1 }) }
         table := s.table.map countAnswer
         dep := { s.dep with
           window := s.dep.window.map (fun n => min 6 (n + 1))
           retry := !s.dep.startPending.isEmpty && s.dep.state == some .openBay } })
  ∧ (∀ (us d : Nat) (s : State),
       s.pins.resetHeld = false → s.time.sincePulse = some d → 900000 ≤ d + us → d + us ≤ 1100000 →
       s.time.source = .returning → 63 ≤ s.time.goodRun → s.docking = none → s.time.byOscillator = true →
       s.time.sinceBoundary + us < 500000 →
       exec (.hallClockPulse us) s = .next { s with
         time := { s.time with
           source := .reference, goodRun := 64, badRun := 0, fallback := 0, sincePulse := some 0, silence := 0,
           sinceBoundary := s.time.sinceBoundary + us, untilBoundary := 1000000 }
         link := (passTime us s).link
         notes := (raise .clockRestored s.time.fallback s.time.minute s).notes })
  ∧ (∀ (us d : Nat) (s : State),
       s.pins.resetHeld = false → s.time.sincePulse = some d → 900000 ≤ d + us → d + us ≤ 1100000 →
       s.time.source = .returning → 63 ≤ s.time.goodRun →
       ∃ t, exec (.hallClockPulse us) s = .next t
         ∧ t.time.source = .reference ∧ t.time.goodRun = 64 ∧ t.time.badRun = 0 ∧ t.time.fallback = 0
         ∧ t.time.sincePulse = some 0 ∧ t.time.silence = 0 ∧ t.time.untilBoundary = 1000000
         ∧ hasFlag t.notes.summary .clockRestored = true
         ∧ t.docking = s.docking ∧ (∀ k ∈ s.docking, t.time.m = rawMinutes t.time.minute k.cutoff ∧ t.urgency = urgencyNow t))
  ∧ (∀ (us d : Nat) (s : State),
       s.pins.resetHeld = false → s.time.sincePulse = some d → (d + us < 900000 ∨ 1100000 < d + us) →
       s.time.source = .returning →
       exec (.hallClockPulse us) s = .next { s with
         time := { s.time with
           goodRun := 0, sincePulse := some 0, silence := 0, sinceBoundary := s.time.sinceBoundary + us,
           untilBoundary := s.time.untilBoundary - us },
         link := (passTime us s).link })
  ∧ (∀ (us d : Nat) (s : State),
       s.pins.resetHeld = false → s.time.sincePulse = some d → (d + us < 900000 ∨ 1100000 < d + us) →
       (s.time.source = .fallback ∨ (s.time.source = .reference ∧ s.time.badRun < 2)) →
       exec (.hallClockPulse us) s = .next { s with
         time := { s.time with
           badRun := if s.time.source = .reference then s.time.badRun + 1 else s.time.badRun,
           sincePulse := some 0, silence := 0, sinceBoundary := s.time.sinceBoundary + us,
           untilBoundary := s.time.untilBoundary - us },
         link := (passTime us s).link })
  ∧ (∀ (us d : Nat) (s : State),
       s.pins.resetHeld = false → s.docking = none → s.time.sincePulse = some d →
       (d + us < 900000 ∨ 1100000 < d + us) → s.time.source = .reference → s.time.badRun = 2 →
       exec (.hallClockPulse us) s = .next { s with
         time := { s.time with
           source := .fallback, goodRun := 0, badRun := 0, fallback := 0, sincePulse := some 0, silence := 0,
           sinceBoundary := s.time.sinceBoundary + us, untilBoundary := s.time.untilBoundary - us },
         link := (passTime us s).link, notes := (raise .clockFallback 1 s.time.minute s).notes })
  ∧ (∀ (s : State),
       s.pins.resetHeld = false → s.docking = none → s.time.silence ≤ 1500000 →
       ∃ t, exec .pulseSilence s = .next t
         ∧ t.time.silence = 0
         ∧ (s.time.source = .reference →
             t.time.source = .fallback ∧ t.time.fallback = 0 ∧ t.time.goodRun = 0 ∧ t.time.badRun = 0
               ∧ t.notes = (raise .clockFallback 2 s.time.minute s).notes)
         ∧ (s.time.source = .fallback → t.time.source = .fallback ∧ t.time.goodRun = s.time.goodRun ∧ t.notes = s.notes)
         ∧ (s.time.source = .returning → t.time.source = .returning ∧ t.time.goodRun = 0 ∧ t.notes = s.notes)
         ∧ t = { s with time := t.time, notes := t.notes, link := (passTime (1500000 - s.time.silence) s).link })
  ∧ (∀ (us p : Nat) (s : State) (d : Docking) (m : Nat),
       s.pins.resetHeld = false → s.docking = some d → s.time.sincePulse = some p →
       (p + us < 900000 ∨ 1100000 < p + us) → s.time.source = .reference → s.time.badRun = 2 →
       m = rawMinutes s.time.minute d.cutoff - 1 → (m ≠ 0 ∨ s.time.m = 0) →
       ∃ t, exec (.hallClockPulse us) s = .next t
         ∧ t.time = { s.time with
             source := .fallback, goodRun := 0, badRun := 0, fallback := 0, sincePulse := some 0, silence := 0,
             sinceBoundary := s.time.sinceBoundary + us, untilBoundary := s.time.untilBoundary - us,
             m := m, warned := s.time.warned || decide (m ≤ 15) }
         ∧ t.notes = (
             let a := raise .clockFallback 1 s.time.minute s
             if m ≤ 15 ∧ s.time.warned = false then (raise .cutoffNear m d.cutoff a).notes else a.notes)
         ∧ t.urgency = urgencyFor m d.expected (outboundCount s.deck) d.handling
         ∧ BeaconIf (significant t.urgency s.dir.last.urgency) (passTime us s) t
         ∧ t = { s with time := t.time, notes := t.notes, urgency := t.urgency, link := t.link, dir := t.dir })
  ∧ (∀ (s : State) (d : Docking) (m : Nat),
       s.pins.resetHeld = false → s.docking = some d → s.time.silence ≤ 1500000 → s.time.source = .reference →
       m = rawMinutes s.time.minute d.cutoff - 1 → (m ≠ 0 ∨ s.time.m = 0) →
       ∃ t, exec .pulseSilence s = .next t
         ∧ t.time = { (passTime (1500000 - s.time.silence) s).time with
             source := .fallback, goodRun := 0, badRun := 0, fallback := 0, silence := 0, m := m,
             warned := s.time.warned || decide (m ≤ 15) }
         ∧ t.notes = (
             let a := raise .clockFallback 2 s.time.minute s
             if m ≤ 15 ∧ s.time.warned = false then (raise .cutoffNear m d.cutoff a).notes else a.notes)
         ∧ t.urgency = urgencyFor m d.expected (outboundCount s.deck) d.handling
         ∧ BeaconIf (significant t.urgency s.dir.last.urgency) (passTime (1500000 - s.time.silence) s) t
         ∧ t = { s with time := t.time, notes := t.notes, urgency := t.urgency, link := t.link, dir := t.dir })

/-- The oscillator's second boundary (R46) and the minute boundary (R47): while VACANT, while DOCKED with no cutoff
reached, and with the cutoff reached in each departure state (R56, R152). M is M_raw less the margin (R52 to R54); the
wait limit's own expiry is WAIT_LIMIT_EXPIRY's (R148, Log 4). That the second timers count before the minute boundary
is Log 27, that U comes before CUTOFF_NEAR and CUTOFF_NEAR before CUTOFF_REACHED Log 26; the pending causes are kept
in the order in which they joined (Log 47). That expiries still due are carried out first is Log 5; that the command
lets pass exactly the time that was left to the boundary is Log 3, and what this adds to the quiet timer Log 49. -/
def Obligations.SecondBoundariesCount : Prop :=
  (∀ (s : State),
     s.pins.resetHeld = false → s.time.seconds ≤ 59 →
     ∃ t, exec .secondBoundary s = .next t
       ∧ t.time.seconds = (if s.time.seconds = 59 then 0 else s.time.seconds + 1)
       ∧ t.time.sinceBoundary = 0 ∧ t.time.untilBoundary = 1000000 ∧ t.time.byOscillator = true
       ∧ t.time.source = s.time.source ∧ t.time.goodRun = s.time.goodRun ∧ t.time.badRun = s.time.badRun
       ∧ (s.time.seconds < 59 → t.time.minute = s.time.minute ∧ t.time.fallback = s.time.fallback ∧ t.time.m = s.time.m)
       ∧ (s.time.seconds = 59 →
           t.time.minute = (if s.time.clockSet = true then (s.time.minute + 1) % 1440 else 0)
           ∧ t.time.fallback = (if s.time.source = .reference then s.time.fallback else min 1439 (s.time.fallback + 1))
           ∧ (∀ d ∈ s.docking, t.time.m = rawMinutes t.time.minute d.cutoff - margin t.time)
           ∧ t.urgency = urgencyNow t)
       ∧ t.docking = s.docking ∧ t.deck.entries.length = s.deck.entries.length ∧ t.lane.length = s.lane.length)
  ∧ (∀ (s : State),
       s.pins.resetHeld = false → s.time.seconds < 59 → NothingDue s →
       exec .secondBoundary s = .next { s with
         time := { (passTime s.time.untilBoundary s).time with
           seconds := s.time.seconds + 1, sinceBoundary := 0, untilBoundary := 1000000, byOscillator := true }
         link := { (passTime s.time.untilBoundary s).link with rejoin := s.link.rejoin.map (fun n => min 30 (n + 1)) }
         dir := { s.dir with
           timer := s.dir.timer.map (fun n => n - 1)
           entries := s.dir.entries.map (fun e =>
             { e with since := e.since + 1, unreachable := e.unreachable.map (fun n => n - 1) }) }
         asm := { s.asm with openGroups := s.asm.openGroups.map (fun g => { g with timer := g.timer + 1 }) }
         table := s.table.map countAnswer
         dep := { s.dep with
           window := s.dep.window.map (fun n => min 6 (n + 1))
           retry := !s.dep.startPending.isEmpty && s.dep.state == some .openBay } })
  ∧ (∀ (s : State),
       s.pins.resetHeld = false → s.time.seconds = 59 → NothingDue s → s.docking = none →
       ∃ t, exec .secondBoundary s = .next t
         ∧ t.urgency = 0 ∧ BeaconIf (significant 0 s.dir.last.urgency) (minuteCounted s) t
         ∧ t = { minuteCounted s with urgency := 0, link := t.link, dir := t.dir })
  ∧ (∀ (s : State) (d : Docking) (m : Nat),
       s.pins.resetHeld = false → s.time.seconds = 59 → NothingDue s → s.docking = some d →
       m = rawMinutes (minuteCounted s).time.minute d.cutoff - margin (minuteCounted s).time →
       (m ≠ 0 ∨ s.time.m = 0) →
       ∃ t, exec .secondBoundary s = .next t
         ∧ t.time = { (minuteCounted s).time with m := m, warned := s.time.warned || decide (m ≤ 15) }
         ∧ t.urgency = urgencyFor m d.expected (outboundCount s.deck) d.handling
         ∧ BeaconIf (significant t.urgency s.dir.last.urgency) (minuteCounted s) t
         ∧ t.notes = (if m ≤ 15 ∧ s.time.warned = false then
             (raise .cutoffNear m d.cutoff (minuteCounted s)).notes else s.notes)
         ∧ t = { minuteCounted s with time := t.time, urgency := t.urgency, link := t.link, dir := t.dir, notes := t.notes })
  ∧ (∀ (s : State) (d : Docking),
       s.pins.resetHeld = false → s.time.seconds = 59 → NothingDue s → s.docking = some d →
       rawMinutes (minuteCounted s).time.minute d.cutoff ≤ margin (minuteCounted s).time → 0 < s.time.m →
       s.dep.state ≠ some .waiting → (s.straps.autoClose = false ∨ s.dep.state ≠ some .openBay) →
       ∃ t, exec .secondBoundary s = .next t
         ∧ t.time = { (minuteCounted s).time with m := 0, warned := true }
         ∧ t.urgency = urgencyFor 0 d.expected (outboundCount s.deck) d.handling
         ∧ BeaconIf (significant t.urgency s.dir.last.urgency) (minuteCounted s) t
         ∧ t.notes = (
             let z := minuteCounted s
             let a := if s.time.warned = true then z else raise .cutoffNear 0 d.cutoff z
             if s.dep.state = some .openBay then (raise .cutoffReached d.cutoff z.time.minute a).notes else a.notes)
         ∧ t = { minuteCounted s with time := t.time, urgency := t.urgency, link := t.link, dir := t.dir, notes := t.notes })
  ∧ (∀ (s : State) (d : Docking),
       s.pins.resetHeld = false → s.time.seconds = 59 → NothingDue s → s.docking = some d →
       rawMinutes (minuteCounted s).time.minute d.cutoff ≤ margin (minuteCounted s).time → 0 < s.time.m →
       s.dep.state = some .waiting →
       ∃ t, exec .secondBoundary s = .next t
         ∧ t.time = { (minuteCounted s).time with m := 0, warned := true }
         ∧ t.urgency = urgencyFor 0 d.expected (outboundCount s.deck) d.handling
         ∧ t.dep = { (minuteCounted s).dep with
             state := some .closed, lamp := true, window := none, allowance := none, named := [], doneOwed := t.dep.doneOwed,
             ready := false, autoWas := false }
         ∧ t.store = { s.store with holds := [] }
         ∧ (t.dep.doneOwed = true ∨ ∃ f ∈ t.link.queue, f.body = .done { bay := s.straps.bay })
         ∧ hasFlag t.notes.summary .closed = true ∧ (s.store.holds ≠ [] → hasFlag t.notes.summary .voided = true)
         ∧ t.dir = { (minuteCounted s).dir with interval := t.dir.interval, timer := t.dir.timer, last := t.dir.last }
         ∧ t.link = { (minuteCounted s).link with queue := t.link.queue, beaconWaiting := t.link.beaconWaiting }
         ∧ t = { minuteCounted s with time := t.time, notes := t.notes, urgency := t.urgency, dep := t.dep, store := t.store, link := t.link, dir := t.dir })
  ∧ (∀ (s : State) (d : Docking),
       s.pins.resetHeld = false → s.time.seconds = 59 → NothingDue s → s.docking = some d →
       rawMinutes (minuteCounted s).time.minute d.cutoff ≤ margin (minuteCounted s).time → 0 < s.time.m →
       s.dep.state = some .openBay → s.straps.autoClose = true → s.run.mode = none → s.link.queue.length < 15 →
       ∃ t, exec .secondBoundary s = .next t
         ∧ t.time = { (minuteCounted s).time with m := 0, warned := true }
         ∧ t.urgency = urgencyFor 0 d.expected (outboundCount s.deck) d.handling
         ∧ t.dep = calledDep s
         ∧ (∃ f ∈ t.link.queue, f.body = .call { bay := s.straps.bay, number := (s.dep.callNumber + 1) % 256 })
         ∧ t.notes = (if s.time.warned = true then s.notes else (raise .cutoffNear 0 d.cutoff (minuteCounted s)).notes)
         ∧ t.dir = { (minuteCounted s).dir with interval := t.dir.interval, timer := t.dir.timer, last := t.dir.last }
         ∧ t.link = { (minuteCounted s).link with queue := t.link.queue, beaconWaiting := t.link.beaconWaiting }
         ∧ t = { minuteCounted s with time := t.time, notes := t.notes, urgency := t.urgency, dep := t.dep, link := t.link, dir := t.dir })
  ∧ (∀ (s : State) (d : Docking),
       s.pins.resetHeld = false → s.time.seconds = 59 → NothingDue s → s.docking = some d →
       rawMinutes (minuteCounted s).time.minute d.cutoff ≤ margin (minuteCounted s).time → 0 < s.time.m →
       s.dep.state = some .openBay → s.straps.autoClose = true → s.run.mode ≠ none →
       ∃ t, exec .secondBoundary s = .next t
         ∧ t.time = { (minuteCounted s).time with m := 0, warned := true }
         ∧ t.urgency = urgencyFor 0 d.expected (outboundCount s.deck) d.handling
         ∧ t.dep = { (minuteCounted s).dep with startPending :=
             if StartCause.autocloseCutoff ∈ s.dep.startPending then s.dep.startPending
             else s.dep.startPending ++ [.autocloseCutoff] }
         ∧ t.notes = (if s.time.warned = true then s.notes else (raise .cutoffNear 0 d.cutoff (minuteCounted s)).notes)
         ∧ BeaconIf (significant t.urgency s.dir.last.urgency) (minuteCounted s) t
         ∧ t = { minuteCounted s with time := t.time, notes := t.notes, urgency := t.urgency, dep := t.dep, link := t.link, dir := t.dir })

/-- The Route Directory's timers (R86, R89, R90). That U differs by a significant change is Log 9; each expiry acts
only where it is due (Log 4). -/
def Obligations.DirectoryTimersExpire : Prop :=
  (∀ (s : State) (n : Nat),
     s.pins.resetHeld = false → s.link.line = .joined → s.dir.timer = some 0 →
     n = (if contentDiffers s = true then 4 else min 64 (2 * s.dir.interval)) → beaconRoom s = true →
     ∃ t, exec .beaconTimerExpiry s = .next t
       ∧ t.dir = { s.dir with interval := n, timer := some n, last := contentNow s }
       ∧ t.link = linkWithBeacon s t ∧ t = { s with dir := t.dir, link := t.link })
  ∧ (∀ (s : State),
       s.pins.resetHeld = false → s.link.line = .joined → s.dir.timer = some 0 → beaconRoom s = false →
       exec .beaconTimerExpiry s = .next { s with dir := { s.dir with timer := some s.dir.interval } })
  ∧ (∀ (bay : Nat) (s : State) (e : DirEntry),
       s.pins.resetHeld = false → dirEntry s bay = some e → 3 * e.interval ≤ e.since →
       ∃ t, exec (.directoryEntryExpiry bay) s = .next t
         ∧ t.dir = { s.dir with entries := s.dir.entries.filter (fun x => x.bay != bay) }
         ∧ (∀ x ∈ t.table, queuedTo bay x = false)
         ∧ (∀ x ∈ s.table, offeredTo bay x = true ∨ acceptedTo bay x = true → (∀ y ∈ s.table, y.label = x.label → y = x) → x ∈ t.table)
         ∧ t = { s with
             dir := t.dir, table := t.table, asm := t.asm, notes := t.notes,
             link := { s.link with queue := t.link.queue } })
  ∧ (∀ (bay : Nat) (s : State) (e : DirEntry),
       s.pins.resetHeld = false → dirEntry s bay = some e → e.unreachable = some 0 →
       ∃ t, exec (.unreachableMarkExpiry bay) s = .next t
         ∧ t.dir = { s.dir with
             entries := s.dir.entries.map (fun x => if x.bay = bay then { x with unreachable := none } else x) }
         ∧ t.table.map (·.label) = s.table.map (·.label)
         ∧ t = { s with
             dir := t.dir, table := t.table, asm := t.asm, notes := t.notes,
             link := { s.link with queue := t.link.queue } })

/-- The timers of groups and transfers (R102, R110, R111, R112); each expiry acts only where it is due (Log 4). -/
def Obligations.TransferTimersExpire : Prop :=
  (∀ (target : Nat) (s : State) (g : OpenGroup),
     s.pins.resetHeld = false → s.asm.openGroups.find? (fun x => x.target == target) = some g → 20 ≤ g.timer →
     ∃ t, exec (.holdTimerExpiry target) s = .next t
       ∧ (∃ x ∈ t.asm.sendList, x.target = target ∧ x.members = g.members ∧ x.number = some (targetRecord s.asm target).next
           ∧ x.resend = false)
       ∧ t.table = s.table
       ∧ t = { s with asm := t.asm, link := { s.link with queue := t.link.queue } })
  ∧ (∀ (target group : Nat) (s : State),
       s.pins.resetHeld = false → (∃ e ∈ s.table, answerDue target group e = true) →
       (∀ e ∈ s.table, answerDue target group e = true → thirdSend e = false) →
       ∃ t, exec (.answerTimerExpiry target group) s = .next t
         ∧ t.table = s.table.map (fun e => if answerDue target group e = true then timerExpired e else e)
         ∧ (∃ x ∈ t.asm.sendList, x.target = target ∧ x.number = some group ∧ x.resend = true
             ∧ x.members = (s.table.filter (answerDue target group)).map (·.label))
         ∧ t = { s with table := t.table, asm := t.asm, link := { s.link with queue := t.link.queue } })
  ∧ (∀ (target group : Nat) (s : State),
       s.pins.resetHeld = false → (∃ e ∈ s.table, answerDue target group e = true) →
       (∃ e ∈ s.table, answerDue target group e = true ∧ thirdSend e = true) →
       ∃ t, exec (.answerTimerExpiry target group) s = .next t
         ∧ t.dir = { s.dir with
             entries := s.dir.entries.map (fun x => if x.bay = target then { x with unreachable := some 60 } else x) }
         ∧ (∀ e ∈ t.table, answerDue target group e = false)
         ∧ t.table.map (·.label) = s.table.map (·.label)
         ∧ t = { s with
             dir := t.dir, table := t.table, asm := t.asm, notes := t.notes,
             link := { s.link with queue := t.link.queue } })
  ∧ (∀ (label target : Nat) (s : State) (e : TransferEntry),
       s.pins.resetHeld = false → entryOf s label = some e → e.state = .accepted target (some 0) →
       exec (.travelTimerExpiry label) s = .next { s with
         table := s.table.map (fun x => if x.label = label then
           { x with state := .accepted target none, astray := true } else x)
         notes := if e.astray = true then s.notes else (raise .astray label target s).notes })

/-- The end of the call window (R145 to R147), the wait limit (R148), CLOSED (R149) and a pending start made (R141,
R142); each acts only where it is due (Log 4). -/
def Obligations.CallsEndAndPendingStartsAreMade : Prop :=
  (∀ (s : State),
     s.pins.resetHeld = false → s.dep.state = some .calling → s.dep.window = some 6 → s.dep.named = [] →
     ∃ t, exec .callWindowEnd s = .next t
       ∧ t.dep = { s.dep with
           state := some .closed, lamp := true, window := none, allowance := none, named := [], doneOwed := t.dep.doneOwed,
           ready := false, autoWas := false }
       ∧ t.store = { s.store with holds := [] }
       ∧ (t.dep.doneOwed = true ∨ ∃ f ∈ t.link.queue, f.body = .done { bay := s.straps.bay })
       ∧ hasFlag t.notes.summary .closed = true ∧ (s.store.holds ≠ [] → hasFlag t.notes.summary .voided = true)
       ∧ t = { s with dep := t.dep, store := t.store, link := t.link, dir := t.dir, notes := t.notes })
  ∧ (∀ (s : State),
       s.pins.resetHeld = false → s.dep.state = some .calling → s.dep.window = some 6 → s.time.m = 0 →
       ∃ t, exec .callWindowEnd s = .next t
         ∧ t.dep = { s.dep with
             state := some .closed, lamp := true, window := none, allowance := none, named := [], doneOwed := t.dep.doneOwed,
             ready := false, autoWas := false }
         ∧ t.store = { s.store with holds := [] }
         ∧ (t.dep.doneOwed = true ∨ ∃ f ∈ t.link.queue, f.body = .done { bay := s.straps.bay })
         ∧ hasFlag t.notes.summary .closed = true ∧ (s.store.holds ≠ [] → hasFlag t.notes.summary .voided = true)
         ∧ t = { s with
             dep := t.dep, store := t.store, link := t.link, dir := t.dir, notes := t.notes, lane := t.lane,
             deck := t.deck })
  ∧ (∀ (s : State) (kept : List Hold),
       s.pins.resetHeld = false → s.dep.state = some .calling → s.dep.window = some 6 → 0 < s.time.m →
       kept = s.store.holds.filter (fun x => s.dep.named.any (fun n => n.label == x.label)) → kept ≠ [] →
       ∃ t, exec .callWindowEnd s = .next t
         ∧ t.dep = { s.dep with
             state := some .waiting, window := none,
             allowance := some (2 + (t.store.holds.map (fun x => transit s.straps.bay x.origin)).foldl max 0) }
         ∧ t.store.holds.take kept.length = kept
         ∧ (∀ x ∈ t.store.holds.drop kept.length, x.depot = none ∧ x.rank = none ∧ x.mass = 120 ∧ x.minute = s.time.minute
             ∧ foundNowhere s x.label = true ∧ ∃ n ∈ s.dep.named, n.label = x.label ∧ n.bay = x.origin)
         ∧ ((∃ x ∈ s.store.holds, x ∉ kept) → hasFlag t.notes.summary .voided = true)
         ∧ (s.link.queue.length + s.dep.named.length < 16 → t.lane = s.lane ∧ t.deck = s.deck ∧
             ∀ n ∈ s.dep.named,
               (foundNowhere s n.label = true → inHolds t n.label = true ∨ ∃ f ∈ t.link.queue,
                 ∃ a ∈ (match f.body with | .answer x => some x | _ => none),
                   a.target = s.straps.bay ∧ a.origin = n.bay ∧ a.group = s.dep.callNumber ∧ a.items.length ≤ 8
                     ∧ ⟨n.label, 3⟩ ∈ a.items)
               ∧ ((inLane s n.label = true ∨ onDeck s n.label = true) → receiptOwed s n.label = false →
                 ∃ f ∈ t.link.queue, f.body = .receipt { bay := s.straps.bay, origin := n.bay, label := n.label }))
         ∧ ((∃ d ∈ s.docking, usedSpaces s + s.dep.named.length ≤ d.capacity
               ∧ usedMass s + 120 * s.dep.named.length ≤ d.payload) →
             ∀ n ∈ s.dep.named, foundNowhere s n.label = true → inHolds t n.label = true)
         ∧ t = { s with
             dep := t.dep, store := { s.store with holds := t.store.holds }, link := t.link, dir := t.dir,
             notes := t.notes, lane := t.lane, deck := t.deck })
  ∧ (∀ (s : State),
       s.pins.resetHeld = false → s.dep.state = some .calling → s.dep.window = some 6 → s.store.holds ≠ [] →
       0 < s.time.m → (∀ x ∈ s.store.holds, ∃ n ∈ s.dep.named, n.label = x.label) →
       (∀ n ∈ s.dep.named, inHolds s n.label = true ∧ inLane s n.label = false ∧ onDeck s n.label = false) →
       ∃ t, exec .callWindowEnd s = .next t
         ∧ t.dep = { s.dep with
             state := some .waiting, window := none,
             allowance := some (2 + (s.store.holds.map (fun x => transit s.straps.bay x.origin)).foldl max 0) }
         ∧ BeaconSent s t ∧ t = { s with dep := t.dep, link := t.link, dir := t.dir })
  ∧ (∀ (s : State),
       s.pins.resetHeld = false → s.dep.state = some .waiting → waitLimit s = some 0 →
       ∃ t, exec .waitLimitExpiry s = .next t
         ∧ t.dep.state = some .closed ∧ t.dep.lamp = true ∧ t.dep.allowance = none ∧ t.dep.named = [] ∧ t.store.holds = []
         ∧ (t.dep.doneOwed = true ∨ ∃ f ∈ t.link.queue, f.body = .done { bay := s.straps.bay })
         ∧ (s.store.holds ≠ [] → hasFlag t.notes.summary .voided = true) ∧ hasFlag t.notes.summary .closed = true
         ∧ t = { s with
             dep := t.dep, link := t.link, dir := t.dir, notes := t.notes, store := { s.store with holds := [] } })
  ∧ (∀ (s : State),
       s.pins.resetHeld = false → s.dep.retry = true → s.dep.state = some .openBay → s.dep.startPending ≠ [] →
       s.run.mode = none → hasRoom 0 s.link.queue = true → (s.link.line = .joined ∨ s.time.m = 0) →
       ∃ t, exec .automaticStart s = .next t
         ∧ t.dep = calledDep s
         ∧ framed (.call { bay := s.straps.bay, number := (s.dep.callNumber + 1) % 256 }) s ∈ t.link.queue
         ∧ t = { s with dep := t.dep, link := t.link, dir := t.dir })

/-- The single lines: the shutter (R141, R149, R150, R164), power-on with every block's power-on values, and the reset
pin (R163, R167; what a held pin does to the port and the line is Log 38). The oscillator's measurements at power-on,
with the first boundary 1 s after it, are the model's choice (Log 30), and the quiet timer's form is Log 49; the
pending causes are kept in the order in which they joined (Log 47). -/
def Obligations.LinesStartAndAbandonCalls : Prop :=
  (∀ (s : State),
     s.pins.resetHeld = false → s.pins.shutter = false → s.dep.state = some .openBay → s.run.mode = none →
     hasRoom 0 s.link.queue = true → (s.link.line = .joined ∨ s.time.m = 0) →
     ∃ t, exec .shutterClosed s = .next t
       ∧ t.pins = { s.pins with shutter := true } ∧ t.dep = calledDep s
       ∧ framed (.call { bay := s.straps.bay, number := (s.dep.callNumber + 1) % 256 }) s ∈ t.link.queue
       ∧ t = { s with pins := t.pins, dep := t.dep, link := t.link, dir := t.dir })
  ∧ (∀ (s : State),
       s.pins.resetHeld = false → s.pins.shutter = false → s.dep.state = some .openBay →
       (s.run.mode ≠ none ∨ hasRoom 0 s.link.queue = false ∨ (s.link.line ≠ .joined ∧ 0 < s.time.m)) →
       exec .shutterClosed s = .next { s with
         pins := { s.pins with shutter := true }
         dep := { s.dep with startPending :=
           if StartCause.shutter ∈ s.dep.startPending then s.dep.startPending else s.dep.startPending ++ [.shutter] } })
  ∧ (∀ (s : State),
       s.pins.resetHeld = false → s.pins.shutter = true →
       (s.dep.state = some .calling ∨ s.dep.state = some .waiting) →
       ∃ t, exec .shutterOpened s = .next t
         ∧ t.pins = { s.pins with shutter := false }
         ∧ t.dep = { s.dep with
             state := some .openBay, window := none, allowance := none, named := [],
             startPending := s.dep.startPending.filter (fun x => x != .shutter), ready := readyNow t,
             autoWas := autocloseNow t }
         ∧ hasFlag t.notes.summary .callAbandoned = true ∧ t.store = s.store
         ∧ BeaconSent s t
         ∧ t = { s with pins := t.pins, dep := t.dep, notes := t.notes, link := t.link, dir := t.dir })
  ∧ (∀ (s : State),
       s.pins.resetHeld = false → s.pins.shutter = true → s.dep.state ≠ some .calling →
       s.dep.state ≠ some .waiting →
       exec .shutterOpened s = .next { s with
         pins := { s.pins with shutter := false }
         dep := { s.dep with startPending := s.dep.startPending.filter (fun x => x != .shutter) }
         notes := if s.dep.state = some .closed then (raise .closed 4 s.dep.callNumber s).notes else s.notes })
  ∧ (∀ (p : Straps) (shutter : Bool) (s : State),
       exec (.powerOn p shutter) s = .next {
           pins := { resetHeld := false, shutter := shutter }
           straps := p
           port := { inProgress := false, busy := [], reply := none }
           notes := { queue := [], summary := 0, mask := allKinds, mode := .first, marks := [] }
           docking := none
           deck := { entries := [], fault := none }
           lane := []
           run := { mode := none, remaining := some 0, tipped := 0, lastReason := .abort }
           time := { source := .returning, goodRun := 0, badRun := 0, seconds := 0, minute := 0, clockSet := false,
                     fallback := 0, warned := false, m := 0, sincePulse := none, silence := 0, sinceBoundary := 0,
                     untilBoundary := 1000000, byOscillator := true }
           urgency := 0
           link := { line := if 1 ≤ p.bay ∧ p.bay ≤ 60 then .listening else .detached
                     quiet := some 0, valid := 0, queue := [], failures := 0, errors := 0, half := false, fails := 0,
                     held := false, rejoin := none, duplicate := false, badStrap := !decide (1 ≤ p.bay ∧ p.bay ≤ 60),
                     beaconWaiting := false, objection := false }
           dir := { entries := [], changes := 0, interval := 4, timer := none,
                    last := { bayState := .vacant, departure := none, drops := [], free := 0, urgency := 0 } }
           table := []
           asm := { openGroups := [], sendList := [], targets := [] }
           store := { holds := [], owing := [], kept := [] }
           dep := { state := none, callNumber := 0, window := none, named := [], allowance := none, startPending := [],
                    doneOwed := false, lamp := false, halt := false, ready := false, autoWas := false, retry := false }
           pending := s.pending }
         ∧ exec .resetAsserted s = .next { s with
           pins := { s.pins with resetHeld := true }
           port := { inProgress := false, busy := [], reply := none }
           link := { s.link with queue := s.link.queue.map (fun f => { f with onLine := false }) } })
end

