-- ==== Sys2Proof/Laws/State.lean ====
section
/-! SUPPORT. One lemma for each field and each named update of the state, true by definition, so that no proof unfolds
a record update. -/

namespace Sys2Proof.Machine

variable (s : State)

/-! ## setLink -/

@[simp] theorem setLink_pins (l : Link) : (setLink l s).pins = s.pins := rfl
@[simp] theorem setLink_straps (l : Link) : (setLink l s).straps = s.straps := rfl
@[simp] theorem setLink_port (l : Link) : (setLink l s).port = s.port := rfl
@[simp] theorem setLink_notes (l : Link) : (setLink l s).notes = s.notes := rfl
@[simp] theorem setLink_docking (l : Link) : (setLink l s).docking = s.docking := rfl
@[simp] theorem setLink_deck (l : Link) : (setLink l s).deck = s.deck := rfl
@[simp] theorem setLink_lane (l : Link) : (setLink l s).lane = s.lane := rfl
@[simp] theorem setLink_run (l : Link) : (setLink l s).run = s.run := rfl
@[simp] theorem setLink_time (l : Link) : (setLink l s).time = s.time := rfl
@[simp] theorem setLink_urgency (l : Link) : (setLink l s).urgency = s.urgency := rfl
@[simp] theorem setLink_link (l : Link) : (setLink l s).link = l := rfl
@[simp] theorem setLink_dir (l : Link) : (setLink l s).dir = s.dir := rfl
@[simp] theorem setLink_table (l : Link) : (setLink l s).table = s.table := rfl
@[simp] theorem setLink_asm (l : Link) : (setLink l s).asm = s.asm := rfl
@[simp] theorem setLink_store (l : Link) : (setLink l s).store = s.store := rfl
@[simp] theorem setLink_dep (l : Link) : (setLink l s).dep = s.dep := rfl
@[simp] theorem setLink_pending (l : Link) : (setLink l s).pending = s.pending := rfl

/-! ## setDir -/

@[simp] theorem setDir_pins (d : Directory) : (setDir d s).pins = s.pins := rfl
@[simp] theorem setDir_straps (d : Directory) : (setDir d s).straps = s.straps := rfl
@[simp] theorem setDir_port (d : Directory) : (setDir d s).port = s.port := rfl
@[simp] theorem setDir_notes (d : Directory) : (setDir d s).notes = s.notes := rfl
@[simp] theorem setDir_docking (d : Directory) : (setDir d s).docking = s.docking := rfl
@[simp] theorem setDir_deck (d : Directory) : (setDir d s).deck = s.deck := rfl
@[simp] theorem setDir_lane (d : Directory) : (setDir d s).lane = s.lane := rfl
@[simp] theorem setDir_run (d : Directory) : (setDir d s).run = s.run := rfl
@[simp] theorem setDir_time (d : Directory) : (setDir d s).time = s.time := rfl
@[simp] theorem setDir_urgency (d : Directory) : (setDir d s).urgency = s.urgency := rfl
@[simp] theorem setDir_link (d : Directory) : (setDir d s).link = s.link := rfl
@[simp] theorem setDir_dir (d : Directory) : (setDir d s).dir = d := rfl
@[simp] theorem setDir_table (d : Directory) : (setDir d s).table = s.table := rfl
@[simp] theorem setDir_asm (d : Directory) : (setDir d s).asm = s.asm := rfl
@[simp] theorem setDir_store (d : Directory) : (setDir d s).store = s.store := rfl
@[simp] theorem setDir_dep (d : Directory) : (setDir d s).dep = s.dep := rfl
@[simp] theorem setDir_pending (d : Directory) : (setDir d s).pending = s.pending := rfl

/-! ## setDep -/

@[simp] theorem setDep_pins (d : Departure) : (setDep d s).pins = s.pins := rfl
@[simp] theorem setDep_straps (d : Departure) : (setDep d s).straps = s.straps := rfl
@[simp] theorem setDep_port (d : Departure) : (setDep d s).port = s.port := rfl
@[simp] theorem setDep_notes (d : Departure) : (setDep d s).notes = s.notes := rfl
@[simp] theorem setDep_docking (d : Departure) : (setDep d s).docking = s.docking := rfl
@[simp] theorem setDep_deck (d : Departure) : (setDep d s).deck = s.deck := rfl
@[simp] theorem setDep_lane (d : Departure) : (setDep d s).lane = s.lane := rfl
@[simp] theorem setDep_run (d : Departure) : (setDep d s).run = s.run := rfl
@[simp] theorem setDep_time (d : Departure) : (setDep d s).time = s.time := rfl
@[simp] theorem setDep_urgency (d : Departure) : (setDep d s).urgency = s.urgency := rfl
@[simp] theorem setDep_link (d : Departure) : (setDep d s).link = s.link := rfl
@[simp] theorem setDep_dir (d : Departure) : (setDep d s).dir = s.dir := rfl
@[simp] theorem setDep_table (d : Departure) : (setDep d s).table = s.table := rfl
@[simp] theorem setDep_asm (d : Departure) : (setDep d s).asm = s.asm := rfl
@[simp] theorem setDep_store (d : Departure) : (setDep d s).store = s.store := rfl
@[simp] theorem setDep_dep (d : Departure) : (setDep d s).dep = d := rfl
@[simp] theorem setDep_pending (d : Departure) : (setDep d s).pending = s.pending := rfl

/-! ## setStore -/

@[simp] theorem setStore_pins (h : HoldTable) : (setStore h s).pins = s.pins := rfl
@[simp] theorem setStore_straps (h : HoldTable) : (setStore h s).straps = s.straps := rfl
@[simp] theorem setStore_port (h : HoldTable) : (setStore h s).port = s.port := rfl
@[simp] theorem setStore_notes (h : HoldTable) : (setStore h s).notes = s.notes := rfl
@[simp] theorem setStore_docking (h : HoldTable) : (setStore h s).docking = s.docking := rfl
@[simp] theorem setStore_deck (h : HoldTable) : (setStore h s).deck = s.deck := rfl
@[simp] theorem setStore_lane (h : HoldTable) : (setStore h s).lane = s.lane := rfl
@[simp] theorem setStore_run (h : HoldTable) : (setStore h s).run = s.run := rfl
@[simp] theorem setStore_time (h : HoldTable) : (setStore h s).time = s.time := rfl
@[simp] theorem setStore_urgency (h : HoldTable) : (setStore h s).urgency = s.urgency := rfl
@[simp] theorem setStore_link (h : HoldTable) : (setStore h s).link = s.link := rfl
@[simp] theorem setStore_dir (h : HoldTable) : (setStore h s).dir = s.dir := rfl
@[simp] theorem setStore_table (h : HoldTable) : (setStore h s).table = s.table := rfl
@[simp] theorem setStore_asm (h : HoldTable) : (setStore h s).asm = s.asm := rfl
@[simp] theorem setStore_store (h : HoldTable) : (setStore h s).store = h := rfl
@[simp] theorem setStore_dep (h : HoldTable) : (setStore h s).dep = s.dep := rfl
@[simp] theorem setStore_pending (h : HoldTable) : (setStore h s).pending = s.pending := rfl

/-! ## setTable -/

@[simp] theorem setTable_pins (t : List TransferEntry) : (setTable t s).pins = s.pins := rfl
@[simp] theorem setTable_straps (t : List TransferEntry) : (setTable t s).straps = s.straps := rfl
@[simp] theorem setTable_port (t : List TransferEntry) : (setTable t s).port = s.port := rfl
@[simp] theorem setTable_notes (t : List TransferEntry) : (setTable t s).notes = s.notes := rfl
@[simp] theorem setTable_docking (t : List TransferEntry) : (setTable t s).docking = s.docking := rfl
@[simp] theorem setTable_deck (t : List TransferEntry) : (setTable t s).deck = s.deck := rfl
@[simp] theorem setTable_lane (t : List TransferEntry) : (setTable t s).lane = s.lane := rfl
@[simp] theorem setTable_run (t : List TransferEntry) : (setTable t s).run = s.run := rfl
@[simp] theorem setTable_time (t : List TransferEntry) : (setTable t s).time = s.time := rfl
@[simp] theorem setTable_urgency (t : List TransferEntry) : (setTable t s).urgency = s.urgency := rfl
@[simp] theorem setTable_link (t : List TransferEntry) : (setTable t s).link = s.link := rfl
@[simp] theorem setTable_dir (t : List TransferEntry) : (setTable t s).dir = s.dir := rfl
@[simp] theorem setTable_table (t : List TransferEntry) : (setTable t s).table = t := rfl
@[simp] theorem setTable_asm (t : List TransferEntry) : (setTable t s).asm = s.asm := rfl
@[simp] theorem setTable_store (t : List TransferEntry) : (setTable t s).store = s.store := rfl
@[simp] theorem setTable_dep (t : List TransferEntry) : (setTable t s).dep = s.dep := rfl
@[simp] theorem setTable_pending (t : List TransferEntry) : (setTable t s).pending = s.pending := rfl

/-! ## setAsm -/

@[simp] theorem setAsm_pins (a : Assembler) : (setAsm a s).pins = s.pins := rfl
@[simp] theorem setAsm_straps (a : Assembler) : (setAsm a s).straps = s.straps := rfl
@[simp] theorem setAsm_port (a : Assembler) : (setAsm a s).port = s.port := rfl
@[simp] theorem setAsm_notes (a : Assembler) : (setAsm a s).notes = s.notes := rfl
@[simp] theorem setAsm_docking (a : Assembler) : (setAsm a s).docking = s.docking := rfl
@[simp] theorem setAsm_deck (a : Assembler) : (setAsm a s).deck = s.deck := rfl
@[simp] theorem setAsm_lane (a : Assembler) : (setAsm a s).lane = s.lane := rfl
@[simp] theorem setAsm_run (a : Assembler) : (setAsm a s).run = s.run := rfl
@[simp] theorem setAsm_time (a : Assembler) : (setAsm a s).time = s.time := rfl
@[simp] theorem setAsm_urgency (a : Assembler) : (setAsm a s).urgency = s.urgency := rfl
@[simp] theorem setAsm_link (a : Assembler) : (setAsm a s).link = s.link := rfl
@[simp] theorem setAsm_dir (a : Assembler) : (setAsm a s).dir = s.dir := rfl
@[simp] theorem setAsm_table (a : Assembler) : (setAsm a s).table = s.table := rfl
@[simp] theorem setAsm_asm (a : Assembler) : (setAsm a s).asm = a := rfl
@[simp] theorem setAsm_store (a : Assembler) : (setAsm a s).store = s.store := rfl
@[simp] theorem setAsm_dep (a : Assembler) : (setAsm a s).dep = s.dep := rfl
@[simp] theorem setAsm_pending (a : Assembler) : (setAsm a s).pending = s.pending := rfl

/-! ## setTime -/

@[simp] theorem setTime_pins (t : TimeBase) : (setTime t s).pins = s.pins := rfl
@[simp] theorem setTime_straps (t : TimeBase) : (setTime t s).straps = s.straps := rfl
@[simp] theorem setTime_port (t : TimeBase) : (setTime t s).port = s.port := rfl
@[simp] theorem setTime_notes (t : TimeBase) : (setTime t s).notes = s.notes := rfl
@[simp] theorem setTime_docking (t : TimeBase) : (setTime t s).docking = s.docking := rfl
@[simp] theorem setTime_deck (t : TimeBase) : (setTime t s).deck = s.deck := rfl
@[simp] theorem setTime_lane (t : TimeBase) : (setTime t s).lane = s.lane := rfl
@[simp] theorem setTime_run (t : TimeBase) : (setTime t s).run = s.run := rfl
@[simp] theorem setTime_time (t : TimeBase) : (setTime t s).time = t := rfl
@[simp] theorem setTime_urgency (t : TimeBase) : (setTime t s).urgency = s.urgency := rfl
@[simp] theorem setTime_link (t : TimeBase) : (setTime t s).link = s.link := rfl
@[simp] theorem setTime_dir (t : TimeBase) : (setTime t s).dir = s.dir := rfl
@[simp] theorem setTime_table (t : TimeBase) : (setTime t s).table = s.table := rfl
@[simp] theorem setTime_asm (t : TimeBase) : (setTime t s).asm = s.asm := rfl
@[simp] theorem setTime_store (t : TimeBase) : (setTime t s).store = s.store := rfl
@[simp] theorem setTime_dep (t : TimeBase) : (setTime t s).dep = s.dep := rfl
@[simp] theorem setTime_pending (t : TimeBase) : (setTime t s).pending = s.pending := rfl

/-! ## setQueue -/

@[simp] theorem setQueue_pins (q : List Queued) : (setQueue q s).pins = s.pins := rfl
@[simp] theorem setQueue_straps (q : List Queued) : (setQueue q s).straps = s.straps := rfl
@[simp] theorem setQueue_port (q : List Queued) : (setQueue q s).port = s.port := rfl
@[simp] theorem setQueue_notes (q : List Queued) : (setQueue q s).notes = s.notes := rfl
@[simp] theorem setQueue_docking (q : List Queued) : (setQueue q s).docking = s.docking := rfl
@[simp] theorem setQueue_deck (q : List Queued) : (setQueue q s).deck = s.deck := rfl
@[simp] theorem setQueue_lane (q : List Queued) : (setQueue q s).lane = s.lane := rfl
@[simp] theorem setQueue_run (q : List Queued) : (setQueue q s).run = s.run := rfl
@[simp] theorem setQueue_time (q : List Queued) : (setQueue q s).time = s.time := rfl
@[simp] theorem setQueue_urgency (q : List Queued) : (setQueue q s).urgency = s.urgency := rfl
@[simp] theorem setQueue_link (q : List Queued) : (setQueue q s).link = { s.link with queue := q } := rfl
@[simp] theorem setQueue_dir (q : List Queued) : (setQueue q s).dir = s.dir := rfl
@[simp] theorem setQueue_table (q : List Queued) : (setQueue q s).table = s.table := rfl
@[simp] theorem setQueue_asm (q : List Queued) : (setQueue q s).asm = s.asm := rfl
@[simp] theorem setQueue_store (q : List Queued) : (setQueue q s).store = s.store := rfl
@[simp] theorem setQueue_dep (q : List Queued) : (setQueue q s).dep = s.dep := rfl
@[simp] theorem setQueue_pending (q : List Queued) : (setQueue q s).pending = s.pending := rfl

/-! ## setShutter -/

@[simp] theorem setShutter_pins (b : Bool) : (setShutter b s).pins = { s.pins with shutter := b } := rfl
@[simp] theorem setShutter_straps (b : Bool) : (setShutter b s).straps = s.straps := rfl
@[simp] theorem setShutter_port (b : Bool) : (setShutter b s).port = s.port := rfl
@[simp] theorem setShutter_notes (b : Bool) : (setShutter b s).notes = s.notes := rfl
@[simp] theorem setShutter_docking (b : Bool) : (setShutter b s).docking = s.docking := rfl
@[simp] theorem setShutter_deck (b : Bool) : (setShutter b s).deck = s.deck := rfl
@[simp] theorem setShutter_lane (b : Bool) : (setShutter b s).lane = s.lane := rfl
@[simp] theorem setShutter_run (b : Bool) : (setShutter b s).run = s.run := rfl
@[simp] theorem setShutter_time (b : Bool) : (setShutter b s).time = s.time := rfl
@[simp] theorem setShutter_urgency (b : Bool) : (setShutter b s).urgency = s.urgency := rfl
@[simp] theorem setShutter_link (b : Bool) : (setShutter b s).link = s.link := rfl
@[simp] theorem setShutter_dir (b : Bool) : (setShutter b s).dir = s.dir := rfl
@[simp] theorem setShutter_table (b : Bool) : (setShutter b s).table = s.table := rfl
@[simp] theorem setShutter_asm (b : Bool) : (setShutter b s).asm = s.asm := rfl
@[simp] theorem setShutter_store (b : Bool) : (setShutter b s).store = s.store := rfl
@[simp] theorem setShutter_dep (b : Bool) : (setShutter b s).dep = s.dep := rfl
@[simp] theorem setShutter_pending (b : Bool) : (setShutter b s).pending = s.pending := rfl

/-! ## withPending -/

@[simp] theorem withPending_pins (p : List Instr) : (s.withPending p).pins = s.pins := rfl
@[simp] theorem withPending_straps (p : List Instr) : (s.withPending p).straps = s.straps := rfl
@[simp] theorem withPending_port (p : List Instr) : (s.withPending p).port = s.port := rfl
@[simp] theorem withPending_notes (p : List Instr) : (s.withPending p).notes = s.notes := rfl
@[simp] theorem withPending_docking (p : List Instr) : (s.withPending p).docking = s.docking := rfl
@[simp] theorem withPending_deck (p : List Instr) : (s.withPending p).deck = s.deck := rfl
@[simp] theorem withPending_lane (p : List Instr) : (s.withPending p).lane = s.lane := rfl
@[simp] theorem withPending_run (p : List Instr) : (s.withPending p).run = s.run := rfl
@[simp] theorem withPending_time (p : List Instr) : (s.withPending p).time = s.time := rfl
@[simp] theorem withPending_urgency (p : List Instr) : (s.withPending p).urgency = s.urgency := rfl
@[simp] theorem withPending_link (p : List Instr) : (s.withPending p).link = s.link := rfl
@[simp] theorem withPending_dir (p : List Instr) : (s.withPending p).dir = s.dir := rfl
@[simp] theorem withPending_table (p : List Instr) : (s.withPending p).table = s.table := rfl
@[simp] theorem withPending_asm (p : List Instr) : (s.withPending p).asm = s.asm := rfl
@[simp] theorem withPending_store (p : List Instr) : (s.withPending p).store = s.store := rfl
@[simp] theorem withPending_dep (p : List Instr) : (s.withPending p).dep = s.dep := rfl
@[simp] theorem withPending_pending (p : List Instr) : (s.withPending p).pending = p := rfl

/-! ## The port -/

@[simp] theorem sendReply_pins (n : Nat) (a : Answer) : (sendReply n a s).pins = s.pins := rfl
@[simp] theorem sendReply_straps (n : Nat) (a : Answer) : (sendReply n a s).straps = s.straps := rfl
@[simp] theorem sendReply_notes (n : Nat) (a : Answer) : (sendReply n a s).notes = s.notes := rfl
@[simp] theorem sendReply_docking (n : Nat) (a : Answer) : (sendReply n a s).docking = s.docking := rfl
@[simp] theorem sendReply_deck (n : Nat) (a : Answer) : (sendReply n a s).deck = s.deck := rfl
@[simp] theorem sendReply_lane (n : Nat) (a : Answer) : (sendReply n a s).lane = s.lane := rfl
@[simp] theorem sendReply_run (n : Nat) (a : Answer) : (sendReply n a s).run = s.run := rfl
@[simp] theorem sendReply_time (n : Nat) (a : Answer) : (sendReply n a s).time = s.time := rfl
@[simp] theorem sendReply_urgency (n : Nat) (a : Answer) : (sendReply n a s).urgency = s.urgency := rfl
@[simp] theorem sendReply_link (n : Nat) (a : Answer) : (sendReply n a s).link = s.link := rfl
@[simp] theorem sendReply_dir (n : Nat) (a : Answer) : (sendReply n a s).dir = s.dir := rfl
@[simp] theorem sendReply_table (n : Nat) (a : Answer) : (sendReply n a s).table = s.table := rfl
@[simp] theorem sendReply_asm (n : Nat) (a : Answer) : (sendReply n a s).asm = s.asm := rfl
@[simp] theorem sendReply_store (n : Nat) (a : Answer) : (sendReply n a s).store = s.store := rfl
@[simp] theorem sendReply_dep (n : Nat) (a : Answer) : (sendReply n a s).dep = s.dep := rfl
@[simp] theorem sendReply_pending (n : Nat) (a : Answer) : (sendReply n a s).pending = s.pending := rfl
@[simp] theorem recordBusy_pins (n : Nat) : (recordBusy n s).pins = s.pins := rfl
@[simp] theorem recordBusy_straps (n : Nat) : (recordBusy n s).straps = s.straps := rfl
@[simp] theorem recordBusy_notes (n : Nat) : (recordBusy n s).notes = s.notes := rfl
@[simp] theorem recordBusy_docking (n : Nat) : (recordBusy n s).docking = s.docking := rfl
@[simp] theorem recordBusy_deck (n : Nat) : (recordBusy n s).deck = s.deck := rfl
@[simp] theorem recordBusy_lane (n : Nat) : (recordBusy n s).lane = s.lane := rfl
@[simp] theorem recordBusy_run (n : Nat) : (recordBusy n s).run = s.run := rfl
@[simp] theorem recordBusy_time (n : Nat) : (recordBusy n s).time = s.time := rfl
@[simp] theorem recordBusy_urgency (n : Nat) : (recordBusy n s).urgency = s.urgency := rfl
@[simp] theorem recordBusy_link (n : Nat) : (recordBusy n s).link = s.link := rfl
@[simp] theorem recordBusy_dir (n : Nat) : (recordBusy n s).dir = s.dir := rfl
@[simp] theorem recordBusy_table (n : Nat) : (recordBusy n s).table = s.table := rfl
@[simp] theorem recordBusy_asm (n : Nat) : (recordBusy n s).asm = s.asm := rfl
@[simp] theorem recordBusy_store (n : Nat) : (recordBusy n s).store = s.store := rfl
@[simp] theorem recordBusy_dep (n : Nat) : (recordBusy n s).dep = s.dep := rfl
@[simp] theorem recordBusy_pending (n : Nat) : (recordBusy n s).pending = s.pending := rfl

end Sys2Proof.Machine
end

