-- ==== Sys2Proof/Laws/Footprint.lean ====
section
/-! SUPPORT. What each shared operation leaves as it was. A footprint is a function that blanks the parts an operation
may change, so `f`'s lemma `keepX (f s) = keepX s` says once that it changes nothing else; the lemma for a single field
is its image (`congrArg State.deck`). The footprints grow: notices, queue, beacon, groups, transfers, settling, closing,
minutes. -/

namespace Sys2Proof.Machine

/-- All but the notices. -/
def keepNotes (s : State) : State := { s with notes := Notices.initial }

/-- All but the transmit queue. -/
def keepQueue (s : State) : State := { s with link := { s.link with queue := [] } }

/-- All but the transmit queue and the own beacon's interval, timer and last content. -/
def keepBeacon (s : State) : State :=
  { s with
    link := { s.link with queue := [], beaconWaiting := false }
    dir := { s.dir with interval := 4, timer := none, last := BeaconContent.initial } }

/-- All but the Offer Assembler. -/
def keepAsm (s : State) : State := { s with asm := { openGroups := [], sendList := [], targets := [] } }

/-- All but the Offer Assembler and the transmit queue. -/
def keepGroups (s : State) : State := keepAsm (keepQueue s)

/-- All but the Transfer Table, the Offer Assembler, the transmit queue and the notices. -/
def keepTable (s : State) : State := { keepNotes (keepGroups s) with table := [] }

/-- All but Departure Control, the notices, the transmit queue and the own beacon. -/
def keepSettle (s : State) : State := { keepNotes (keepBeacon s) with dep := Departure.initial }

/-- All but the holds and what `keepSettle` blanks. -/
def keepClosing (s : State) : State := { keepSettle s with store := { s.store with holds := [] } }

/-- A lane entry without its receipt-owed mark. -/
def LaneEntry.unowed (e : LaneEntry) : LaneEntry := { e with owed := false }

/-- A deck entry without its receipt-owed mark. -/
def DeckEntry.unowed (e : DeckEntry) : DeckEntry := { e with owed := false }

/-- All but the receipt-owed marks and the transmit queue. -/
def keepMarks (s : State) : State :=
  { keepQueue s with
    lane := s.lane.map LaneEntry.unowed
    deck := { s.deck with entries := s.deck.entries.map DeckEntry.unowed } }

/-- All but the receipt-owed marks, the holds, the transmit queue and the own beacon. -/
def keepReconcile (s : State) : State :=
  { keepBeacon (keepMarks s) with store := { s.store with holds := [] } }

/-- All but M, the warning mark, U and what `keepClosing` blanks. -/
def keepMinutes (s : State) : State :=
  { keepClosing s with time := { s.time with m := 0, warned := false }, urgency := 0 }

/-- A fold of operations keeps what each of them keeps. -/
theorem foldl_keep {α β : Type} (k : State → β) (f : State → α → State) (h : ∀ s a, k (f s a) = k s) (l : List α) (s : State) :
    k (l.foldl f s) = k s := by
  induction l generalizing s with
  | nil => rfl
  | cons a l ih => rw [List.foldl_cons, ih, h]

/-! ## Smaller footprints lie in larger ones -/

theorem keepBeacon_of_queue {s t : State} (h : keepQueue s = keepQueue t) : keepBeacon s = keepBeacon t :=
  (congrArg keepBeacon h :)
theorem keepGroups_of_asm {s t : State} (h : keepAsm s = keepAsm t) : keepGroups s = keepGroups t :=
  (congrArg keepGroups h :)
theorem keepGroups_of_queue {s t : State} (h : keepQueue s = keepQueue t) : keepGroups s = keepGroups t :=
  (congrArg keepGroups h :)
theorem keepTable_of_groups {s t : State} (h : keepGroups s = keepGroups t) : keepTable s = keepTable t :=
  (congrArg keepTable h :)
theorem keepTable_of_notes {s t : State} (h : keepNotes s = keepNotes t) : keepTable s = keepTable t :=
  (congrArg keepTable h :)
theorem keepSettle_of_notes {s t : State} (h : keepNotes s = keepNotes t) : keepSettle s = keepSettle t :=
  (congrArg keepSettle h :)
theorem keepSettle_of_beacon {s t : State} (h : keepBeacon s = keepBeacon t) : keepSettle s = keepSettle t :=
  (congrArg keepSettle h :)
theorem keepClosing_of_settle {s t : State} (h : keepSettle s = keepSettle t) : keepClosing s = keepClosing t :=
  (congrArg keepClosing h :)
theorem keepMinutes_of_closing {s t : State} (h : keepClosing s = keepClosing t) : keepMinutes s = keepMinutes t :=
  (congrArg keepMinutes h :)
theorem keepMarks_of_queue {s t : State} (h : keepQueue s = keepQueue t) : keepMarks s = keepMarks t :=
  (congrArg keepMarks h :)
theorem keepReconcile_of_marks {s t : State} (h : keepMarks s = keepMarks t) : keepReconcile s = keepReconcile t :=
  (congrArg (fun x : State => { keepBeacon x with store := { x.store with holds := [] } }) h :)
theorem keepReconcile_of_beacon {s t : State} (h : keepBeacon s = keepBeacon t) : keepReconcile s = keepReconcile t :=
  (congrArg keepReconcile h :)

/-! ## Notices -/

@[simp] theorem raise_keep (k : NoticeKind) (a b : Nat) (s : State) : keepNotes (raise k a b s) = keepNotes s := rfl

/-! ## The transmit queue and the own beacon -/

@[simp] theorem setQueue_keep (q : List Queued) (s : State) : keepQueue (setQueue q s) = keepQueue s := rfl

theorem handFrame_keep {b : Body} {s t : State} (h : handFrame b s = some t) : keepQueue t = keepQueue s := by
  unfold handFrame at h
  split at h
  · cases h; rfl
  · cases h

@[simp] theorem handOrDrop_keep (b : Body) (s : State) : keepQueue (handOrDrop b s) = keepQueue s := by
  unfold handOrDrop
  cases h : handFrame b s with
  | none => rfl
  | some t => exact handFrame_keep h

@[simp] theorem noteBeaconed_keep (s : State) : keepBeacon (noteBeaconed s) = keepBeacon s := rfl
@[simp] theorem queueBeacon_keep (q : List Queued) (s : State) : keepBeacon (queueBeacon q s) = keepBeacon s := rfl

@[simp] theorem placeBeacon_keep (s : State) : keepBeacon (placeBeacon s).1 = keepBeacon s := by
  unfold placeBeacon
  split
  · split <;> rfl
  · split <;> rfl

@[simp] theorem restartBeaconTimer_keep (n : Nat) (s : State) : keepBeacon (restartBeaconTimer n s) = keepBeacon s := rfl

@[simp] theorem beaconedChange_keep (s : State) : keepBeacon (beaconedChange s) = keepBeacon s := by
  unfold beaconedChange
  rw [restartBeaconTimer_keep, placeBeacon_keep]
  rfl

@[simp] theorem announce_keep (a s : State) : keepBeacon (announce a s) = keepBeacon s := by
  unfold announce
  split
  · exact beaconedChange_keep s
  · rfl

@[simp] theorem handFree_keep (s : State) : keepBeacon (handFree s) = keepBeacon s := by
  unfold handFree
  split
  · rfl
  · exact beaconedChange_keep s

/-- U aside, recomputing U changes what a beacon changes. -/
@[simp] theorem recomputeUrgency_keep (s : State) :
    keepBeacon (recomputeUrgency s) = { keepBeacon s with urgency := urgencyNow s } := by
  unfold recomputeUrgency
  dsimp only
  split
  · rw [beaconedChange_keep]; rfl
  · rfl

@[simp] theorem setLaneOwed_unowed (label : Nat) (b : Bool) (l : List LaneEntry) :
    (setLaneOwed label b l).map LaneEntry.unowed = l.map LaneEntry.unowed := by
  simp only [setLaneOwed, List.map_map]
  refine List.map_congr_left fun e _ => ?_
  simp only [Function.comp]
  split <;> rfl

@[simp] theorem setDeckOwed_unowed (label : Nat) (b : Bool) (d : Deck) :
    (setDeckOwed label b d).entries.map DeckEntry.unowed = d.entries.map DeckEntry.unowed := by
  simp only [setDeckOwed, List.map_map]
  refine List.map_congr_left fun e _ => ?_
  simp only [Function.comp]
  split <;> rfl

@[simp] theorem askReceipt_keep (label origin : Nat) (s : State) :
    keepMarks (askReceipt label origin s).1 = keepMarks s := by
  unfold askReceipt
  split
  · next t h => exact keepMarks_of_queue (handFrame_keep h)
  · simp only [keepMarks, setLaneOwed_unowed, setDeckOwed_unowed]
    rfl

/-! ## Groups -/

@[simp] theorem setAsm_keep (a : Assembler) (s : State) : keepAsm (setAsm a s) = keepAsm s := rfl
@[simp] theorem leaveGroups_keep (l : Nat) (s : State) : keepAsm (leaveGroups l s) = keepAsm s := rfl
@[simp] theorem closeOpen_keep (g : OpenGroup) (s : State) : keepAsm (closeOpen g s) = keepAsm s := rfl
@[simp] theorem closeEmpty_keep (n : Nat) (s : State) : keepAsm (closeEmpty n s) = keepAsm s := rfl
@[simp] theorem closePending_keep (g : OpenGroup) (s : State) : keepAsm (closePending g s) = keepAsm s := rfl

@[simp] theorem closeFull_keep (g : OpenGroup) (s : State) : keepAsm (closeFull g s) = keepAsm s := by
  unfold closeFull
  dsimp only
  split <;> rfl

@[simp] theorem joinGroup_keep (label target : Nat) (s : State) : keepAsm (joinGroup label target s) = keepAsm s := by
  unfold joinGroup
  split
  · dsimp only
    split
    · exact closeFull_keep _ s
    · rfl
  · split
    · dsimp only
      split
      · exact closeFull_keep _ s
      · rfl
    · rfl

@[simp] theorem servePass_keep (es : List TransferEntry) (s : State) : keepAsm (servePass es s) = keepAsm s := by
  refine foldl_keep _ _ (fun t e => ?_) es s
  split
  · exact joinGroup_keep _ _ t
  · rfl

theorem serveLoop_keep (n : Nat) (s : State) : keepAsm (serveLoop n s) = keepAsm s := by
  induction n generalizing s with
  | zero => rfl
  | succ n ih =>
    unfold serveLoop
    dsimp only
    split
    · rw [ih, servePass_keep]
    · exact servePass_keep _ s

@[simp] theorem serveWaiting_keep (s : State) : keepAsm (serveWaiting s) = keepAsm s := serveLoop_keep _ s

theorem closeLoop_keep (close : OpenGroup → State → State) (hc : ∀ g s, keepAsm (close g s) = keepAsm s) (n : Nat)
    (s : State) : keepAsm (closeLoop close n s) = keepAsm s := by
  induction n generalizing s with
  | zero => rfl
  | succ n ih =>
    unfold closeLoop
    split
    · rfl
    · rw [ih, serveWaiting_keep, hc]

theorem closeAll_keep (close : OpenGroup → State → State) (hc : ∀ g s, keepAsm (close g s) = keepAsm s) (s : State) :
    keepAsm (closeAll close s) = keepAsm s := closeLoop_keep close hc _ s

theorem buildList_keep (s : State) (before l : List ClosedGroup) : keepQueue (buildList s before l).1 = keepQueue s := by
  induction l generalizing s before with
  | nil => rfl
  | cons g l ih =>
    unfold buildList
    split
    · split
      · next t h => rw [ih, handFrame_keep h]
      · exact ih s _
    · exact ih s _

@[simp] theorem buildReady_keep (s : State) : keepGroups (buildReady s) = keepGroups s := by
  unfold buildReady
  dsimp only
  rw [keepGroups_of_asm (setAsm_keep _ _)]
  exact keepGroups_of_queue (buildList_keep s [] _)

@[simp] theorem tidyGroups_keep (s : State) : keepGroups (tidyGroups s) = keepGroups s := by
  unfold tidyGroups
  rw [buildReady_keep]
  exact keepGroups_of_asm (serveWaiting_keep s)

@[simp] theorem releasePending_keep (s : State) : keepGroups (releasePending s) = keepGroups s := by
  unfold releasePending
  rw [buildReady_keep]
  exact keepGroups_of_asm (setAsm_keep _ s)

@[simp] theorem restartGroups_keep (s : State) : keepAsm (restartGroups s) = keepAsm s := by
  unfold restartGroups
  dsimp only
  rw [closeAll_keep _ closePending_keep]
  rfl

@[simp] theorem endRunGroups_keep (s : State) : keepGroups (endRunGroups s) = keepGroups s := by
  unfold endRunGroups
  dsimp only
  rw [buildReady_keep]
  split
  · exact keepGroups_of_asm (closeAll_keep _ closeOpen_keep s)
  · rw [foldl_keep keepGroups _ (fun t b => keepGroups_of_asm (closeEmpty_keep b t))]
    exact keepGroups_of_asm (closeAll_keep _ closeOpen_keep s)

/-! ## Transfers -/

@[simp] theorem setTable_keep (t : List TransferEntry) (s : State) : keepTable (setTable t s) = keepTable s := rfl
@[simp] theorem setTransferState_keep (l : Nat) (st : TransferState) (s : State) :
    keepTable (setTransferState l st s) = keepTable s := rfl
@[simp] theorem goBack_keep (l : Nat) (s : State) : keepTable (goBack l s) = keepTable s := rfl
@[simp] theorem addEntry_keep (l d m : Nat) (s : State) : keepTable (addEntry l d m s) = keepTable s := rfl

@[simp] theorem selectTarget_keep (b : Bool) (l : Nat) (s : State) : keepTable (selectTarget b l s) = keepTable s := by
  unfold selectTarget
  split
  · rfl
  · split
    · rw [keepTable_of_groups (tidyGroups_keep _), keepTable_of_groups (keepGroups_of_asm (joinGroup_keep _ _ _))]
      rfl
    · dsimp only
      split
      · rw [keepTable_of_notes (raise_keep _ _ _ _)]; rfl
      · rfl

@[simp] theorem reselect_keep (back parked : List Nat) (s : State) : keepTable (reselect back parked s) = keepTable s := by
  unfold reselect
  dsimp only
  rw [foldl_keep keepTable _ (fun t l => selectTarget_keep _ l t), keepTable_of_groups (tidyGroups_keep _),
    foldl_keep keepTable _ (fun t l => goBack_keep l t)]

@[simp] theorem removeEntry_keep (l : Nat) (s : State) : keepTable (removeEntry l s) = keepTable s := by
  unfold removeEntry
  rw [keepTable_of_groups (tidyGroups_keep _)]
  rfl

@[simp] theorem applyDone_keep (bay : Nat) (parked : List Nat) (s : State) :
    keepTable (applyDone bay parked s) = keepTable s := by
  unfold applyDone
  dsimp only
  rw [reselect_keep]
  refine foldl_keep keepTable _ (fun t l => ?_) _ s
  rw [keepTable_of_notes (raise_keep _ _ _ _), setTransferState_keep]

@[simp] theorem completeOffer_keep (n : Nat) (s : State) : keepTable (completeOffer n s) = keepTable s := by
  unfold completeOffer
  split <;> rfl

/-! ## Settling -/

@[simp] theorem setDep_keep (d : Departure) (s : State) : keepSettle (setDep d s) = keepSettle s := rfl

@[simp] theorem checkReady_keep (s : State) : keepSettle (checkReady s) = keepSettle s := by
  unfold checkReady
  dsimp only
  split <;> rfl

@[simp] theorem setDepState_keep (d : Option DepState) (s : State) : keepSettle (setDepState d s) = keepSettle s := by
  unfold setDepState
  rw [keepSettle_of_beacon (beaconedChange_keep _)]
  rfl

@[simp] theorem startCall_keep (s : State) : keepSettle (startCall s) = keepSettle s := by
  unfold startCall
  dsimp only
  rw [setDep_keep, setDepState_keep, setDep_keep, keepSettle_of_beacon (keepBeacon_of_queue (handOrDrop_keep _ _))]
  rfl

@[simp] theorem autoStart_keep (c : StartCause) (s : State) : keepSettle (autoStart c s) = keepSettle s := by
  unfold autoStart
  split
  · exact startCall_keep s
  · split <;> rfl

@[simp] theorem checkAutoclose_keep (s : State) : keepSettle (checkAutoclose s) = keepSettle s := by
  unfold checkAutoclose
  dsimp only
  split
  · rw [autoStart_keep]; rfl
  · rfl

@[simp] theorem settle_keep (s : State) : keepSettle (settle s) = keepSettle s := by
  unfold settle
  rw [checkAutoclose_keep, checkReady_keep]

@[simp] theorem returnToOpen_keep (s : State) : keepSettle (returnToOpen s) = keepSettle s := by
  unfold returnToOpen
  rw [setDepState_keep]
  rfl

@[simp] theorem settleReturn_keep (s : State) : keepSettle (settleReturn s) = keepSettle s := by
  unfold settleReturn
  dsimp only
  rw [setDep_keep, checkReady_keep]

@[simp] theorem abandonCall_keep (c : AbandonCause) (s : State) : keepSettle (abandonCall c s) = keepSettle s := by
  unfold abandonCall
  dsimp only
  rw [settleReturn_keep, keepSettle_of_notes (raise_keep _ _ _ _), returnToOpen_keep]

@[simp] theorem linkLost_keep (s : State) : keepSettle (linkLost s) = keepSettle s := by
  unfold linkLost
  split
  · exact abandonCall_keep _ s
  · rfl

@[simp] theorem retryStart_keep (s : State) : keepSettle (retryStart s) = keepSettle s := by
  unfold retryStart
  split
  · dsimp only
    split
    · rw [startCall_keep]; rfl
    · rfl
  · rfl

/-! ## Closing -/

@[simp] theorem dropHold_keep (l : Nat) (s : State) : keepClosing (dropHold l s) = keepClosing s := rfl
@[simp] theorem addHold_keep (h : Hold) (s : State) : keepClosing (addHold h s) = keepClosing s := rfl

@[simp] theorem removeHold_keep (l : Nat) (s : State) : keepClosing (removeHold l s) = keepClosing s := by
  unfold removeHold
  rw [keepClosing_of_settle (keepSettle_of_beacon (announce_keep _ _)), dropHold_keep]

@[simp] theorem voidHolds_keep (p : Hold → Bool) (s : State) : keepClosing (voidHolds p s) = keepClosing s := by
  unfold voidHolds
  dsimp only
  split
  · exact foldl_keep keepClosing _ (fun t l => removeHold_keep l t) _ s
  · rw [keepClosing_of_settle (keepSettle_of_notes (raise_keep _ _ _ _))]
    exact foldl_keep keepClosing _ (fun t l => removeHold_keep l t) _ s

@[simp] theorem enterClosed_keep (c : CloseCause) (s : State) : keepClosing (enterClosed c s) = keepClosing s := by
  unfold enterClosed
  dsimp only
  rw [keepClosing_of_settle (settle_keep _), keepClosing_of_settle (keepSettle_of_notes (raise_keep _ _ _ _)),
    keepClosing_of_settle (setDepState_keep _ _), keepClosing_of_settle (setDep_keep _ _)]
  split
  · next v h =>
    rw [keepClosing_of_settle (keepSettle_of_beacon (keepBeacon_of_queue (handFrame_keep h))), voidHolds_keep]
  · rw [keepClosing_of_settle (setDep_keep _ _), voidHolds_keep]

@[simp] theorem holdGone_keep (s : State) : keepClosing (holdGone s) = keepClosing s := by
  unfold holdGone
  split
  · exact enterClosed_keep _ s
  · rfl

@[simp] theorem expireWait_keep (s : State) : keepClosing (expireWait s) = keepClosing s := by
  unfold expireWait
  split
  · exact enterClosed_keep _ s
  · rfl

@[simp] theorem cutoffReached_keep (s : State) : keepClosing (cutoffReached s) = keepClosing s := by
  unfold cutoffReached
  split
  · split
    · exact keepClosing_of_settle (autoStart_keep _ s)
    · rfl
  · exact enterClosed_keep _ s
  · rfl

/-! ## Reconciliation -/

@[simp] theorem receiptAgain_keep (n : NamedRecord) (s : State) : keepMarks (receiptAgain n s) = keepMarks s := by
  unfold receiptAgain
  split
  · exact askReceipt_keep _ _ s
  · rfl

@[simp] theorem reconcileOne_keep (n : NamedRecord) (acc : State × List NamedRecord) :
    keepReconcile (reconcileOne n acc).1 = keepReconcile acc.1 := by
  unfold reconcileOne
  split
  · split
    · rw [keepReconcile_of_beacon (announce_keep _ _)]; rfl
    · rfl
  · rfl

@[simp] theorem answerClosing_keep (ns : List NamedRecord) (s : State) :
    keepQueue (answerClosing ns s) = keepQueue s := by
  unfold answerClosing
  refine foldl_keep keepQueue _ (fun t b => ?_) _ s
  unfold answerClosingTo
  exact foldl_keep keepQueue _ (fun u l => handOrDrop_keep _ u) _ t

@[simp] theorem reconcileOthers_keep (ns : List NamedRecord) (s : State) :
    keepReconcile (reconcileOthers ns s) = keepReconcile s := by
  unfold reconcileOthers
  dsimp only
  rw [keepReconcile_of_marks (keepMarks_of_queue (answerClosing_keep _ _))]
  have h : ∀ (l : List NamedRecord) (acc : State × List NamedRecord),
      keepReconcile (l.foldl (fun acc n => reconcileOne n acc) acc).1 = keepReconcile acc.1 := by
    intro l
    induction l with
    | nil => intro _; rfl
    | cons n l ih => intro acc; rw [List.foldl_cons, ih, reconcileOne_keep]
  exact h ns (s, [])

@[simp] theorem reconcileNamed_keep (ns : List NamedRecord) (s : State) :
    keepReconcile (reconcileNamed ns s) = keepReconcile s := by
  unfold reconcileNamed
  rw [reconcileOthers_keep]
  exact foldl_keep keepReconcile _ (fun t n => keepReconcile_of_marks (receiptAgain_keep n t)) ns s

/-! ## Minutes -/

@[simp] theorem cutoffTests_keep (a b : Nat) (s : State) : keepMinutes (cutoffTests a b s) = keepMinutes s := by
  have step : ∀ t, keepMinutes (if t.time.m = 0 ∧ 0 < a then cutoffReached t else t) = keepMinutes t := by
    intro t
    split
    · exact keepMinutes_of_closing (cutoffReached_keep t)
    · rfl
  unfold cutoffTests
  dsimp only
  rw [step]
  split <;> rfl

@[simp] theorem recomputeUrgency_minutes (s : State) : keepMinutes (recomputeUrgency s) = keepMinutes s := by
  have h := congrArg keepMinutes (recomputeUrgency_keep s)
  exact h

@[simp] theorem recomputeM_keep (s : State) : keepMinutes (recomputeM s) = keepMinutes s := by
  unfold recomputeM
  split
  · rfl
  · rw [cutoffTests_keep, recomputeUrgency_minutes]; rfl

end Sys2Proof.Machine
end

