-- ==== Sys2Proof/Laws/Fields.lean ====
section
/-! SUPPORT. The fields of the state that each shared operation leaves as they were, read off its footprint. -/

namespace Sys2Proof.Machine

/-- All but U, the transmit queue and the own beacon. -/
def keepUrgency (s : State) : State := { keepBeacon s with urgency := 0 }

theorem recomputeUrgency_field (s : State) : keepUrgency (recomputeUrgency s) = keepUrgency s :=
  (congrArg (fun x : State => { x with urgency := 0 }) (recomputeUrgency_keep s) :)

/-! ## Fields of a footprint -/

variable {s t : State}

theorem pins_of_keepNotes (h : keepNotes s = keepNotes t) : s.pins = t.pins := (congrArg State.pins h :)
theorem straps_of_keepNotes (h : keepNotes s = keepNotes t) : s.straps = t.straps := (congrArg State.straps h :)
theorem port_of_keepNotes (h : keepNotes s = keepNotes t) : s.port = t.port := (congrArg State.port h :)
theorem docking_of_keepNotes (h : keepNotes s = keepNotes t) : s.docking = t.docking := (congrArg State.docking h :)
theorem deck_of_keepNotes (h : keepNotes s = keepNotes t) : s.deck = t.deck := (congrArg State.deck h :)
theorem lane_of_keepNotes (h : keepNotes s = keepNotes t) : s.lane = t.lane := (congrArg State.lane h :)
theorem run_of_keepNotes (h : keepNotes s = keepNotes t) : s.run = t.run := (congrArg State.run h :)
theorem time_of_keepNotes (h : keepNotes s = keepNotes t) : s.time = t.time := (congrArg State.time h :)
theorem urgency_of_keepNotes (h : keepNotes s = keepNotes t) : s.urgency = t.urgency := (congrArg State.urgency h :)
theorem link_of_keepNotes (h : keepNotes s = keepNotes t) : s.link = t.link := (congrArg State.link h :)
theorem dir_of_keepNotes (h : keepNotes s = keepNotes t) : s.dir = t.dir := (congrArg State.dir h :)
theorem table_of_keepNotes (h : keepNotes s = keepNotes t) : s.table = t.table := (congrArg State.table h :)
theorem asm_of_keepNotes (h : keepNotes s = keepNotes t) : s.asm = t.asm := (congrArg State.asm h :)
theorem store_of_keepNotes (h : keepNotes s = keepNotes t) : s.store = t.store := (congrArg State.store h :)
theorem dep_of_keepNotes (h : keepNotes s = keepNotes t) : s.dep = t.dep := (congrArg State.dep h :)
theorem pending_of_keepNotes (h : keepNotes s = keepNotes t) : s.pending = t.pending := (congrArg State.pending h :)

theorem pins_of_keepQueue (h : keepQueue s = keepQueue t) : s.pins = t.pins := (congrArg State.pins h :)
theorem straps_of_keepQueue (h : keepQueue s = keepQueue t) : s.straps = t.straps := (congrArg State.straps h :)
theorem port_of_keepQueue (h : keepQueue s = keepQueue t) : s.port = t.port := (congrArg State.port h :)
theorem notes_of_keepQueue (h : keepQueue s = keepQueue t) : s.notes = t.notes := (congrArg State.notes h :)
theorem docking_of_keepQueue (h : keepQueue s = keepQueue t) : s.docking = t.docking := (congrArg State.docking h :)
theorem deck_of_keepQueue (h : keepQueue s = keepQueue t) : s.deck = t.deck := (congrArg State.deck h :)
theorem lane_of_keepQueue (h : keepQueue s = keepQueue t) : s.lane = t.lane := (congrArg State.lane h :)
theorem run_of_keepQueue (h : keepQueue s = keepQueue t) : s.run = t.run := (congrArg State.run h :)
theorem time_of_keepQueue (h : keepQueue s = keepQueue t) : s.time = t.time := (congrArg State.time h :)
theorem urgency_of_keepQueue (h : keepQueue s = keepQueue t) : s.urgency = t.urgency := (congrArg State.urgency h :)
theorem dir_of_keepQueue (h : keepQueue s = keepQueue t) : s.dir = t.dir := (congrArg State.dir h :)
theorem table_of_keepQueue (h : keepQueue s = keepQueue t) : s.table = t.table := (congrArg State.table h :)
theorem asm_of_keepQueue (h : keepQueue s = keepQueue t) : s.asm = t.asm := (congrArg State.asm h :)
theorem store_of_keepQueue (h : keepQueue s = keepQueue t) : s.store = t.store := (congrArg State.store h :)
theorem dep_of_keepQueue (h : keepQueue s = keepQueue t) : s.dep = t.dep := (congrArg State.dep h :)
theorem pending_of_keepQueue (h : keepQueue s = keepQueue t) : s.pending = t.pending := (congrArg State.pending h :)

theorem pins_of_keepBeacon (h : keepBeacon s = keepBeacon t) : s.pins = t.pins := (congrArg State.pins h :)
theorem straps_of_keepBeacon (h : keepBeacon s = keepBeacon t) : s.straps = t.straps := (congrArg State.straps h :)
theorem port_of_keepBeacon (h : keepBeacon s = keepBeacon t) : s.port = t.port := (congrArg State.port h :)
theorem notes_of_keepBeacon (h : keepBeacon s = keepBeacon t) : s.notes = t.notes := (congrArg State.notes h :)
theorem docking_of_keepBeacon (h : keepBeacon s = keepBeacon t) : s.docking = t.docking := (congrArg State.docking h :)
theorem deck_of_keepBeacon (h : keepBeacon s = keepBeacon t) : s.deck = t.deck := (congrArg State.deck h :)
theorem lane_of_keepBeacon (h : keepBeacon s = keepBeacon t) : s.lane = t.lane := (congrArg State.lane h :)
theorem run_of_keepBeacon (h : keepBeacon s = keepBeacon t) : s.run = t.run := (congrArg State.run h :)
theorem time_of_keepBeacon (h : keepBeacon s = keepBeacon t) : s.time = t.time := (congrArg State.time h :)
theorem urgency_of_keepBeacon (h : keepBeacon s = keepBeacon t) : s.urgency = t.urgency := (congrArg State.urgency h :)
theorem table_of_keepBeacon (h : keepBeacon s = keepBeacon t) : s.table = t.table := (congrArg State.table h :)
theorem asm_of_keepBeacon (h : keepBeacon s = keepBeacon t) : s.asm = t.asm := (congrArg State.asm h :)
theorem store_of_keepBeacon (h : keepBeacon s = keepBeacon t) : s.store = t.store := (congrArg State.store h :)
theorem dep_of_keepBeacon (h : keepBeacon s = keepBeacon t) : s.dep = t.dep := (congrArg State.dep h :)
theorem pending_of_keepBeacon (h : keepBeacon s = keepBeacon t) : s.pending = t.pending := (congrArg State.pending h :)

theorem pins_of_keepUrgency (h : keepUrgency s = keepUrgency t) : s.pins = t.pins := (congrArg State.pins h :)
theorem straps_of_keepUrgency (h : keepUrgency s = keepUrgency t) : s.straps = t.straps := (congrArg State.straps h :)
theorem port_of_keepUrgency (h : keepUrgency s = keepUrgency t) : s.port = t.port := (congrArg State.port h :)
theorem notes_of_keepUrgency (h : keepUrgency s = keepUrgency t) : s.notes = t.notes := (congrArg State.notes h :)
theorem docking_of_keepUrgency (h : keepUrgency s = keepUrgency t) : s.docking = t.docking := (congrArg State.docking h :)
theorem deck_of_keepUrgency (h : keepUrgency s = keepUrgency t) : s.deck = t.deck := (congrArg State.deck h :)
theorem lane_of_keepUrgency (h : keepUrgency s = keepUrgency t) : s.lane = t.lane := (congrArg State.lane h :)
theorem run_of_keepUrgency (h : keepUrgency s = keepUrgency t) : s.run = t.run := (congrArg State.run h :)
theorem time_of_keepUrgency (h : keepUrgency s = keepUrgency t) : s.time = t.time := (congrArg State.time h :)
theorem table_of_keepUrgency (h : keepUrgency s = keepUrgency t) : s.table = t.table := (congrArg State.table h :)
theorem asm_of_keepUrgency (h : keepUrgency s = keepUrgency t) : s.asm = t.asm := (congrArg State.asm h :)
theorem store_of_keepUrgency (h : keepUrgency s = keepUrgency t) : s.store = t.store := (congrArg State.store h :)
theorem dep_of_keepUrgency (h : keepUrgency s = keepUrgency t) : s.dep = t.dep := (congrArg State.dep h :)
theorem pending_of_keepUrgency (h : keepUrgency s = keepUrgency t) : s.pending = t.pending := (congrArg State.pending h :)

theorem pins_of_keepAsm (h : keepAsm s = keepAsm t) : s.pins = t.pins := (congrArg State.pins h :)
theorem straps_of_keepAsm (h : keepAsm s = keepAsm t) : s.straps = t.straps := (congrArg State.straps h :)
theorem port_of_keepAsm (h : keepAsm s = keepAsm t) : s.port = t.port := (congrArg State.port h :)
theorem notes_of_keepAsm (h : keepAsm s = keepAsm t) : s.notes = t.notes := (congrArg State.notes h :)
theorem docking_of_keepAsm (h : keepAsm s = keepAsm t) : s.docking = t.docking := (congrArg State.docking h :)
theorem deck_of_keepAsm (h : keepAsm s = keepAsm t) : s.deck = t.deck := (congrArg State.deck h :)
theorem lane_of_keepAsm (h : keepAsm s = keepAsm t) : s.lane = t.lane := (congrArg State.lane h :)
theorem run_of_keepAsm (h : keepAsm s = keepAsm t) : s.run = t.run := (congrArg State.run h :)
theorem time_of_keepAsm (h : keepAsm s = keepAsm t) : s.time = t.time := (congrArg State.time h :)
theorem urgency_of_keepAsm (h : keepAsm s = keepAsm t) : s.urgency = t.urgency := (congrArg State.urgency h :)
theorem link_of_keepAsm (h : keepAsm s = keepAsm t) : s.link = t.link := (congrArg State.link h :)
theorem dir_of_keepAsm (h : keepAsm s = keepAsm t) : s.dir = t.dir := (congrArg State.dir h :)
theorem table_of_keepAsm (h : keepAsm s = keepAsm t) : s.table = t.table := (congrArg State.table h :)
theorem store_of_keepAsm (h : keepAsm s = keepAsm t) : s.store = t.store := (congrArg State.store h :)
theorem dep_of_keepAsm (h : keepAsm s = keepAsm t) : s.dep = t.dep := (congrArg State.dep h :)
theorem pending_of_keepAsm (h : keepAsm s = keepAsm t) : s.pending = t.pending := (congrArg State.pending h :)

theorem pins_of_keepGroups (h : keepGroups s = keepGroups t) : s.pins = t.pins := (congrArg State.pins h :)
theorem straps_of_keepGroups (h : keepGroups s = keepGroups t) : s.straps = t.straps := (congrArg State.straps h :)
theorem port_of_keepGroups (h : keepGroups s = keepGroups t) : s.port = t.port := (congrArg State.port h :)
theorem notes_of_keepGroups (h : keepGroups s = keepGroups t) : s.notes = t.notes := (congrArg State.notes h :)
theorem docking_of_keepGroups (h : keepGroups s = keepGroups t) : s.docking = t.docking := (congrArg State.docking h :)
theorem deck_of_keepGroups (h : keepGroups s = keepGroups t) : s.deck = t.deck := (congrArg State.deck h :)
theorem lane_of_keepGroups (h : keepGroups s = keepGroups t) : s.lane = t.lane := (congrArg State.lane h :)
theorem run_of_keepGroups (h : keepGroups s = keepGroups t) : s.run = t.run := (congrArg State.run h :)
theorem time_of_keepGroups (h : keepGroups s = keepGroups t) : s.time = t.time := (congrArg State.time h :)
theorem urgency_of_keepGroups (h : keepGroups s = keepGroups t) : s.urgency = t.urgency := (congrArg State.urgency h :)
theorem dir_of_keepGroups (h : keepGroups s = keepGroups t) : s.dir = t.dir := (congrArg State.dir h :)
theorem table_of_keepGroups (h : keepGroups s = keepGroups t) : s.table = t.table := (congrArg State.table h :)
theorem store_of_keepGroups (h : keepGroups s = keepGroups t) : s.store = t.store := (congrArg State.store h :)
theorem dep_of_keepGroups (h : keepGroups s = keepGroups t) : s.dep = t.dep := (congrArg State.dep h :)
theorem pending_of_keepGroups (h : keepGroups s = keepGroups t) : s.pending = t.pending := (congrArg State.pending h :)

theorem pins_of_keepTable (h : keepTable s = keepTable t) : s.pins = t.pins := (congrArg State.pins h :)
theorem straps_of_keepTable (h : keepTable s = keepTable t) : s.straps = t.straps := (congrArg State.straps h :)
theorem port_of_keepTable (h : keepTable s = keepTable t) : s.port = t.port := (congrArg State.port h :)
theorem docking_of_keepTable (h : keepTable s = keepTable t) : s.docking = t.docking := (congrArg State.docking h :)
theorem deck_of_keepTable (h : keepTable s = keepTable t) : s.deck = t.deck := (congrArg State.deck h :)
theorem lane_of_keepTable (h : keepTable s = keepTable t) : s.lane = t.lane := (congrArg State.lane h :)
theorem run_of_keepTable (h : keepTable s = keepTable t) : s.run = t.run := (congrArg State.run h :)
theorem time_of_keepTable (h : keepTable s = keepTable t) : s.time = t.time := (congrArg State.time h :)
theorem urgency_of_keepTable (h : keepTable s = keepTable t) : s.urgency = t.urgency := (congrArg State.urgency h :)
theorem dir_of_keepTable (h : keepTable s = keepTable t) : s.dir = t.dir := (congrArg State.dir h :)
theorem store_of_keepTable (h : keepTable s = keepTable t) : s.store = t.store := (congrArg State.store h :)
theorem dep_of_keepTable (h : keepTable s = keepTable t) : s.dep = t.dep := (congrArg State.dep h :)
theorem pending_of_keepTable (h : keepTable s = keepTable t) : s.pending = t.pending := (congrArg State.pending h :)

theorem pins_of_keepSettle (h : keepSettle s = keepSettle t) : s.pins = t.pins := (congrArg State.pins h :)
theorem straps_of_keepSettle (h : keepSettle s = keepSettle t) : s.straps = t.straps := (congrArg State.straps h :)
theorem port_of_keepSettle (h : keepSettle s = keepSettle t) : s.port = t.port := (congrArg State.port h :)
theorem docking_of_keepSettle (h : keepSettle s = keepSettle t) : s.docking = t.docking := (congrArg State.docking h :)
theorem deck_of_keepSettle (h : keepSettle s = keepSettle t) : s.deck = t.deck := (congrArg State.deck h :)
theorem lane_of_keepSettle (h : keepSettle s = keepSettle t) : s.lane = t.lane := (congrArg State.lane h :)
theorem run_of_keepSettle (h : keepSettle s = keepSettle t) : s.run = t.run := (congrArg State.run h :)
theorem time_of_keepSettle (h : keepSettle s = keepSettle t) : s.time = t.time := (congrArg State.time h :)
theorem urgency_of_keepSettle (h : keepSettle s = keepSettle t) : s.urgency = t.urgency := (congrArg State.urgency h :)
theorem table_of_keepSettle (h : keepSettle s = keepSettle t) : s.table = t.table := (congrArg State.table h :)
theorem asm_of_keepSettle (h : keepSettle s = keepSettle t) : s.asm = t.asm := (congrArg State.asm h :)
theorem store_of_keepSettle (h : keepSettle s = keepSettle t) : s.store = t.store := (congrArg State.store h :)
theorem pending_of_keepSettle (h : keepSettle s = keepSettle t) : s.pending = t.pending := (congrArg State.pending h :)

theorem pins_of_keepClosing (h : keepClosing s = keepClosing t) : s.pins = t.pins := (congrArg State.pins h :)
theorem straps_of_keepClosing (h : keepClosing s = keepClosing t) : s.straps = t.straps := (congrArg State.straps h :)
theorem port_of_keepClosing (h : keepClosing s = keepClosing t) : s.port = t.port := (congrArg State.port h :)
theorem docking_of_keepClosing (h : keepClosing s = keepClosing t) : s.docking = t.docking := (congrArg State.docking h :)
theorem deck_of_keepClosing (h : keepClosing s = keepClosing t) : s.deck = t.deck := (congrArg State.deck h :)
theorem lane_of_keepClosing (h : keepClosing s = keepClosing t) : s.lane = t.lane := (congrArg State.lane h :)
theorem run_of_keepClosing (h : keepClosing s = keepClosing t) : s.run = t.run := (congrArg State.run h :)
theorem time_of_keepClosing (h : keepClosing s = keepClosing t) : s.time = t.time := (congrArg State.time h :)
theorem urgency_of_keepClosing (h : keepClosing s = keepClosing t) : s.urgency = t.urgency := (congrArg State.urgency h :)
theorem table_of_keepClosing (h : keepClosing s = keepClosing t) : s.table = t.table := (congrArg State.table h :)
theorem asm_of_keepClosing (h : keepClosing s = keepClosing t) : s.asm = t.asm := (congrArg State.asm h :)
theorem pending_of_keepClosing (h : keepClosing s = keepClosing t) : s.pending = t.pending := (congrArg State.pending h :)

theorem pins_of_keepMinutes (h : keepMinutes s = keepMinutes t) : s.pins = t.pins := (congrArg State.pins h :)
theorem straps_of_keepMinutes (h : keepMinutes s = keepMinutes t) : s.straps = t.straps := (congrArg State.straps h :)
theorem port_of_keepMinutes (h : keepMinutes s = keepMinutes t) : s.port = t.port := (congrArg State.port h :)
theorem docking_of_keepMinutes (h : keepMinutes s = keepMinutes t) : s.docking = t.docking := (congrArg State.docking h :)
theorem deck_of_keepMinutes (h : keepMinutes s = keepMinutes t) : s.deck = t.deck := (congrArg State.deck h :)
theorem lane_of_keepMinutes (h : keepMinutes s = keepMinutes t) : s.lane = t.lane := (congrArg State.lane h :)
theorem run_of_keepMinutes (h : keepMinutes s = keepMinutes t) : s.run = t.run := (congrArg State.run h :)
theorem table_of_keepMinutes (h : keepMinutes s = keepMinutes t) : s.table = t.table := (congrArg State.table h :)
theorem asm_of_keepMinutes (h : keepMinutes s = keepMinutes t) : s.asm = t.asm := (congrArg State.asm h :)
theorem pending_of_keepMinutes (h : keepMinutes s = keepMinutes t) : s.pending = t.pending := (congrArg State.pending h :)

theorem pins_of_keepReconcile (h : keepReconcile s = keepReconcile t) : s.pins = t.pins := (congrArg State.pins h :)
theorem straps_of_keepReconcile (h : keepReconcile s = keepReconcile t) : s.straps = t.straps := (congrArg State.straps h :)
theorem port_of_keepReconcile (h : keepReconcile s = keepReconcile t) : s.port = t.port := (congrArg State.port h :)
theorem notes_of_keepReconcile (h : keepReconcile s = keepReconcile t) : s.notes = t.notes := (congrArg State.notes h :)
theorem docking_of_keepReconcile (h : keepReconcile s = keepReconcile t) : s.docking = t.docking := (congrArg State.docking h :)
theorem run_of_keepReconcile (h : keepReconcile s = keepReconcile t) : s.run = t.run := (congrArg State.run h :)
theorem time_of_keepReconcile (h : keepReconcile s = keepReconcile t) : s.time = t.time := (congrArg State.time h :)
theorem urgency_of_keepReconcile (h : keepReconcile s = keepReconcile t) : s.urgency = t.urgency := (congrArg State.urgency h :)
theorem table_of_keepReconcile (h : keepReconcile s = keepReconcile t) : s.table = t.table := (congrArg State.table h :)
theorem asm_of_keepReconcile (h : keepReconcile s = keepReconcile t) : s.asm = t.asm := (congrArg State.asm h :)
theorem dep_of_keepReconcile (h : keepReconcile s = keepReconcile t) : s.dep = t.dep := (congrArg State.dep h :)
theorem pending_of_keepReconcile (h : keepReconcile s = keepReconcile t) : s.pending = t.pending := (congrArg State.pending h :)

variable (s : State)

/-! ## raise -/

@[simp] theorem raise_pins (k : NoticeKind) (a b : Nat) : (raise k a b s).pins = s.pins := pins_of_keepNotes (raise_keep k a b s)
@[simp] theorem raise_straps (k : NoticeKind) (a b : Nat) : (raise k a b s).straps = s.straps := straps_of_keepNotes (raise_keep k a b s)
@[simp] theorem raise_port (k : NoticeKind) (a b : Nat) : (raise k a b s).port = s.port := port_of_keepNotes (raise_keep k a b s)
@[simp] theorem raise_docking (k : NoticeKind) (a b : Nat) : (raise k a b s).docking = s.docking := docking_of_keepNotes (raise_keep k a b s)
@[simp] theorem raise_deck (k : NoticeKind) (a b : Nat) : (raise k a b s).deck = s.deck := deck_of_keepNotes (raise_keep k a b s)
@[simp] theorem raise_lane (k : NoticeKind) (a b : Nat) : (raise k a b s).lane = s.lane := lane_of_keepNotes (raise_keep k a b s)
@[simp] theorem raise_run (k : NoticeKind) (a b : Nat) : (raise k a b s).run = s.run := run_of_keepNotes (raise_keep k a b s)
@[simp] theorem raise_time (k : NoticeKind) (a b : Nat) : (raise k a b s).time = s.time := time_of_keepNotes (raise_keep k a b s)
@[simp] theorem raise_urgency (k : NoticeKind) (a b : Nat) : (raise k a b s).urgency = s.urgency := urgency_of_keepNotes (raise_keep k a b s)
@[simp] theorem raise_link (k : NoticeKind) (a b : Nat) : (raise k a b s).link = s.link := link_of_keepNotes (raise_keep k a b s)
@[simp] theorem raise_dir (k : NoticeKind) (a b : Nat) : (raise k a b s).dir = s.dir := dir_of_keepNotes (raise_keep k a b s)
@[simp] theorem raise_table (k : NoticeKind) (a b : Nat) : (raise k a b s).table = s.table := table_of_keepNotes (raise_keep k a b s)
@[simp] theorem raise_asm (k : NoticeKind) (a b : Nat) : (raise k a b s).asm = s.asm := asm_of_keepNotes (raise_keep k a b s)
@[simp] theorem raise_store (k : NoticeKind) (a b : Nat) : (raise k a b s).store = s.store := store_of_keepNotes (raise_keep k a b s)
@[simp] theorem raise_dep (k : NoticeKind) (a b : Nat) : (raise k a b s).dep = s.dep := dep_of_keepNotes (raise_keep k a b s)
@[simp] theorem raise_pending (k : NoticeKind) (a b : Nat) : (raise k a b s).pending = s.pending := pending_of_keepNotes (raise_keep k a b s)

/-! ## handOrDrop -/

@[simp] theorem handOrDrop_pins (b : Body) : (handOrDrop b s).pins = s.pins := pins_of_keepQueue (handOrDrop_keep b s)
@[simp] theorem handOrDrop_straps (b : Body) : (handOrDrop b s).straps = s.straps := straps_of_keepQueue (handOrDrop_keep b s)
@[simp] theorem handOrDrop_port (b : Body) : (handOrDrop b s).port = s.port := port_of_keepQueue (handOrDrop_keep b s)
@[simp] theorem handOrDrop_notes (b : Body) : (handOrDrop b s).notes = s.notes := notes_of_keepQueue (handOrDrop_keep b s)
@[simp] theorem handOrDrop_docking (b : Body) : (handOrDrop b s).docking = s.docking := docking_of_keepQueue (handOrDrop_keep b s)
@[simp] theorem handOrDrop_deck (b : Body) : (handOrDrop b s).deck = s.deck := deck_of_keepQueue (handOrDrop_keep b s)
@[simp] theorem handOrDrop_lane (b : Body) : (handOrDrop b s).lane = s.lane := lane_of_keepQueue (handOrDrop_keep b s)
@[simp] theorem handOrDrop_run (b : Body) : (handOrDrop b s).run = s.run := run_of_keepQueue (handOrDrop_keep b s)
@[simp] theorem handOrDrop_time (b : Body) : (handOrDrop b s).time = s.time := time_of_keepQueue (handOrDrop_keep b s)
@[simp] theorem handOrDrop_urgency (b : Body) : (handOrDrop b s).urgency = s.urgency := urgency_of_keepQueue (handOrDrop_keep b s)
@[simp] theorem handOrDrop_dir (b : Body) : (handOrDrop b s).dir = s.dir := dir_of_keepQueue (handOrDrop_keep b s)
@[simp] theorem handOrDrop_table (b : Body) : (handOrDrop b s).table = s.table := table_of_keepQueue (handOrDrop_keep b s)
@[simp] theorem handOrDrop_asm (b : Body) : (handOrDrop b s).asm = s.asm := asm_of_keepQueue (handOrDrop_keep b s)
@[simp] theorem handOrDrop_store (b : Body) : (handOrDrop b s).store = s.store := store_of_keepQueue (handOrDrop_keep b s)
@[simp] theorem handOrDrop_dep (b : Body) : (handOrDrop b s).dep = s.dep := dep_of_keepQueue (handOrDrop_keep b s)
@[simp] theorem handOrDrop_pending (b : Body) : (handOrDrop b s).pending = s.pending := pending_of_keepQueue (handOrDrop_keep b s)

/-! ## beaconedChange -/

@[simp] theorem beaconedChange_pins : (beaconedChange s).pins = s.pins := pins_of_keepBeacon (beaconedChange_keep s)
@[simp] theorem beaconedChange_straps : (beaconedChange s).straps = s.straps := straps_of_keepBeacon (beaconedChange_keep s)
@[simp] theorem beaconedChange_port : (beaconedChange s).port = s.port := port_of_keepBeacon (beaconedChange_keep s)
@[simp] theorem beaconedChange_notes : (beaconedChange s).notes = s.notes := notes_of_keepBeacon (beaconedChange_keep s)
@[simp] theorem beaconedChange_docking : (beaconedChange s).docking = s.docking := docking_of_keepBeacon (beaconedChange_keep s)
@[simp] theorem beaconedChange_deck : (beaconedChange s).deck = s.deck := deck_of_keepBeacon (beaconedChange_keep s)
@[simp] theorem beaconedChange_lane : (beaconedChange s).lane = s.lane := lane_of_keepBeacon (beaconedChange_keep s)
@[simp] theorem beaconedChange_run : (beaconedChange s).run = s.run := run_of_keepBeacon (beaconedChange_keep s)
@[simp] theorem beaconedChange_time : (beaconedChange s).time = s.time := time_of_keepBeacon (beaconedChange_keep s)
@[simp] theorem beaconedChange_urgency : (beaconedChange s).urgency = s.urgency := urgency_of_keepBeacon (beaconedChange_keep s)
@[simp] theorem beaconedChange_table : (beaconedChange s).table = s.table := table_of_keepBeacon (beaconedChange_keep s)
@[simp] theorem beaconedChange_asm : (beaconedChange s).asm = s.asm := asm_of_keepBeacon (beaconedChange_keep s)
@[simp] theorem beaconedChange_store : (beaconedChange s).store = s.store := store_of_keepBeacon (beaconedChange_keep s)
@[simp] theorem beaconedChange_dep : (beaconedChange s).dep = s.dep := dep_of_keepBeacon (beaconedChange_keep s)
@[simp] theorem beaconedChange_pending : (beaconedChange s).pending = s.pending := pending_of_keepBeacon (beaconedChange_keep s)

/-! ## announce -/

@[simp] theorem announce_pins (a : State) : (announce a s).pins = s.pins := pins_of_keepBeacon (announce_keep a s)
@[simp] theorem announce_straps (a : State) : (announce a s).straps = s.straps := straps_of_keepBeacon (announce_keep a s)
@[simp] theorem announce_port (a : State) : (announce a s).port = s.port := port_of_keepBeacon (announce_keep a s)
@[simp] theorem announce_notes (a : State) : (announce a s).notes = s.notes := notes_of_keepBeacon (announce_keep a s)
@[simp] theorem announce_docking (a : State) : (announce a s).docking = s.docking := docking_of_keepBeacon (announce_keep a s)
@[simp] theorem announce_deck (a : State) : (announce a s).deck = s.deck := deck_of_keepBeacon (announce_keep a s)
@[simp] theorem announce_lane (a : State) : (announce a s).lane = s.lane := lane_of_keepBeacon (announce_keep a s)
@[simp] theorem announce_run (a : State) : (announce a s).run = s.run := run_of_keepBeacon (announce_keep a s)
@[simp] theorem announce_time (a : State) : (announce a s).time = s.time := time_of_keepBeacon (announce_keep a s)
@[simp] theorem announce_urgency (a : State) : (announce a s).urgency = s.urgency := urgency_of_keepBeacon (announce_keep a s)
@[simp] theorem announce_table (a : State) : (announce a s).table = s.table := table_of_keepBeacon (announce_keep a s)
@[simp] theorem announce_asm (a : State) : (announce a s).asm = s.asm := asm_of_keepBeacon (announce_keep a s)
@[simp] theorem announce_store (a : State) : (announce a s).store = s.store := store_of_keepBeacon (announce_keep a s)
@[simp] theorem announce_dep (a : State) : (announce a s).dep = s.dep := dep_of_keepBeacon (announce_keep a s)
@[simp] theorem announce_pending (a : State) : (announce a s).pending = s.pending := pending_of_keepBeacon (announce_keep a s)

/-! ## handFree -/

@[simp] theorem handFree_pins : (handFree s).pins = s.pins := pins_of_keepBeacon (handFree_keep s)
@[simp] theorem handFree_straps : (handFree s).straps = s.straps := straps_of_keepBeacon (handFree_keep s)
@[simp] theorem handFree_port : (handFree s).port = s.port := port_of_keepBeacon (handFree_keep s)
@[simp] theorem handFree_notes : (handFree s).notes = s.notes := notes_of_keepBeacon (handFree_keep s)
@[simp] theorem handFree_docking : (handFree s).docking = s.docking := docking_of_keepBeacon (handFree_keep s)
@[simp] theorem handFree_deck : (handFree s).deck = s.deck := deck_of_keepBeacon (handFree_keep s)
@[simp] theorem handFree_lane : (handFree s).lane = s.lane := lane_of_keepBeacon (handFree_keep s)
@[simp] theorem handFree_run : (handFree s).run = s.run := run_of_keepBeacon (handFree_keep s)
@[simp] theorem handFree_time : (handFree s).time = s.time := time_of_keepBeacon (handFree_keep s)
@[simp] theorem handFree_urgency : (handFree s).urgency = s.urgency := urgency_of_keepBeacon (handFree_keep s)
@[simp] theorem handFree_table : (handFree s).table = s.table := table_of_keepBeacon (handFree_keep s)
@[simp] theorem handFree_asm : (handFree s).asm = s.asm := asm_of_keepBeacon (handFree_keep s)
@[simp] theorem handFree_store : (handFree s).store = s.store := store_of_keepBeacon (handFree_keep s)
@[simp] theorem handFree_dep : (handFree s).dep = s.dep := dep_of_keepBeacon (handFree_keep s)
@[simp] theorem handFree_pending : (handFree s).pending = s.pending := pending_of_keepBeacon (handFree_keep s)

/-! ## recomputeUrgency -/

@[simp] theorem recomputeUrgency_pins : (recomputeUrgency s).pins = s.pins := pins_of_keepUrgency (recomputeUrgency_field s)
@[simp] theorem recomputeUrgency_straps : (recomputeUrgency s).straps = s.straps := straps_of_keepUrgency (recomputeUrgency_field s)
@[simp] theorem recomputeUrgency_port : (recomputeUrgency s).port = s.port := port_of_keepUrgency (recomputeUrgency_field s)
@[simp] theorem recomputeUrgency_notes : (recomputeUrgency s).notes = s.notes := notes_of_keepUrgency (recomputeUrgency_field s)
@[simp] theorem recomputeUrgency_docking : (recomputeUrgency s).docking = s.docking := docking_of_keepUrgency (recomputeUrgency_field s)
@[simp] theorem recomputeUrgency_deck : (recomputeUrgency s).deck = s.deck := deck_of_keepUrgency (recomputeUrgency_field s)
@[simp] theorem recomputeUrgency_lane : (recomputeUrgency s).lane = s.lane := lane_of_keepUrgency (recomputeUrgency_field s)
@[simp] theorem recomputeUrgency_run : (recomputeUrgency s).run = s.run := run_of_keepUrgency (recomputeUrgency_field s)
@[simp] theorem recomputeUrgency_time : (recomputeUrgency s).time = s.time := time_of_keepUrgency (recomputeUrgency_field s)
@[simp] theorem recomputeUrgency_table : (recomputeUrgency s).table = s.table := table_of_keepUrgency (recomputeUrgency_field s)
@[simp] theorem recomputeUrgency_asm : (recomputeUrgency s).asm = s.asm := asm_of_keepUrgency (recomputeUrgency_field s)
@[simp] theorem recomputeUrgency_store : (recomputeUrgency s).store = s.store := store_of_keepUrgency (recomputeUrgency_field s)
@[simp] theorem recomputeUrgency_dep : (recomputeUrgency s).dep = s.dep := dep_of_keepUrgency (recomputeUrgency_field s)
@[simp] theorem recomputeUrgency_pending : (recomputeUrgency s).pending = s.pending := pending_of_keepUrgency (recomputeUrgency_field s)

/-! ## leaveGroups -/

@[simp] theorem leaveGroups_pins (l : Nat) : (leaveGroups l s).pins = s.pins := pins_of_keepAsm (leaveGroups_keep l s)
@[simp] theorem leaveGroups_straps (l : Nat) : (leaveGroups l s).straps = s.straps := straps_of_keepAsm (leaveGroups_keep l s)
@[simp] theorem leaveGroups_port (l : Nat) : (leaveGroups l s).port = s.port := port_of_keepAsm (leaveGroups_keep l s)
@[simp] theorem leaveGroups_notes (l : Nat) : (leaveGroups l s).notes = s.notes := notes_of_keepAsm (leaveGroups_keep l s)
@[simp] theorem leaveGroups_docking (l : Nat) : (leaveGroups l s).docking = s.docking := docking_of_keepAsm (leaveGroups_keep l s)
@[simp] theorem leaveGroups_deck (l : Nat) : (leaveGroups l s).deck = s.deck := deck_of_keepAsm (leaveGroups_keep l s)
@[simp] theorem leaveGroups_lane (l : Nat) : (leaveGroups l s).lane = s.lane := lane_of_keepAsm (leaveGroups_keep l s)
@[simp] theorem leaveGroups_run (l : Nat) : (leaveGroups l s).run = s.run := run_of_keepAsm (leaveGroups_keep l s)
@[simp] theorem leaveGroups_time (l : Nat) : (leaveGroups l s).time = s.time := time_of_keepAsm (leaveGroups_keep l s)
@[simp] theorem leaveGroups_urgency (l : Nat) : (leaveGroups l s).urgency = s.urgency := urgency_of_keepAsm (leaveGroups_keep l s)
@[simp] theorem leaveGroups_link (l : Nat) : (leaveGroups l s).link = s.link := link_of_keepAsm (leaveGroups_keep l s)
@[simp] theorem leaveGroups_dir (l : Nat) : (leaveGroups l s).dir = s.dir := dir_of_keepAsm (leaveGroups_keep l s)
@[simp] theorem leaveGroups_table (l : Nat) : (leaveGroups l s).table = s.table := table_of_keepAsm (leaveGroups_keep l s)
@[simp] theorem leaveGroups_store (l : Nat) : (leaveGroups l s).store = s.store := store_of_keepAsm (leaveGroups_keep l s)
@[simp] theorem leaveGroups_dep (l : Nat) : (leaveGroups l s).dep = s.dep := dep_of_keepAsm (leaveGroups_keep l s)
@[simp] theorem leaveGroups_pending (l : Nat) : (leaveGroups l s).pending = s.pending := pending_of_keepAsm (leaveGroups_keep l s)

/-! ## joinGroup -/

@[simp] theorem joinGroup_pins (l n : Nat) : (joinGroup l n s).pins = s.pins := pins_of_keepAsm (joinGroup_keep l n s)
@[simp] theorem joinGroup_straps (l n : Nat) : (joinGroup l n s).straps = s.straps := straps_of_keepAsm (joinGroup_keep l n s)
@[simp] theorem joinGroup_port (l n : Nat) : (joinGroup l n s).port = s.port := port_of_keepAsm (joinGroup_keep l n s)
@[simp] theorem joinGroup_notes (l n : Nat) : (joinGroup l n s).notes = s.notes := notes_of_keepAsm (joinGroup_keep l n s)
@[simp] theorem joinGroup_docking (l n : Nat) : (joinGroup l n s).docking = s.docking := docking_of_keepAsm (joinGroup_keep l n s)
@[simp] theorem joinGroup_deck (l n : Nat) : (joinGroup l n s).deck = s.deck := deck_of_keepAsm (joinGroup_keep l n s)
@[simp] theorem joinGroup_lane (l n : Nat) : (joinGroup l n s).lane = s.lane := lane_of_keepAsm (joinGroup_keep l n s)
@[simp] theorem joinGroup_run (l n : Nat) : (joinGroup l n s).run = s.run := run_of_keepAsm (joinGroup_keep l n s)
@[simp] theorem joinGroup_time (l n : Nat) : (joinGroup l n s).time = s.time := time_of_keepAsm (joinGroup_keep l n s)
@[simp] theorem joinGroup_urgency (l n : Nat) : (joinGroup l n s).urgency = s.urgency := urgency_of_keepAsm (joinGroup_keep l n s)
@[simp] theorem joinGroup_link (l n : Nat) : (joinGroup l n s).link = s.link := link_of_keepAsm (joinGroup_keep l n s)
@[simp] theorem joinGroup_dir (l n : Nat) : (joinGroup l n s).dir = s.dir := dir_of_keepAsm (joinGroup_keep l n s)
@[simp] theorem joinGroup_table (l n : Nat) : (joinGroup l n s).table = s.table := table_of_keepAsm (joinGroup_keep l n s)
@[simp] theorem joinGroup_store (l n : Nat) : (joinGroup l n s).store = s.store := store_of_keepAsm (joinGroup_keep l n s)
@[simp] theorem joinGroup_dep (l n : Nat) : (joinGroup l n s).dep = s.dep := dep_of_keepAsm (joinGroup_keep l n s)
@[simp] theorem joinGroup_pending (l n : Nat) : (joinGroup l n s).pending = s.pending := pending_of_keepAsm (joinGroup_keep l n s)

/-! ## serveWaiting -/

@[simp] theorem serveWaiting_pins : (serveWaiting s).pins = s.pins := pins_of_keepAsm (serveWaiting_keep s)
@[simp] theorem serveWaiting_straps : (serveWaiting s).straps = s.straps := straps_of_keepAsm (serveWaiting_keep s)
@[simp] theorem serveWaiting_port : (serveWaiting s).port = s.port := port_of_keepAsm (serveWaiting_keep s)
@[simp] theorem serveWaiting_notes : (serveWaiting s).notes = s.notes := notes_of_keepAsm (serveWaiting_keep s)
@[simp] theorem serveWaiting_docking : (serveWaiting s).docking = s.docking := docking_of_keepAsm (serveWaiting_keep s)
@[simp] theorem serveWaiting_deck : (serveWaiting s).deck = s.deck := deck_of_keepAsm (serveWaiting_keep s)
@[simp] theorem serveWaiting_lane : (serveWaiting s).lane = s.lane := lane_of_keepAsm (serveWaiting_keep s)
@[simp] theorem serveWaiting_run : (serveWaiting s).run = s.run := run_of_keepAsm (serveWaiting_keep s)
@[simp] theorem serveWaiting_time : (serveWaiting s).time = s.time := time_of_keepAsm (serveWaiting_keep s)
@[simp] theorem serveWaiting_urgency : (serveWaiting s).urgency = s.urgency := urgency_of_keepAsm (serveWaiting_keep s)
@[simp] theorem serveWaiting_link : (serveWaiting s).link = s.link := link_of_keepAsm (serveWaiting_keep s)
@[simp] theorem serveWaiting_dir : (serveWaiting s).dir = s.dir := dir_of_keepAsm (serveWaiting_keep s)
@[simp] theorem serveWaiting_table : (serveWaiting s).table = s.table := table_of_keepAsm (serveWaiting_keep s)
@[simp] theorem serveWaiting_store : (serveWaiting s).store = s.store := store_of_keepAsm (serveWaiting_keep s)
@[simp] theorem serveWaiting_dep : (serveWaiting s).dep = s.dep := dep_of_keepAsm (serveWaiting_keep s)
@[simp] theorem serveWaiting_pending : (serveWaiting s).pending = s.pending := pending_of_keepAsm (serveWaiting_keep s)

/-! ## restartGroups -/

@[simp] theorem restartGroups_pins : (restartGroups s).pins = s.pins := pins_of_keepAsm (restartGroups_keep s)
@[simp] theorem restartGroups_straps : (restartGroups s).straps = s.straps := straps_of_keepAsm (restartGroups_keep s)
@[simp] theorem restartGroups_port : (restartGroups s).port = s.port := port_of_keepAsm (restartGroups_keep s)
@[simp] theorem restartGroups_notes : (restartGroups s).notes = s.notes := notes_of_keepAsm (restartGroups_keep s)
@[simp] theorem restartGroups_docking : (restartGroups s).docking = s.docking := docking_of_keepAsm (restartGroups_keep s)
@[simp] theorem restartGroups_deck : (restartGroups s).deck = s.deck := deck_of_keepAsm (restartGroups_keep s)
@[simp] theorem restartGroups_lane : (restartGroups s).lane = s.lane := lane_of_keepAsm (restartGroups_keep s)
@[simp] theorem restartGroups_run : (restartGroups s).run = s.run := run_of_keepAsm (restartGroups_keep s)
@[simp] theorem restartGroups_time : (restartGroups s).time = s.time := time_of_keepAsm (restartGroups_keep s)
@[simp] theorem restartGroups_urgency : (restartGroups s).urgency = s.urgency := urgency_of_keepAsm (restartGroups_keep s)
@[simp] theorem restartGroups_link : (restartGroups s).link = s.link := link_of_keepAsm (restartGroups_keep s)
@[simp] theorem restartGroups_dir : (restartGroups s).dir = s.dir := dir_of_keepAsm (restartGroups_keep s)
@[simp] theorem restartGroups_table : (restartGroups s).table = s.table := table_of_keepAsm (restartGroups_keep s)
@[simp] theorem restartGroups_store : (restartGroups s).store = s.store := store_of_keepAsm (restartGroups_keep s)
@[simp] theorem restartGroups_dep : (restartGroups s).dep = s.dep := dep_of_keepAsm (restartGroups_keep s)
@[simp] theorem restartGroups_pending : (restartGroups s).pending = s.pending := pending_of_keepAsm (restartGroups_keep s)

/-! ## buildReady -/

@[simp] theorem buildReady_pins : (buildReady s).pins = s.pins := pins_of_keepGroups (buildReady_keep s)
@[simp] theorem buildReady_straps : (buildReady s).straps = s.straps := straps_of_keepGroups (buildReady_keep s)
@[simp] theorem buildReady_port : (buildReady s).port = s.port := port_of_keepGroups (buildReady_keep s)
@[simp] theorem buildReady_notes : (buildReady s).notes = s.notes := notes_of_keepGroups (buildReady_keep s)
@[simp] theorem buildReady_docking : (buildReady s).docking = s.docking := docking_of_keepGroups (buildReady_keep s)
@[simp] theorem buildReady_deck : (buildReady s).deck = s.deck := deck_of_keepGroups (buildReady_keep s)
@[simp] theorem buildReady_lane : (buildReady s).lane = s.lane := lane_of_keepGroups (buildReady_keep s)
@[simp] theorem buildReady_run : (buildReady s).run = s.run := run_of_keepGroups (buildReady_keep s)
@[simp] theorem buildReady_time : (buildReady s).time = s.time := time_of_keepGroups (buildReady_keep s)
@[simp] theorem buildReady_urgency : (buildReady s).urgency = s.urgency := urgency_of_keepGroups (buildReady_keep s)
@[simp] theorem buildReady_dir : (buildReady s).dir = s.dir := dir_of_keepGroups (buildReady_keep s)
@[simp] theorem buildReady_table : (buildReady s).table = s.table := table_of_keepGroups (buildReady_keep s)
@[simp] theorem buildReady_store : (buildReady s).store = s.store := store_of_keepGroups (buildReady_keep s)
@[simp] theorem buildReady_dep : (buildReady s).dep = s.dep := dep_of_keepGroups (buildReady_keep s)
@[simp] theorem buildReady_pending : (buildReady s).pending = s.pending := pending_of_keepGroups (buildReady_keep s)

/-! ## tidyGroups -/

@[simp] theorem tidyGroups_pins : (tidyGroups s).pins = s.pins := pins_of_keepGroups (tidyGroups_keep s)
@[simp] theorem tidyGroups_straps : (tidyGroups s).straps = s.straps := straps_of_keepGroups (tidyGroups_keep s)
@[simp] theorem tidyGroups_port : (tidyGroups s).port = s.port := port_of_keepGroups (tidyGroups_keep s)
@[simp] theorem tidyGroups_notes : (tidyGroups s).notes = s.notes := notes_of_keepGroups (tidyGroups_keep s)
@[simp] theorem tidyGroups_docking : (tidyGroups s).docking = s.docking := docking_of_keepGroups (tidyGroups_keep s)
@[simp] theorem tidyGroups_deck : (tidyGroups s).deck = s.deck := deck_of_keepGroups (tidyGroups_keep s)
@[simp] theorem tidyGroups_lane : (tidyGroups s).lane = s.lane := lane_of_keepGroups (tidyGroups_keep s)
@[simp] theorem tidyGroups_run : (tidyGroups s).run = s.run := run_of_keepGroups (tidyGroups_keep s)
@[simp] theorem tidyGroups_time : (tidyGroups s).time = s.time := time_of_keepGroups (tidyGroups_keep s)
@[simp] theorem tidyGroups_urgency : (tidyGroups s).urgency = s.urgency := urgency_of_keepGroups (tidyGroups_keep s)
@[simp] theorem tidyGroups_dir : (tidyGroups s).dir = s.dir := dir_of_keepGroups (tidyGroups_keep s)
@[simp] theorem tidyGroups_table : (tidyGroups s).table = s.table := table_of_keepGroups (tidyGroups_keep s)
@[simp] theorem tidyGroups_store : (tidyGroups s).store = s.store := store_of_keepGroups (tidyGroups_keep s)
@[simp] theorem tidyGroups_dep : (tidyGroups s).dep = s.dep := dep_of_keepGroups (tidyGroups_keep s)
@[simp] theorem tidyGroups_pending : (tidyGroups s).pending = s.pending := pending_of_keepGroups (tidyGroups_keep s)

/-! ## releasePending -/

@[simp] theorem releasePending_pins : (releasePending s).pins = s.pins := pins_of_keepGroups (releasePending_keep s)
@[simp] theorem releasePending_straps : (releasePending s).straps = s.straps := straps_of_keepGroups (releasePending_keep s)
@[simp] theorem releasePending_port : (releasePending s).port = s.port := port_of_keepGroups (releasePending_keep s)
@[simp] theorem releasePending_notes : (releasePending s).notes = s.notes := notes_of_keepGroups (releasePending_keep s)
@[simp] theorem releasePending_docking : (releasePending s).docking = s.docking := docking_of_keepGroups (releasePending_keep s)
@[simp] theorem releasePending_deck : (releasePending s).deck = s.deck := deck_of_keepGroups (releasePending_keep s)
@[simp] theorem releasePending_lane : (releasePending s).lane = s.lane := lane_of_keepGroups (releasePending_keep s)
@[simp] theorem releasePending_run : (releasePending s).run = s.run := run_of_keepGroups (releasePending_keep s)
@[simp] theorem releasePending_time : (releasePending s).time = s.time := time_of_keepGroups (releasePending_keep s)
@[simp] theorem releasePending_urgency : (releasePending s).urgency = s.urgency := urgency_of_keepGroups (releasePending_keep s)
@[simp] theorem releasePending_dir : (releasePending s).dir = s.dir := dir_of_keepGroups (releasePending_keep s)
@[simp] theorem releasePending_table : (releasePending s).table = s.table := table_of_keepGroups (releasePending_keep s)
@[simp] theorem releasePending_store : (releasePending s).store = s.store := store_of_keepGroups (releasePending_keep s)
@[simp] theorem releasePending_dep : (releasePending s).dep = s.dep := dep_of_keepGroups (releasePending_keep s)
@[simp] theorem releasePending_pending : (releasePending s).pending = s.pending := pending_of_keepGroups (releasePending_keep s)

/-! ## endRunGroups -/

@[simp] theorem endRunGroups_pins : (endRunGroups s).pins = s.pins := pins_of_keepGroups (endRunGroups_keep s)
@[simp] theorem endRunGroups_straps : (endRunGroups s).straps = s.straps := straps_of_keepGroups (endRunGroups_keep s)
@[simp] theorem endRunGroups_port : (endRunGroups s).port = s.port := port_of_keepGroups (endRunGroups_keep s)
@[simp] theorem endRunGroups_notes : (endRunGroups s).notes = s.notes := notes_of_keepGroups (endRunGroups_keep s)
@[simp] theorem endRunGroups_docking : (endRunGroups s).docking = s.docking := docking_of_keepGroups (endRunGroups_keep s)
@[simp] theorem endRunGroups_deck : (endRunGroups s).deck = s.deck := deck_of_keepGroups (endRunGroups_keep s)
@[simp] theorem endRunGroups_lane : (endRunGroups s).lane = s.lane := lane_of_keepGroups (endRunGroups_keep s)
@[simp] theorem endRunGroups_run : (endRunGroups s).run = s.run := run_of_keepGroups (endRunGroups_keep s)
@[simp] theorem endRunGroups_time : (endRunGroups s).time = s.time := time_of_keepGroups (endRunGroups_keep s)
@[simp] theorem endRunGroups_urgency : (endRunGroups s).urgency = s.urgency := urgency_of_keepGroups (endRunGroups_keep s)
@[simp] theorem endRunGroups_dir : (endRunGroups s).dir = s.dir := dir_of_keepGroups (endRunGroups_keep s)
@[simp] theorem endRunGroups_table : (endRunGroups s).table = s.table := table_of_keepGroups (endRunGroups_keep s)
@[simp] theorem endRunGroups_store : (endRunGroups s).store = s.store := store_of_keepGroups (endRunGroups_keep s)
@[simp] theorem endRunGroups_dep : (endRunGroups s).dep = s.dep := dep_of_keepGroups (endRunGroups_keep s)
@[simp] theorem endRunGroups_pending : (endRunGroups s).pending = s.pending := pending_of_keepGroups (endRunGroups_keep s)

/-! ## selectTarget -/

@[simp] theorem selectTarget_pins (b : Bool) (l : Nat) : (selectTarget b l s).pins = s.pins := pins_of_keepTable (selectTarget_keep b l s)
@[simp] theorem selectTarget_straps (b : Bool) (l : Nat) : (selectTarget b l s).straps = s.straps := straps_of_keepTable (selectTarget_keep b l s)
@[simp] theorem selectTarget_port (b : Bool) (l : Nat) : (selectTarget b l s).port = s.port := port_of_keepTable (selectTarget_keep b l s)
@[simp] theorem selectTarget_docking (b : Bool) (l : Nat) : (selectTarget b l s).docking = s.docking := docking_of_keepTable (selectTarget_keep b l s)
@[simp] theorem selectTarget_deck (b : Bool) (l : Nat) : (selectTarget b l s).deck = s.deck := deck_of_keepTable (selectTarget_keep b l s)
@[simp] theorem selectTarget_lane (b : Bool) (l : Nat) : (selectTarget b l s).lane = s.lane := lane_of_keepTable (selectTarget_keep b l s)
@[simp] theorem selectTarget_run (b : Bool) (l : Nat) : (selectTarget b l s).run = s.run := run_of_keepTable (selectTarget_keep b l s)
@[simp] theorem selectTarget_time (b : Bool) (l : Nat) : (selectTarget b l s).time = s.time := time_of_keepTable (selectTarget_keep b l s)
@[simp] theorem selectTarget_urgency (b : Bool) (l : Nat) : (selectTarget b l s).urgency = s.urgency := urgency_of_keepTable (selectTarget_keep b l s)
@[simp] theorem selectTarget_dir (b : Bool) (l : Nat) : (selectTarget b l s).dir = s.dir := dir_of_keepTable (selectTarget_keep b l s)
@[simp] theorem selectTarget_store (b : Bool) (l : Nat) : (selectTarget b l s).store = s.store := store_of_keepTable (selectTarget_keep b l s)
@[simp] theorem selectTarget_dep (b : Bool) (l : Nat) : (selectTarget b l s).dep = s.dep := dep_of_keepTable (selectTarget_keep b l s)
@[simp] theorem selectTarget_pending (b : Bool) (l : Nat) : (selectTarget b l s).pending = s.pending := pending_of_keepTable (selectTarget_keep b l s)

/-! ## reselect -/

@[simp] theorem reselect_pins (x y : List Nat) : (reselect x y s).pins = s.pins := pins_of_keepTable (reselect_keep x y s)
@[simp] theorem reselect_straps (x y : List Nat) : (reselect x y s).straps = s.straps := straps_of_keepTable (reselect_keep x y s)
@[simp] theorem reselect_port (x y : List Nat) : (reselect x y s).port = s.port := port_of_keepTable (reselect_keep x y s)
@[simp] theorem reselect_docking (x y : List Nat) : (reselect x y s).docking = s.docking := docking_of_keepTable (reselect_keep x y s)
@[simp] theorem reselect_deck (x y : List Nat) : (reselect x y s).deck = s.deck := deck_of_keepTable (reselect_keep x y s)
@[simp] theorem reselect_lane (x y : List Nat) : (reselect x y s).lane = s.lane := lane_of_keepTable (reselect_keep x y s)
@[simp] theorem reselect_run (x y : List Nat) : (reselect x y s).run = s.run := run_of_keepTable (reselect_keep x y s)
@[simp] theorem reselect_time (x y : List Nat) : (reselect x y s).time = s.time := time_of_keepTable (reselect_keep x y s)
@[simp] theorem reselect_urgency (x y : List Nat) : (reselect x y s).urgency = s.urgency := urgency_of_keepTable (reselect_keep x y s)
@[simp] theorem reselect_dir (x y : List Nat) : (reselect x y s).dir = s.dir := dir_of_keepTable (reselect_keep x y s)
@[simp] theorem reselect_store (x y : List Nat) : (reselect x y s).store = s.store := store_of_keepTable (reselect_keep x y s)
@[simp] theorem reselect_dep (x y : List Nat) : (reselect x y s).dep = s.dep := dep_of_keepTable (reselect_keep x y s)
@[simp] theorem reselect_pending (x y : List Nat) : (reselect x y s).pending = s.pending := pending_of_keepTable (reselect_keep x y s)

/-! ## removeEntry -/

@[simp] theorem removeEntry_pins (l : Nat) : (removeEntry l s).pins = s.pins := pins_of_keepTable (removeEntry_keep l s)
@[simp] theorem removeEntry_straps (l : Nat) : (removeEntry l s).straps = s.straps := straps_of_keepTable (removeEntry_keep l s)
@[simp] theorem removeEntry_port (l : Nat) : (removeEntry l s).port = s.port := port_of_keepTable (removeEntry_keep l s)
@[simp] theorem removeEntry_docking (l : Nat) : (removeEntry l s).docking = s.docking := docking_of_keepTable (removeEntry_keep l s)
@[simp] theorem removeEntry_deck (l : Nat) : (removeEntry l s).deck = s.deck := deck_of_keepTable (removeEntry_keep l s)
@[simp] theorem removeEntry_lane (l : Nat) : (removeEntry l s).lane = s.lane := lane_of_keepTable (removeEntry_keep l s)
@[simp] theorem removeEntry_run (l : Nat) : (removeEntry l s).run = s.run := run_of_keepTable (removeEntry_keep l s)
@[simp] theorem removeEntry_time (l : Nat) : (removeEntry l s).time = s.time := time_of_keepTable (removeEntry_keep l s)
@[simp] theorem removeEntry_urgency (l : Nat) : (removeEntry l s).urgency = s.urgency := urgency_of_keepTable (removeEntry_keep l s)
@[simp] theorem removeEntry_dir (l : Nat) : (removeEntry l s).dir = s.dir := dir_of_keepTable (removeEntry_keep l s)
@[simp] theorem removeEntry_store (l : Nat) : (removeEntry l s).store = s.store := store_of_keepTable (removeEntry_keep l s)
@[simp] theorem removeEntry_dep (l : Nat) : (removeEntry l s).dep = s.dep := dep_of_keepTable (removeEntry_keep l s)
@[simp] theorem removeEntry_pending (l : Nat) : (removeEntry l s).pending = s.pending := pending_of_keepTable (removeEntry_keep l s)

/-! ## applyDone -/

@[simp] theorem applyDone_pins (n : Nat) (y : List Nat) : (applyDone n y s).pins = s.pins := pins_of_keepTable (applyDone_keep n y s)
@[simp] theorem applyDone_straps (n : Nat) (y : List Nat) : (applyDone n y s).straps = s.straps := straps_of_keepTable (applyDone_keep n y s)
@[simp] theorem applyDone_port (n : Nat) (y : List Nat) : (applyDone n y s).port = s.port := port_of_keepTable (applyDone_keep n y s)
@[simp] theorem applyDone_docking (n : Nat) (y : List Nat) : (applyDone n y s).docking = s.docking := docking_of_keepTable (applyDone_keep n y s)
@[simp] theorem applyDone_deck (n : Nat) (y : List Nat) : (applyDone n y s).deck = s.deck := deck_of_keepTable (applyDone_keep n y s)
@[simp] theorem applyDone_lane (n : Nat) (y : List Nat) : (applyDone n y s).lane = s.lane := lane_of_keepTable (applyDone_keep n y s)
@[simp] theorem applyDone_run (n : Nat) (y : List Nat) : (applyDone n y s).run = s.run := run_of_keepTable (applyDone_keep n y s)
@[simp] theorem applyDone_time (n : Nat) (y : List Nat) : (applyDone n y s).time = s.time := time_of_keepTable (applyDone_keep n y s)
@[simp] theorem applyDone_urgency (n : Nat) (y : List Nat) : (applyDone n y s).urgency = s.urgency := urgency_of_keepTable (applyDone_keep n y s)
@[simp] theorem applyDone_dir (n : Nat) (y : List Nat) : (applyDone n y s).dir = s.dir := dir_of_keepTable (applyDone_keep n y s)
@[simp] theorem applyDone_store (n : Nat) (y : List Nat) : (applyDone n y s).store = s.store := store_of_keepTable (applyDone_keep n y s)
@[simp] theorem applyDone_dep (n : Nat) (y : List Nat) : (applyDone n y s).dep = s.dep := dep_of_keepTable (applyDone_keep n y s)
@[simp] theorem applyDone_pending (n : Nat) (y : List Nat) : (applyDone n y s).pending = s.pending := pending_of_keepTable (applyDone_keep n y s)

/-! ## completeOffer -/

@[simp] theorem completeOffer_pins (n : Nat) : (completeOffer n s).pins = s.pins := pins_of_keepTable (completeOffer_keep n s)
@[simp] theorem completeOffer_straps (n : Nat) : (completeOffer n s).straps = s.straps := straps_of_keepTable (completeOffer_keep n s)
@[simp] theorem completeOffer_port (n : Nat) : (completeOffer n s).port = s.port := port_of_keepTable (completeOffer_keep n s)
@[simp] theorem completeOffer_docking (n : Nat) : (completeOffer n s).docking = s.docking := docking_of_keepTable (completeOffer_keep n s)
@[simp] theorem completeOffer_deck (n : Nat) : (completeOffer n s).deck = s.deck := deck_of_keepTable (completeOffer_keep n s)
@[simp] theorem completeOffer_lane (n : Nat) : (completeOffer n s).lane = s.lane := lane_of_keepTable (completeOffer_keep n s)
@[simp] theorem completeOffer_run (n : Nat) : (completeOffer n s).run = s.run := run_of_keepTable (completeOffer_keep n s)
@[simp] theorem completeOffer_time (n : Nat) : (completeOffer n s).time = s.time := time_of_keepTable (completeOffer_keep n s)
@[simp] theorem completeOffer_urgency (n : Nat) : (completeOffer n s).urgency = s.urgency := urgency_of_keepTable (completeOffer_keep n s)
@[simp] theorem completeOffer_dir (n : Nat) : (completeOffer n s).dir = s.dir := dir_of_keepTable (completeOffer_keep n s)
@[simp] theorem completeOffer_store (n : Nat) : (completeOffer n s).store = s.store := store_of_keepTable (completeOffer_keep n s)
@[simp] theorem completeOffer_dep (n : Nat) : (completeOffer n s).dep = s.dep := dep_of_keepTable (completeOffer_keep n s)
@[simp] theorem completeOffer_pending (n : Nat) : (completeOffer n s).pending = s.pending := pending_of_keepTable (completeOffer_keep n s)

/-! ## checkReady -/

@[simp] theorem checkReady_pins : (checkReady s).pins = s.pins := pins_of_keepSettle (checkReady_keep s)
@[simp] theorem checkReady_straps : (checkReady s).straps = s.straps := straps_of_keepSettle (checkReady_keep s)
@[simp] theorem checkReady_port : (checkReady s).port = s.port := port_of_keepSettle (checkReady_keep s)
@[simp] theorem checkReady_docking : (checkReady s).docking = s.docking := docking_of_keepSettle (checkReady_keep s)
@[simp] theorem checkReady_deck : (checkReady s).deck = s.deck := deck_of_keepSettle (checkReady_keep s)
@[simp] theorem checkReady_lane : (checkReady s).lane = s.lane := lane_of_keepSettle (checkReady_keep s)
@[simp] theorem checkReady_run : (checkReady s).run = s.run := run_of_keepSettle (checkReady_keep s)
@[simp] theorem checkReady_time : (checkReady s).time = s.time := time_of_keepSettle (checkReady_keep s)
@[simp] theorem checkReady_urgency : (checkReady s).urgency = s.urgency := urgency_of_keepSettle (checkReady_keep s)
@[simp] theorem checkReady_table : (checkReady s).table = s.table := table_of_keepSettle (checkReady_keep s)
@[simp] theorem checkReady_asm : (checkReady s).asm = s.asm := asm_of_keepSettle (checkReady_keep s)
@[simp] theorem checkReady_store : (checkReady s).store = s.store := store_of_keepSettle (checkReady_keep s)
@[simp] theorem checkReady_pending : (checkReady s).pending = s.pending := pending_of_keepSettle (checkReady_keep s)

/-! ## startCall -/

@[simp] theorem startCall_pins : (startCall s).pins = s.pins := pins_of_keepSettle (startCall_keep s)
@[simp] theorem startCall_straps : (startCall s).straps = s.straps := straps_of_keepSettle (startCall_keep s)
@[simp] theorem startCall_port : (startCall s).port = s.port := port_of_keepSettle (startCall_keep s)
@[simp] theorem startCall_docking : (startCall s).docking = s.docking := docking_of_keepSettle (startCall_keep s)
@[simp] theorem startCall_deck : (startCall s).deck = s.deck := deck_of_keepSettle (startCall_keep s)
@[simp] theorem startCall_lane : (startCall s).lane = s.lane := lane_of_keepSettle (startCall_keep s)
@[simp] theorem startCall_run : (startCall s).run = s.run := run_of_keepSettle (startCall_keep s)
@[simp] theorem startCall_time : (startCall s).time = s.time := time_of_keepSettle (startCall_keep s)
@[simp] theorem startCall_urgency : (startCall s).urgency = s.urgency := urgency_of_keepSettle (startCall_keep s)
@[simp] theorem startCall_table : (startCall s).table = s.table := table_of_keepSettle (startCall_keep s)
@[simp] theorem startCall_asm : (startCall s).asm = s.asm := asm_of_keepSettle (startCall_keep s)
@[simp] theorem startCall_store : (startCall s).store = s.store := store_of_keepSettle (startCall_keep s)
@[simp] theorem startCall_pending : (startCall s).pending = s.pending := pending_of_keepSettle (startCall_keep s)

/-! ## autoStart -/

@[simp] theorem autoStart_pins (c : StartCause) : (autoStart c s).pins = s.pins := pins_of_keepSettle (autoStart_keep c s)
@[simp] theorem autoStart_straps (c : StartCause) : (autoStart c s).straps = s.straps := straps_of_keepSettle (autoStart_keep c s)
@[simp] theorem autoStart_port (c : StartCause) : (autoStart c s).port = s.port := port_of_keepSettle (autoStart_keep c s)
@[simp] theorem autoStart_docking (c : StartCause) : (autoStart c s).docking = s.docking := docking_of_keepSettle (autoStart_keep c s)
@[simp] theorem autoStart_deck (c : StartCause) : (autoStart c s).deck = s.deck := deck_of_keepSettle (autoStart_keep c s)
@[simp] theorem autoStart_lane (c : StartCause) : (autoStart c s).lane = s.lane := lane_of_keepSettle (autoStart_keep c s)
@[simp] theorem autoStart_run (c : StartCause) : (autoStart c s).run = s.run := run_of_keepSettle (autoStart_keep c s)
@[simp] theorem autoStart_time (c : StartCause) : (autoStart c s).time = s.time := time_of_keepSettle (autoStart_keep c s)
@[simp] theorem autoStart_urgency (c : StartCause) : (autoStart c s).urgency = s.urgency := urgency_of_keepSettle (autoStart_keep c s)
@[simp] theorem autoStart_table (c : StartCause) : (autoStart c s).table = s.table := table_of_keepSettle (autoStart_keep c s)
@[simp] theorem autoStart_asm (c : StartCause) : (autoStart c s).asm = s.asm := asm_of_keepSettle (autoStart_keep c s)
@[simp] theorem autoStart_store (c : StartCause) : (autoStart c s).store = s.store := store_of_keepSettle (autoStart_keep c s)
@[simp] theorem autoStart_pending (c : StartCause) : (autoStart c s).pending = s.pending := pending_of_keepSettle (autoStart_keep c s)

/-! ## settle -/

@[simp] theorem settle_pins : (settle s).pins = s.pins := pins_of_keepSettle (settle_keep s)
@[simp] theorem settle_straps : (settle s).straps = s.straps := straps_of_keepSettle (settle_keep s)
@[simp] theorem settle_port : (settle s).port = s.port := port_of_keepSettle (settle_keep s)
@[simp] theorem settle_docking : (settle s).docking = s.docking := docking_of_keepSettle (settle_keep s)
@[simp] theorem settle_deck : (settle s).deck = s.deck := deck_of_keepSettle (settle_keep s)
@[simp] theorem settle_lane : (settle s).lane = s.lane := lane_of_keepSettle (settle_keep s)
@[simp] theorem settle_run : (settle s).run = s.run := run_of_keepSettle (settle_keep s)
@[simp] theorem settle_time : (settle s).time = s.time := time_of_keepSettle (settle_keep s)
@[simp] theorem settle_urgency : (settle s).urgency = s.urgency := urgency_of_keepSettle (settle_keep s)
@[simp] theorem settle_table : (settle s).table = s.table := table_of_keepSettle (settle_keep s)
@[simp] theorem settle_asm : (settle s).asm = s.asm := asm_of_keepSettle (settle_keep s)
@[simp] theorem settle_store : (settle s).store = s.store := store_of_keepSettle (settle_keep s)
@[simp] theorem settle_pending : (settle s).pending = s.pending := pending_of_keepSettle (settle_keep s)

/-! ## returnToOpen -/

@[simp] theorem returnToOpen_pins : (returnToOpen s).pins = s.pins := pins_of_keepSettle (returnToOpen_keep s)
@[simp] theorem returnToOpen_straps : (returnToOpen s).straps = s.straps := straps_of_keepSettle (returnToOpen_keep s)
@[simp] theorem returnToOpen_port : (returnToOpen s).port = s.port := port_of_keepSettle (returnToOpen_keep s)
@[simp] theorem returnToOpen_docking : (returnToOpen s).docking = s.docking := docking_of_keepSettle (returnToOpen_keep s)
@[simp] theorem returnToOpen_deck : (returnToOpen s).deck = s.deck := deck_of_keepSettle (returnToOpen_keep s)
@[simp] theorem returnToOpen_lane : (returnToOpen s).lane = s.lane := lane_of_keepSettle (returnToOpen_keep s)
@[simp] theorem returnToOpen_run : (returnToOpen s).run = s.run := run_of_keepSettle (returnToOpen_keep s)
@[simp] theorem returnToOpen_time : (returnToOpen s).time = s.time := time_of_keepSettle (returnToOpen_keep s)
@[simp] theorem returnToOpen_urgency : (returnToOpen s).urgency = s.urgency := urgency_of_keepSettle (returnToOpen_keep s)
@[simp] theorem returnToOpen_table : (returnToOpen s).table = s.table := table_of_keepSettle (returnToOpen_keep s)
@[simp] theorem returnToOpen_asm : (returnToOpen s).asm = s.asm := asm_of_keepSettle (returnToOpen_keep s)
@[simp] theorem returnToOpen_store : (returnToOpen s).store = s.store := store_of_keepSettle (returnToOpen_keep s)
@[simp] theorem returnToOpen_pending : (returnToOpen s).pending = s.pending := pending_of_keepSettle (returnToOpen_keep s)

/-! ## settleReturn -/

@[simp] theorem settleReturn_pins : (settleReturn s).pins = s.pins := pins_of_keepSettle (settleReturn_keep s)
@[simp] theorem settleReturn_straps : (settleReturn s).straps = s.straps := straps_of_keepSettle (settleReturn_keep s)
@[simp] theorem settleReturn_port : (settleReturn s).port = s.port := port_of_keepSettle (settleReturn_keep s)
@[simp] theorem settleReturn_docking : (settleReturn s).docking = s.docking := docking_of_keepSettle (settleReturn_keep s)
@[simp] theorem settleReturn_deck : (settleReturn s).deck = s.deck := deck_of_keepSettle (settleReturn_keep s)
@[simp] theorem settleReturn_lane : (settleReturn s).lane = s.lane := lane_of_keepSettle (settleReturn_keep s)
@[simp] theorem settleReturn_run : (settleReturn s).run = s.run := run_of_keepSettle (settleReturn_keep s)
@[simp] theorem settleReturn_time : (settleReturn s).time = s.time := time_of_keepSettle (settleReturn_keep s)
@[simp] theorem settleReturn_urgency : (settleReturn s).urgency = s.urgency := urgency_of_keepSettle (settleReturn_keep s)
@[simp] theorem settleReturn_table : (settleReturn s).table = s.table := table_of_keepSettle (settleReturn_keep s)
@[simp] theorem settleReturn_asm : (settleReturn s).asm = s.asm := asm_of_keepSettle (settleReturn_keep s)
@[simp] theorem settleReturn_store : (settleReturn s).store = s.store := store_of_keepSettle (settleReturn_keep s)
@[simp] theorem settleReturn_pending : (settleReturn s).pending = s.pending := pending_of_keepSettle (settleReturn_keep s)

/-! ## abandonCall -/

@[simp] theorem abandonCall_pins (c : AbandonCause) : (abandonCall c s).pins = s.pins := pins_of_keepSettle (abandonCall_keep c s)
@[simp] theorem abandonCall_straps (c : AbandonCause) : (abandonCall c s).straps = s.straps := straps_of_keepSettle (abandonCall_keep c s)
@[simp] theorem abandonCall_port (c : AbandonCause) : (abandonCall c s).port = s.port := port_of_keepSettle (abandonCall_keep c s)
@[simp] theorem abandonCall_docking (c : AbandonCause) : (abandonCall c s).docking = s.docking := docking_of_keepSettle (abandonCall_keep c s)
@[simp] theorem abandonCall_deck (c : AbandonCause) : (abandonCall c s).deck = s.deck := deck_of_keepSettle (abandonCall_keep c s)
@[simp] theorem abandonCall_lane (c : AbandonCause) : (abandonCall c s).lane = s.lane := lane_of_keepSettle (abandonCall_keep c s)
@[simp] theorem abandonCall_run (c : AbandonCause) : (abandonCall c s).run = s.run := run_of_keepSettle (abandonCall_keep c s)
@[simp] theorem abandonCall_time (c : AbandonCause) : (abandonCall c s).time = s.time := time_of_keepSettle (abandonCall_keep c s)
@[simp] theorem abandonCall_urgency (c : AbandonCause) : (abandonCall c s).urgency = s.urgency := urgency_of_keepSettle (abandonCall_keep c s)
@[simp] theorem abandonCall_table (c : AbandonCause) : (abandonCall c s).table = s.table := table_of_keepSettle (abandonCall_keep c s)
@[simp] theorem abandonCall_asm (c : AbandonCause) : (abandonCall c s).asm = s.asm := asm_of_keepSettle (abandonCall_keep c s)
@[simp] theorem abandonCall_store (c : AbandonCause) : (abandonCall c s).store = s.store := store_of_keepSettle (abandonCall_keep c s)
@[simp] theorem abandonCall_pending (c : AbandonCause) : (abandonCall c s).pending = s.pending := pending_of_keepSettle (abandonCall_keep c s)

/-! ## linkLost -/

@[simp] theorem linkLost_pins : (linkLost s).pins = s.pins := pins_of_keepSettle (linkLost_keep s)
@[simp] theorem linkLost_straps : (linkLost s).straps = s.straps := straps_of_keepSettle (linkLost_keep s)
@[simp] theorem linkLost_port : (linkLost s).port = s.port := port_of_keepSettle (linkLost_keep s)
@[simp] theorem linkLost_docking : (linkLost s).docking = s.docking := docking_of_keepSettle (linkLost_keep s)
@[simp] theorem linkLost_deck : (linkLost s).deck = s.deck := deck_of_keepSettle (linkLost_keep s)
@[simp] theorem linkLost_lane : (linkLost s).lane = s.lane := lane_of_keepSettle (linkLost_keep s)
@[simp] theorem linkLost_run : (linkLost s).run = s.run := run_of_keepSettle (linkLost_keep s)
@[simp] theorem linkLost_time : (linkLost s).time = s.time := time_of_keepSettle (linkLost_keep s)
@[simp] theorem linkLost_urgency : (linkLost s).urgency = s.urgency := urgency_of_keepSettle (linkLost_keep s)
@[simp] theorem linkLost_table : (linkLost s).table = s.table := table_of_keepSettle (linkLost_keep s)
@[simp] theorem linkLost_asm : (linkLost s).asm = s.asm := asm_of_keepSettle (linkLost_keep s)
@[simp] theorem linkLost_store : (linkLost s).store = s.store := store_of_keepSettle (linkLost_keep s)
@[simp] theorem linkLost_pending : (linkLost s).pending = s.pending := pending_of_keepSettle (linkLost_keep s)

/-! ## retryStart -/

@[simp] theorem retryStart_pins : (retryStart s).pins = s.pins := pins_of_keepSettle (retryStart_keep s)
@[simp] theorem retryStart_straps : (retryStart s).straps = s.straps := straps_of_keepSettle (retryStart_keep s)
@[simp] theorem retryStart_port : (retryStart s).port = s.port := port_of_keepSettle (retryStart_keep s)
@[simp] theorem retryStart_docking : (retryStart s).docking = s.docking := docking_of_keepSettle (retryStart_keep s)
@[simp] theorem retryStart_deck : (retryStart s).deck = s.deck := deck_of_keepSettle (retryStart_keep s)
@[simp] theorem retryStart_lane : (retryStart s).lane = s.lane := lane_of_keepSettle (retryStart_keep s)
@[simp] theorem retryStart_run : (retryStart s).run = s.run := run_of_keepSettle (retryStart_keep s)
@[simp] theorem retryStart_time : (retryStart s).time = s.time := time_of_keepSettle (retryStart_keep s)
@[simp] theorem retryStart_urgency : (retryStart s).urgency = s.urgency := urgency_of_keepSettle (retryStart_keep s)
@[simp] theorem retryStart_table : (retryStart s).table = s.table := table_of_keepSettle (retryStart_keep s)
@[simp] theorem retryStart_asm : (retryStart s).asm = s.asm := asm_of_keepSettle (retryStart_keep s)
@[simp] theorem retryStart_store : (retryStart s).store = s.store := store_of_keepSettle (retryStart_keep s)
@[simp] theorem retryStart_pending : (retryStart s).pending = s.pending := pending_of_keepSettle (retryStart_keep s)

/-! ## removeHold -/

@[simp] theorem removeHold_pins (l : Nat) : (removeHold l s).pins = s.pins := pins_of_keepClosing (removeHold_keep l s)
@[simp] theorem removeHold_straps (l : Nat) : (removeHold l s).straps = s.straps := straps_of_keepClosing (removeHold_keep l s)
@[simp] theorem removeHold_port (l : Nat) : (removeHold l s).port = s.port := port_of_keepClosing (removeHold_keep l s)
@[simp] theorem removeHold_docking (l : Nat) : (removeHold l s).docking = s.docking := docking_of_keepClosing (removeHold_keep l s)
@[simp] theorem removeHold_deck (l : Nat) : (removeHold l s).deck = s.deck := deck_of_keepClosing (removeHold_keep l s)
@[simp] theorem removeHold_lane (l : Nat) : (removeHold l s).lane = s.lane := lane_of_keepClosing (removeHold_keep l s)
@[simp] theorem removeHold_run (l : Nat) : (removeHold l s).run = s.run := run_of_keepClosing (removeHold_keep l s)
@[simp] theorem removeHold_time (l : Nat) : (removeHold l s).time = s.time := time_of_keepClosing (removeHold_keep l s)
@[simp] theorem removeHold_urgency (l : Nat) : (removeHold l s).urgency = s.urgency := urgency_of_keepClosing (removeHold_keep l s)
@[simp] theorem removeHold_table (l : Nat) : (removeHold l s).table = s.table := table_of_keepClosing (removeHold_keep l s)
@[simp] theorem removeHold_asm (l : Nat) : (removeHold l s).asm = s.asm := asm_of_keepClosing (removeHold_keep l s)
@[simp] theorem removeHold_pending (l : Nat) : (removeHold l s).pending = s.pending := pending_of_keepClosing (removeHold_keep l s)

/-! ## voidHolds -/

@[simp] theorem voidHolds_pins (p : Hold → Bool) : (voidHolds p s).pins = s.pins := pins_of_keepClosing (voidHolds_keep p s)
@[simp] theorem voidHolds_straps (p : Hold → Bool) : (voidHolds p s).straps = s.straps := straps_of_keepClosing (voidHolds_keep p s)
@[simp] theorem voidHolds_port (p : Hold → Bool) : (voidHolds p s).port = s.port := port_of_keepClosing (voidHolds_keep p s)
@[simp] theorem voidHolds_docking (p : Hold → Bool) : (voidHolds p s).docking = s.docking := docking_of_keepClosing (voidHolds_keep p s)
@[simp] theorem voidHolds_deck (p : Hold → Bool) : (voidHolds p s).deck = s.deck := deck_of_keepClosing (voidHolds_keep p s)
@[simp] theorem voidHolds_lane (p : Hold → Bool) : (voidHolds p s).lane = s.lane := lane_of_keepClosing (voidHolds_keep p s)
@[simp] theorem voidHolds_run (p : Hold → Bool) : (voidHolds p s).run = s.run := run_of_keepClosing (voidHolds_keep p s)
@[simp] theorem voidHolds_time (p : Hold → Bool) : (voidHolds p s).time = s.time := time_of_keepClosing (voidHolds_keep p s)
@[simp] theorem voidHolds_urgency (p : Hold → Bool) : (voidHolds p s).urgency = s.urgency := urgency_of_keepClosing (voidHolds_keep p s)
@[simp] theorem voidHolds_table (p : Hold → Bool) : (voidHolds p s).table = s.table := table_of_keepClosing (voidHolds_keep p s)
@[simp] theorem voidHolds_asm (p : Hold → Bool) : (voidHolds p s).asm = s.asm := asm_of_keepClosing (voidHolds_keep p s)
@[simp] theorem voidHolds_pending (p : Hold → Bool) : (voidHolds p s).pending = s.pending := pending_of_keepClosing (voidHolds_keep p s)

/-! ## enterClosed -/

@[simp] theorem enterClosed_pins (c : CloseCause) : (enterClosed c s).pins = s.pins := pins_of_keepClosing (enterClosed_keep c s)
@[simp] theorem enterClosed_straps (c : CloseCause) : (enterClosed c s).straps = s.straps := straps_of_keepClosing (enterClosed_keep c s)
@[simp] theorem enterClosed_port (c : CloseCause) : (enterClosed c s).port = s.port := port_of_keepClosing (enterClosed_keep c s)
@[simp] theorem enterClosed_docking (c : CloseCause) : (enterClosed c s).docking = s.docking := docking_of_keepClosing (enterClosed_keep c s)
@[simp] theorem enterClosed_deck (c : CloseCause) : (enterClosed c s).deck = s.deck := deck_of_keepClosing (enterClosed_keep c s)
@[simp] theorem enterClosed_lane (c : CloseCause) : (enterClosed c s).lane = s.lane := lane_of_keepClosing (enterClosed_keep c s)
@[simp] theorem enterClosed_run (c : CloseCause) : (enterClosed c s).run = s.run := run_of_keepClosing (enterClosed_keep c s)
@[simp] theorem enterClosed_time (c : CloseCause) : (enterClosed c s).time = s.time := time_of_keepClosing (enterClosed_keep c s)
@[simp] theorem enterClosed_urgency (c : CloseCause) : (enterClosed c s).urgency = s.urgency := urgency_of_keepClosing (enterClosed_keep c s)
@[simp] theorem enterClosed_table (c : CloseCause) : (enterClosed c s).table = s.table := table_of_keepClosing (enterClosed_keep c s)
@[simp] theorem enterClosed_asm (c : CloseCause) : (enterClosed c s).asm = s.asm := asm_of_keepClosing (enterClosed_keep c s)
@[simp] theorem enterClosed_pending (c : CloseCause) : (enterClosed c s).pending = s.pending := pending_of_keepClosing (enterClosed_keep c s)

/-! ## holdGone -/

@[simp] theorem holdGone_pins : (holdGone s).pins = s.pins := pins_of_keepClosing (holdGone_keep s)
@[simp] theorem holdGone_straps : (holdGone s).straps = s.straps := straps_of_keepClosing (holdGone_keep s)
@[simp] theorem holdGone_port : (holdGone s).port = s.port := port_of_keepClosing (holdGone_keep s)
@[simp] theorem holdGone_docking : (holdGone s).docking = s.docking := docking_of_keepClosing (holdGone_keep s)
@[simp] theorem holdGone_deck : (holdGone s).deck = s.deck := deck_of_keepClosing (holdGone_keep s)
@[simp] theorem holdGone_lane : (holdGone s).lane = s.lane := lane_of_keepClosing (holdGone_keep s)
@[simp] theorem holdGone_run : (holdGone s).run = s.run := run_of_keepClosing (holdGone_keep s)
@[simp] theorem holdGone_time : (holdGone s).time = s.time := time_of_keepClosing (holdGone_keep s)
@[simp] theorem holdGone_urgency : (holdGone s).urgency = s.urgency := urgency_of_keepClosing (holdGone_keep s)
@[simp] theorem holdGone_table : (holdGone s).table = s.table := table_of_keepClosing (holdGone_keep s)
@[simp] theorem holdGone_asm : (holdGone s).asm = s.asm := asm_of_keepClosing (holdGone_keep s)
@[simp] theorem holdGone_pending : (holdGone s).pending = s.pending := pending_of_keepClosing (holdGone_keep s)

/-! ## expireWait -/

@[simp] theorem expireWait_pins : (expireWait s).pins = s.pins := pins_of_keepClosing (expireWait_keep s)
@[simp] theorem expireWait_straps : (expireWait s).straps = s.straps := straps_of_keepClosing (expireWait_keep s)
@[simp] theorem expireWait_port : (expireWait s).port = s.port := port_of_keepClosing (expireWait_keep s)
@[simp] theorem expireWait_docking : (expireWait s).docking = s.docking := docking_of_keepClosing (expireWait_keep s)
@[simp] theorem expireWait_deck : (expireWait s).deck = s.deck := deck_of_keepClosing (expireWait_keep s)
@[simp] theorem expireWait_lane : (expireWait s).lane = s.lane := lane_of_keepClosing (expireWait_keep s)
@[simp] theorem expireWait_run : (expireWait s).run = s.run := run_of_keepClosing (expireWait_keep s)
@[simp] theorem expireWait_time : (expireWait s).time = s.time := time_of_keepClosing (expireWait_keep s)
@[simp] theorem expireWait_urgency : (expireWait s).urgency = s.urgency := urgency_of_keepClosing (expireWait_keep s)
@[simp] theorem expireWait_table : (expireWait s).table = s.table := table_of_keepClosing (expireWait_keep s)
@[simp] theorem expireWait_asm : (expireWait s).asm = s.asm := asm_of_keepClosing (expireWait_keep s)
@[simp] theorem expireWait_pending : (expireWait s).pending = s.pending := pending_of_keepClosing (expireWait_keep s)

/-! ## cutoffReached -/

@[simp] theorem cutoffReached_pins : (cutoffReached s).pins = s.pins := pins_of_keepClosing (cutoffReached_keep s)
@[simp] theorem cutoffReached_straps : (cutoffReached s).straps = s.straps := straps_of_keepClosing (cutoffReached_keep s)
@[simp] theorem cutoffReached_port : (cutoffReached s).port = s.port := port_of_keepClosing (cutoffReached_keep s)
@[simp] theorem cutoffReached_docking : (cutoffReached s).docking = s.docking := docking_of_keepClosing (cutoffReached_keep s)
@[simp] theorem cutoffReached_deck : (cutoffReached s).deck = s.deck := deck_of_keepClosing (cutoffReached_keep s)
@[simp] theorem cutoffReached_lane : (cutoffReached s).lane = s.lane := lane_of_keepClosing (cutoffReached_keep s)
@[simp] theorem cutoffReached_run : (cutoffReached s).run = s.run := run_of_keepClosing (cutoffReached_keep s)
@[simp] theorem cutoffReached_time : (cutoffReached s).time = s.time := time_of_keepClosing (cutoffReached_keep s)
@[simp] theorem cutoffReached_urgency : (cutoffReached s).urgency = s.urgency := urgency_of_keepClosing (cutoffReached_keep s)
@[simp] theorem cutoffReached_table : (cutoffReached s).table = s.table := table_of_keepClosing (cutoffReached_keep s)
@[simp] theorem cutoffReached_asm : (cutoffReached s).asm = s.asm := asm_of_keepClosing (cutoffReached_keep s)
@[simp] theorem cutoffReached_pending : (cutoffReached s).pending = s.pending := pending_of_keepClosing (cutoffReached_keep s)

/-! ## cutoffTests -/

@[simp] theorem cutoffTests_pins (a b : Nat) : (cutoffTests a b s).pins = s.pins := pins_of_keepMinutes (cutoffTests_keep a b s)
@[simp] theorem cutoffTests_straps (a b : Nat) : (cutoffTests a b s).straps = s.straps := straps_of_keepMinutes (cutoffTests_keep a b s)
@[simp] theorem cutoffTests_port (a b : Nat) : (cutoffTests a b s).port = s.port := port_of_keepMinutes (cutoffTests_keep a b s)
@[simp] theorem cutoffTests_docking (a b : Nat) : (cutoffTests a b s).docking = s.docking := docking_of_keepMinutes (cutoffTests_keep a b s)
@[simp] theorem cutoffTests_deck (a b : Nat) : (cutoffTests a b s).deck = s.deck := deck_of_keepMinutes (cutoffTests_keep a b s)
@[simp] theorem cutoffTests_lane (a b : Nat) : (cutoffTests a b s).lane = s.lane := lane_of_keepMinutes (cutoffTests_keep a b s)
@[simp] theorem cutoffTests_run (a b : Nat) : (cutoffTests a b s).run = s.run := run_of_keepMinutes (cutoffTests_keep a b s)
@[simp] theorem cutoffTests_table (a b : Nat) : (cutoffTests a b s).table = s.table := table_of_keepMinutes (cutoffTests_keep a b s)
@[simp] theorem cutoffTests_asm (a b : Nat) : (cutoffTests a b s).asm = s.asm := asm_of_keepMinutes (cutoffTests_keep a b s)
@[simp] theorem cutoffTests_pending (a b : Nat) : (cutoffTests a b s).pending = s.pending := pending_of_keepMinutes (cutoffTests_keep a b s)

/-! ## recomputeM -/

@[simp] theorem recomputeM_pins : (recomputeM s).pins = s.pins := pins_of_keepMinutes (recomputeM_keep s)
@[simp] theorem recomputeM_straps : (recomputeM s).straps = s.straps := straps_of_keepMinutes (recomputeM_keep s)
@[simp] theorem recomputeM_port : (recomputeM s).port = s.port := port_of_keepMinutes (recomputeM_keep s)
@[simp] theorem recomputeM_docking : (recomputeM s).docking = s.docking := docking_of_keepMinutes (recomputeM_keep s)
@[simp] theorem recomputeM_deck : (recomputeM s).deck = s.deck := deck_of_keepMinutes (recomputeM_keep s)
@[simp] theorem recomputeM_lane : (recomputeM s).lane = s.lane := lane_of_keepMinutes (recomputeM_keep s)
@[simp] theorem recomputeM_run : (recomputeM s).run = s.run := run_of_keepMinutes (recomputeM_keep s)
@[simp] theorem recomputeM_table : (recomputeM s).table = s.table := table_of_keepMinutes (recomputeM_keep s)
@[simp] theorem recomputeM_asm : (recomputeM s).asm = s.asm := asm_of_keepMinutes (recomputeM_keep s)
@[simp] theorem recomputeM_pending : (recomputeM s).pending = s.pending := pending_of_keepMinutes (recomputeM_keep s)

/-! ## reconcileNamed -/

@[simp] theorem reconcileNamed_pins (l : List NamedRecord) : (reconcileNamed l s).pins = s.pins := pins_of_keepReconcile (reconcileNamed_keep l s)
@[simp] theorem reconcileNamed_straps (l : List NamedRecord) : (reconcileNamed l s).straps = s.straps := straps_of_keepReconcile (reconcileNamed_keep l s)
@[simp] theorem reconcileNamed_port (l : List NamedRecord) : (reconcileNamed l s).port = s.port := port_of_keepReconcile (reconcileNamed_keep l s)
@[simp] theorem reconcileNamed_notes (l : List NamedRecord) : (reconcileNamed l s).notes = s.notes := notes_of_keepReconcile (reconcileNamed_keep l s)
@[simp] theorem reconcileNamed_docking (l : List NamedRecord) : (reconcileNamed l s).docking = s.docking := docking_of_keepReconcile (reconcileNamed_keep l s)
@[simp] theorem reconcileNamed_run (l : List NamedRecord) : (reconcileNamed l s).run = s.run := run_of_keepReconcile (reconcileNamed_keep l s)
@[simp] theorem reconcileNamed_time (l : List NamedRecord) : (reconcileNamed l s).time = s.time := time_of_keepReconcile (reconcileNamed_keep l s)
@[simp] theorem reconcileNamed_urgency (l : List NamedRecord) : (reconcileNamed l s).urgency = s.urgency := urgency_of_keepReconcile (reconcileNamed_keep l s)
@[simp] theorem reconcileNamed_table (l : List NamedRecord) : (reconcileNamed l s).table = s.table := table_of_keepReconcile (reconcileNamed_keep l s)
@[simp] theorem reconcileNamed_asm (l : List NamedRecord) : (reconcileNamed l s).asm = s.asm := asm_of_keepReconcile (reconcileNamed_keep l s)
@[simp] theorem reconcileNamed_dep (l : List NamedRecord) : (reconcileNamed l s).dep = s.dep := dep_of_keepReconcile (reconcileNamed_keep l s)
@[simp] theorem reconcileNamed_pending (l : List NamedRecord) : (reconcileNamed l s).pending = s.pending := pending_of_keepReconcile (reconcileNamed_keep l s)

end Sys2Proof.Machine
end

