-- ==== Sys2Proof/Laws/Operations.lean ====
section
/-! SUPPORT. One lemma for each shared operation that says once everything it can do, to be cited in place of its
definition: the gate of the reset pin, a request frame, a frame taken, the transmit queue, the deck as a stack, the
admission test, the busy list, the notice queue, the intake halt, bad frames and the quiet timer. -/

namespace Sys2Proof.Machine

variable {s t : State}

/-! ## The gates -/

@[simp] theorem live_held (f : State → State) (h : s.pins.resetHeld = true) : live f s = s := by simp [live, h]
@[simp] theorem live_free (f : State → State) (h : s.pins.resetHeld = false) : live f s = f s := by simp [live, h]

/-- A request frame that is taken is answered by its own tests. -/
theorem request_taken {h : ReqHead} (r : Request) (body : State → Result) (hs : Taken h s) :
    request h r body s = sendReply h.seq (answerOf r (body s).2) (body s).1 := by
  obtain ⟨h1, h2, h3⟩ := hs
  simp [request, live, h1, h2, h3]

/-- A request frame that arrives while a request is in progress goes to the busy list. -/
theorem request_busy (h : ReqHead) (r : Request) (body : State → Result) (h1 : s.pins.resetHeld = false)
    (h2 : s.port.inProgress = true) : request h r body s = recordBusy h.seq s := by
  simp [request, live, h1, h2]

/-- A request frame whose parameters have not the form called for is refused. -/
theorem request_malformed (h : ReqHead) (r : Request) (body : State → Result) (h1 : s.pins.resetHeld = false)
    (h2 : s.port.inProgress = false) (h3 : h.formOk = false) :
    request h r body s = sendReply h.seq (.refused .badValue .none) s := by
  simp [request, live, h1, h2, h3]

/-- Everything a request frame can do. -/
theorem request_cases (h : ReqHead) (r : Request) (body : State → Result) (s : State) :
    (s.pins.resetHeld = true ∧ request h r body s = s)
      ∨ (s.pins.resetHeld = false ∧ s.port.inProgress = true ∧ request h r body s = recordBusy h.seq s)
      ∨ (s.pins.resetHeld = false ∧ s.port.inProgress = false ∧ h.formOk = false
        ∧ request h r body s = sendReply h.seq (.refused .badValue .none) s)
      ∨ (Taken h s ∧ request h r body s = sendReply h.seq (answerOf r (body s).2) (body s).1) := by
  cases h1 : s.pins.resetHeld
  · cases h2 : s.port.inProgress
    · cases h3 : h.formOk
      · exact .inr (.inr (.inl ⟨rfl, rfl, rfl, request_malformed h r body h1 h2 h3⟩))
      · exact .inr (.inr (.inr ⟨⟨h1, h2, h3⟩, request_taken r body ⟨h1, h2, h3⟩⟩))
    · exact .inr (.inl ⟨rfl, rfl, request_busy h r body h1 h2⟩)
  · exact .inl ⟨rfl, by simp [request, live, h1]⟩

/-- Everything a frame heard without objection can do. -/
theorem takeFrame_cases (key : Nat) (b : Body) (f : State → State) (s : State) :
    ((s.pins.resetHeld = true ∨ s.link.line = .detached) ∧ takeFrame key b f s = s)
      ∨ (framingOk key b = false ∧ takeFrame key b f s = badFrame s)
      ∨ (framingOk key b = true ∧ keyBay key = s.straps.bay
        ∧ takeFrame key b f s = duplicateHeard b.kind (lineActive false s))
      ∨ (s.pins.resetHeld = false ∧ s.link.line ≠ .detached ∧ framingOk key b = true ∧ keyBay key ≠ s.straps.bay
        ∧ takeFrame key b f s = countTaken (f (lineActive false s))) := by
  unfold takeFrame
  by_cases h1 : (s.pins.resetHeld || s.link.line == .detached) = true
  · rw [if_pos h1]
    simp only [Bool.or_eq_true, beq_iff_eq] at h1
    exact .inl ⟨h1, rfl⟩
  · rw [if_neg h1]
    simp only [Bool.or_eq_true, beq_iff_eq, not_or, Bool.not_eq_true] at h1
    cases h2 : framingOk key b
    · exact .inr (.inl ⟨rfl, rfl⟩)
    · by_cases h3 : keyBay key = s.straps.bay
      · exact .inr (.inr (.inl ⟨rfl, h3, by simp [h3]⟩))
      · exact .inr (.inr (.inr ⟨h1.1, h1.2, rfl, h3, by simp [h3]⟩))

/-- A frame that is heard while the station is not LISTENING is handed on and nothing else. -/
theorem takeFrame_heard {key : Nat} {b : Body} (f : State → State) (h : Hears key b s)
    (hl : (f (lineActive false s)).link.line ≠ .listening) : takeFrame key b f s = f (lineActive false s) := by
  obtain ⟨h1, h2, -, h4, h5⟩ := h
  simp [takeFrame, h1, h2, h4, h5, countTaken, hl]

/-! ## The transmit queue -/

theorem insertQueued_length (f : Queued) (q : List Queued) : (insertQueued f q).length = q.length + 1 := by
  induction q with
  | nil => rfl
  | cons g gs ih => simp only [insertQueued]; split <;> simp [ih]

@[simp] theorem mem_insertQueued {f g : Queued} {q : List Queued} : g ∈ insertQueued f q ↔ g = f ∨ g ∈ q := by
  induction q with
  | nil => simp [insertQueued]
  | cons x xs ih =>
    simp only [insertQueued]
    split
    · simp
    · simp only [List.mem_cons, ih]; tauto

/-- A frame placed in a queue in key order leaves it in key order (R78). -/
theorem insertQueued_sorted {f : Queued} {q : List Queued} (h : q.Pairwise (fun a b => a.key ≤ b.key)) :
    (insertQueued f q).Pairwise (fun a b => a.key ≤ b.key) := by
  induction q with
  | nil => simp [insertQueued]
  | cons g gs ih =>
    rw [List.pairwise_cons] at h
    simp only [insertQueued]
    split
    · rename_i hlt
      refine List.pairwise_cons.2 ⟨fun x hx => ?_, List.pairwise_cons.2 h⟩
      rcases List.mem_cons.1 hx with rfl | hx
      · omega
      · have := h.1 x hx; omega
    · rename_i hge
      refine List.pairwise_cons.2 ⟨fun x hx => ?_, ih h.2⟩
      rcases mem_insertQueued.1 hx with rfl | hx
      · omega
      · exact h.1 x hx

/-- The number of frames of a kind of interest rises with the frame placed. -/
theorem insertQueued_filter_length (p : Queued → Bool) (f : Queued) (q : List Queued) :
    ((insertQueued f q).filter p).length = (q.filter p).length + (if p f then 1 else 0) := by
  induction q with
  | nil => simp only [insertQueued, List.filter]; cases p f <;> rfl
  | cons g gs ih =>
    simp only [insertQueued]
    split
    · cases hf : p f <;> simp [List.filter_cons, hf]
    · cases hg : p g <;> simp [hg, ih] ; split <;> omega

/-- The frames of class 2 or 3 after a frame is placed (R78). -/
theorem lowCount_insertQueued (f : Queued) (q : List Queued) :
    lowCount (insertQueued f q) = lowCount q + (if 2 ≤ f.body.kind.cls then 1 else 0) := by
  unfold lowCount
  rw [insertQueued_filter_length]
  simp

/-- Everything handing a frame over can do (R79). -/
theorem handFrame_cases (b : Body) (s : State) :
    (hasRoom b.kind.cls s.link.queue = false ∧ handFrame b s = none)
      ∨ (hasRoom b.kind.cls s.link.queue = true
        ∧ handFrame b s = some (setQueue (insertQueued ⟨keyFor s b, b, false⟩ s.link.queue) s)) := by
  unfold handFrame
  cases h : hasRoom b.kind.cls s.link.queue
  · exact .inl ⟨rfl, rfl⟩
  · exact .inr ⟨rfl, rfl⟩

/-- Room for a frame, in full (R79). -/
theorem hasRoom_iff (cls : Nat) (q : List Queued) :
    hasRoom cls q = true ↔ q.length < 16 ∧ (cls < 2 ∨ lowCount q < 12) := by
  simp only [hasRoom, Bool.and_eq_true, Bool.or_eq_true, decide_eq_true_eq]
  rfl

/-! ## The deck and the budget -/

/-- Everything a push can do (R6). -/
theorem pushDeck_cases (capacity : Nat) (e : DeckEntry) (d : Deck) :
    ((∃ x ∈ d.entries, x.tag ≠ e.tag) ∧ pushDeck capacity e d = .mixed)
      ∨ ((∀ x ∈ d.entries, x.tag = e.tag) ∧ capacity ≤ d.entries.length ∧ pushDeck capacity e d = .full)
      ∨ ((∀ x ∈ d.entries, x.tag = e.tag) ∧ d.entries.length < capacity
        ∧ pushDeck capacity e d = .placed { d with entries := d.entries ++ [e] }) := by
  unfold pushDeck
  by_cases h : d.entries.any (fun x => x.tag != e.tag) = true
  · rw [if_pos h]
    simp only [List.any_eq_true, bne_iff_ne] at h
    exact .inl ⟨h, rfl⟩
  · rw [if_neg h]
    simp only [List.any_eq_true, bne_iff_ne, not_exists, not_and, not_not] at h
    by_cases hc : capacity ≤ d.entries.length
    · rw [if_pos hc]; exact .inr (.inl ⟨h, hc, rfl⟩)
    · rw [if_neg hc]; exact .inr (.inr ⟨h, Nat.lt_of_not_le hc, rfl⟩)

/-- The admission test admits exactly where the space law and the mass law hold with the pallet (R120). -/
theorem admission_admit_iff (mass : Nat) (s : State) :
    admission mass s = .admitted ↔
      ∃ d, s.docking = some d ∧ usedSpaces s < d.capacity ∧ usedMass s + mass ≤ d.payload := by
  unfold admission
  cases s.docking with
  | none => simp
  | some d =>
    by_cases h1 : d.capacity ≤ usedSpaces s
    · simp [h1, Nat.not_lt.2 h1]
    · by_cases h2 : d.payload < usedMass s + mass
      · simp [h1, h2, Nat.not_le.2 h2]
      · simp [h1, h2, Nat.lt_of_not_le h1, Nat.le_of_not_lt h2]

/-- `distinct` says that no value stands twice. -/
theorem distinct_iff (l : List Nat) : distinct l = true ↔ l.Nodup := by
  induction l with
  | nil => simp [distinct]
  | cons x xs ih => simp [distinct, ih]

/-! ## The port and the notices -/

/-- The busy list never grows past 16 records (R154). -/
theorem addBusy_length_le (seq : Nat) (l : List BusyRecord) (h : l.length ≤ 16) : (addBusy seq l).length ≤ 16 := by
  unfold addBusy
  by_cases hl : l.length < Config.busySlots
  · simp only [if_pos hl, List.length_append, List.length_singleton]
    exact hl
  · simp only [if_neg hl]
    cases hr : l.getLast? with
    | none => exact h
    | some r =>
      simp only [List.length_append, List.length_dropLast, List.length_singleton]
      have : ¬ l.length < 16 := hl
      omega

/-- Everything placing a record can do (R159). -/
theorem place_cases (n : Notices) (r : Notice) :
    ((n.queue.length < 31 ∨ (n.queue.length = 31 ∧ hasOverrun n.queue = true))
        ∧ n.place r = { n with queue := n.queue ++ [r] })
      ∨ (n.queue.length = 31 ∧ hasOverrun n.queue = false
        ∧ n.place r =
          { n with
            queue := n.queue ++ [{ r with kind := .overrun, param1 := r.kind.code, param2 := 1 }]
            summary := n.summary ||| NoticeKind.overrun.flag })
      ∨ (31 < n.queue.length ∧ n.place r = { n with queue := bumpOverrun n.queue }) := by
  unfold Notices.place Config.noticeSlots
  by_cases h1 : n.queue.length < 31 ∨ (n.queue.length = 31 ∧ hasOverrun n.queue = true)
  · rw [if_pos h1]; exact .inl ⟨h1, rfl⟩
  · rw [if_neg h1]
    by_cases h2 : n.queue.length = 31
    · rw [if_pos h2]
      refine .inr (.inl ⟨h2, ?_, rfl⟩)
      cases h3 : hasOverrun n.queue
      · rfl
      · exact absurd (.inr ⟨h2, h3⟩) h1
    · rw [if_neg h2]; exact .inr (.inr ⟨by omega, rfl⟩)

/-! ## The intake halt -/

/-- A halt that stands is not set again (R127). -/
@[simp] theorem takeHalt_set (h : s.dep.halt = true) : takeHalt s = s := by simp [takeHalt, h]
/-- Setting the halt hands over the beaconed free spaces, which become 0 (R127). -/
theorem takeHalt_clear (h : s.dep.halt = false) : takeHalt s = handFree (setDep { s.dep with halt := true } s) := by
  simp [takeHalt, h]
/-- With no halt there is nothing to resume (R128). -/
@[simp] theorem takeResume_clear (h : s.dep.halt = false) : takeResume s = s := by simp [takeResume, h]
/-- Clearing the halt is a beaconed change exactly where the true free spaces are above 0 (R128). -/
theorem takeResume_set (h : s.dep.halt = true) :
    takeResume s = if 0 < freeSpaces s then beaconedChange (setDep { s.dep with halt := false } s)
      else setDep { s.dep with halt := false } s := by
  rw [takeResume, if_pos h]; rfl

/-! ## Bad frames and the quiet timer -/

/-- Counting a bad frame touches the error count, the half mark and the notices alone (R76). -/
theorem countError_eq (s : State) :
    countError s = { s with
      link := { s.link with
        errors := min 65535 (s.link.errors + 1)
        half := s.link.half || decide (32768 ≤ min 65535 (s.link.errors + 1)) }
      notes := (countError s).notes } := by
  unfold countError
  by_cases h : 32768 ≤ min 65535 (s.link.errors + 1) <;> cases hh : s.link.half <;>
    simp [Config.halfMark, h, hh, setLink, raise]

/-- The quiet timer never stands above 1 s (R66). -/
theorem quietAfter_le (us : Nat) (q : Option Nat) : quietAfter us q ≤ 1000000 := by
  cases q <;> simp [quietAfter, Config.quietLimit]

end Sys2Proof.Machine
end

