-- ==== Sys2Proof/Tests/Slice0.lean ====
section
/-! SUPPORT. Tests: the worked examples of the manual, an ill-formed command for each check of WellFormed, and for each
statement with hypotheses a state and operands that meet all of them (`test_met_…`). -/

namespace Sys2Proof.Tests

open Sys2Proof Sys2Proof.Machine

set_option maxRecDepth 20000
set_option linter.unusedVariables false

/-! ## States used below -/

/-- The head of a well-formed request with sequence number 7. -/
def hd : ReqHead := ⟨7, true⟩
/-- The state a command leaves, or the state before it where it leaves none. -/
def after (c : Instr) (s : State) : State :=
  match exec c s with
  | .next t => t
  | _ => s
/-- The door after reset with the link joined. -/
def joined : State := { State.reset with link := { State.reset.link with line := .joined } }
/-- The door after reset with the clock at minute 300. -/
def clockSet : State := { State.reset with time := { State.reset.time with minute := 300, clockSet := true } }
/-- A docking record with drops 87 and 214, 20 spaces and a cut-off at minute 340. -/
def docked1 : Docking := ⟨[87, 214], 20, 1200, 90, 12, 340⟩
/-- An empty trailer docked at a joined door, 39 minutes before its cut-off. -/
def docked : State :=
  { joined with
    time := { joined.time with minute := 300, clockSet := true, m := 39 }
    docking := some docked1
    dep := { joined.dep with state := some .openBay, ready := true } }
/-- Two INBOUND pallets on the deck. -/
def loadedIn : State :=
  { docked with
    deck := { docked.deck with
      entries := [⟨.inbound, 5101, 87, 40, none, false⟩, ⟨.inbound, 5102, 87, 50, none, false⟩] } }
/-- The same, with an OPEN run. -/
def tipping : State :=
  { loadedIn with run := { loadedIn.run with mode := some .openEnded, remaining := none } }
/-- Two pallets in the Lane. -/
def laned : State :=
  { docked with lane := [⟨8103, 214, 2, 80, 0, false, false⟩, ⟨9900, 214, 2, 90, 0, false, false⟩] }
/-- One pallet in the Lane, which is the last one expected, with AUTOCLOSE. -/
def auto1 : State :=
  { docked with
    lane := [⟨8103, 214, 2, 80, 0, false, false⟩]
    straps := { docked.straps with autoClose := true }
    docking := some { docked1 with expected := 1 } }
/-- One OUTBOUND pallet on the deck. -/
def outbound1 : State :=
  { docked with deck := { docked.deck with entries := [⟨.outbound, 8103, 214, 80, some 2, false⟩] } }
/-- One hold, of a pallet from bay 17. -/
def held1 : State := { docked with store := { docked.store with holds := [⟨9120, some 87, some 1, 40, 17, 0⟩] } }
/-- One parked entry. -/
def parked1 : State := { docked with table := [⟨8201, 350, 40, .parked, false, []⟩] }
/-- One entry offered to bay 22. -/
def offered1 : State := { docked with table := [⟨8202, 350, 40, .offered 22 0 1 (.left 2), false, []⟩] }
/-- One entry that bay 22 has accepted. -/
def accepted1 : State := { joined with table := [⟨8202, 350, 40, .accepted 22 (some 7), false, []⟩] }
/-- The directory entry of bay 17. -/
def peer17 : DirEntry := ⟨17, .docked, some .openBay, [214, 87], 300, 0, 10, 5, 4, 1, none⟩
/-- A frame waiting to be sent. -/
def queued1 : State := { joined with link := { joined.link with queue := [⟨192, .done ⟨3⟩, false⟩] } }
/-- The same frame, on the line. -/
def onLine1 : State := { joined with link := { joined.link with queue := [⟨192, .done ⟨3⟩, true⟩] } }
/-- An OFFER on the line, for a group of one pallet. -/
def offering1 : State :=
  { joined with
    link := { joined.link with queue := [⟨49155, .offer ⟨3, 22, 0, 4, [⟨8202, 350, 40⟩]⟩, true⟩] }
    table := [⟨8202, 350, 40, .queued 22, false, []⟩]
    asm := { joined.asm with sendList := [⟨22, some 0, [8202], .short, false, true, false⟩] } }
/-- A reply being sent. -/
def busyState : State :=
  { State.reset with port := { inProgress := true, busy := [], reply := some ⟨3, .ok .tipEnd (.tipEnd 0), 0⟩ } }
/-- A door with one command waiting, and the state its step leaves. -/
def stepped : State := { State.reset with pending := [.secondBoundary] }
def stepAfter : State := after .secondBoundary State.reset
/-- A hold made at the reconciliation, for a pallet that bay 17 named. -/
def remade1 : State := { docked with store := { docked.store with holds := [⟨9300, none, none, 120, 17, 0⟩] } }
/-- One OUTBOUND pallet on the deck, for the first drop. -/
def fronted : State :=
  { docked with deck := { docked.deck with entries := [⟨.outbound, 8103, 87, 80, some 1, false⟩] } }
/-- A docking record with one space and a payload of 10. -/
def narrow1 : Docking := { docked1 with capacity := 1, payload := 10 }
/-- One hold, at a door of one space. -/
def narrow : State := { held1 with docking := some narrow1 }
/-- A door in CALLING, 39 minutes before its cut-off. -/
def calling1 : State :=
  { docked with dep := { docked.dep with state := some .calling, window := some 2, ready := false } }
/-- A door in WAITING for a pallet from bay 17, with an entry that bay 22 has accepted, one second before a minute. -/
def minute1 : State :=
  { held1 with
    time := { held1.time with seconds := 59 }
    dep := { held1.dep with state := some .waiting, allowance := some 4, ready := false }
    table := accepted1.table
    dir := { held1.dir with entries := [peer17] } }
/-- A docked door one second before the minute that brings its cutoff. -/
def last1 (s : State) : State := { s with time := { s.time with minute := 338, m := 1, seconds := 59 } }

/-- The answer to a command taken in a state. -/
def answerTo (c : Instr) (s : State) : Option Answer := (after c s).port.reply.map (·.answer)
/-- The labels on the deck from the nose to the rear. -/
def deckLabels (s : State) : List Nat := s.deck.entries.map (·.label)
/-- The labels in the Lane, oldest first. -/
def laneLabels (s : State) : List Nat := s.lane.map (·.label)
/-- The kinds and parameters of the notices queued. -/
def noticeLine (s : State) : List (NoticeKind × Nat × Nat) := s.notes.queue.map (fun n => (n.kind, n.param1, n.param2))
/-- An INBOUND and an OUTBOUND deck entry, and a lane entry tipped at this door. -/
def inE (label depot mass : Nat) : DeckEntry := ⟨.inbound, label, depot, mass, none, false⟩
def outE (label depot mass rank : Nat) : DeckEntry := ⟨.outbound, label, depot, mass, some rank, false⟩
def laneE (label depot rank mass : Nat) : LaneEntry := ⟨label, depot, rank, mass, 0, false, false⟩

/-! ## Words no frame or pin can give (9.6, 9.7): one ill-formed command for each check -/

theorem test_wf_seq : (Instr.tipEnd ⟨256, true⟩).wf = false := by decide
theorem test_wf_label : (Instr.load hd 4294967296).wf = false := by decide
theorem test_wf_depot : (Instr.declare hd 5 65536 40).wf = false := by decide
theorem test_wf_mass : (Instr.declare hd 5 87 256).wf = false := by decide
theorem test_wf_optional_depot : (Instr.tipOff hd 5 (some 65536) none).wf = false := by decide
theorem test_wf_optional_mass : (Instr.tipOff hd 5 none (some 256)).wf = false := by decide
theorem test_wf_dock_drops : (Instr.dock hd ⟨[65536], some 20, some 1200, none, none, some 340⟩).wf = false := by decide
theorem test_wf_dock_capacity : (Instr.dock hd ⟨[87], some 256, some 1200, none, none, some 340⟩).wf = false := by decide
theorem test_wf_dock_payload : (Instr.dock hd ⟨[87], some 20, some 65536, none, none, some 340⟩).wf = false := by decide
theorem test_wf_dock_handling : (Instr.dock hd ⟨[87], some 20, some 1200, some 256, none, some 340⟩).wf = false := by
  decide
theorem test_wf_dock_expected : (Instr.dock hd ⟨[87], some 20, some 1200, none, some 256, some 340⟩).wf = false := by
  decide
theorem test_wf_dock_cutoff : (Instr.dock hd ⟨[87], some 20, some 1200, none, none, some 65536⟩).wf = false := by decide
theorem test_wf_count : (Instr.tipStart hd (.counted 256)).wf = false := by decide
theorem test_wf_origin : (Instr.arrive hd 5 87 40 (some 256)).wf = false := by decide
theorem test_wf_cutoff : (Instr.setCutoff hd 65536).wf = false := by decide
theorem test_wf_expected : (Instr.setExpected hd 256).wf = false := by decide
theorem test_wf_minute : (Instr.setClock hd (some 65536)).wf = false := by decide
theorem test_wf_position : (Instr.readDeck hd 256).wf = false := by decide
theorem test_wf_unknown_is_no_request : (Instr.unknown 3 29).wf = false := by decide
theorem test_wf_key : (Instr.done 65536 ⟨5⟩).wf = false := by decide
theorem test_wf_beacon : (Instr.beacon 65489 ⟨17, 16, 1, [214], 300, 10, 5, 4⟩).wf = false := by decide
theorem test_wf_offer : (Instr.offer 49105 ⟨17, 3, 0, 4, [⟨8201, 87, 256⟩]⟩).wf = false := by decide
theorem test_wf_answer : (Instr.answer 32726 ⟨22, 3, 0, [⟨8202, 256⟩]⟩).wf = false := by decide
theorem test_wf_release : (Instr.release 32721 ⟨17, 256, 9120⟩).wf = false := by decide
theorem test_wf_receipt : (Instr.receipt 16342 ⟨22, 256, 8202⟩).wf = false := by decide
theorem test_wf_call : (Instr.call 16342 ⟨22, 256⟩).wf = false := by decide
theorem test_wf_hold : (Instr.hold 16337 ⟨17, 3, 0, List.replicate 16 1⟩).wf = false := by decide
theorem test_wf_heard_key : (Instr.lostContention 65536).wf = false := by decide
theorem test_wf_bay : (Instr.directoryEntryExpiry 256).wf = false := by decide
theorem test_wf_group : (Instr.answerTimerExpiry 22 256).wf = false := by decide
theorem test_wf_straps : (Instr.powerOn ⟨64, 0, 0, false, false⟩ false).wf = false := by decide
theorem test_wf_start_byte : (Instr.nonStartByteDiscarded 165).wf = false := by decide

/-! ## The worked cases of chapter 3: minutes, margin, urgency, keys and transit -/

theorem test_raw_minutes :
    [rawMinutes 1430 20, rawMinutes 20 1430, rawMinutes 100 820, rawMinutes 100 821, rawMinutes 300 300,
      rawMinutes 1439 0] = [30, 0, 720, 0, 0, 1] := by decide
theorem test_margin :
    ([(.reference, 0), (.fallback, 0), (.fallback, 37), (.returning, 139), (.returning, 140), (.fallback, 400)].map
      (fun x : ClockSource × Nat => 50 - margin { TimeBase.initial with source := x.1, fallback := x.2 }))
      = [50, 49, 46, 36, 35, 35] := by decide
theorem test_urgency_limits :
    [urgencyFor 95 30 12 90, urgencyFor 20 30 12 90, urgencyFor 27 30 12 90, urgencyFor 27 28 12 100,
      urgencyFor 28 30 12 90, urgencyFor 720 1 0 20, urgencyFor 95 12 12 90, urgencyFor 95 10 14 90,
      urgencyFor 0 30 12 90, urgencyFor 95 30 13 90] = [78, 255, 255, 254, 247, 10, 0, 0, 255, 77] := by decide
theorem test_keys :
    [precedenceKey 2 78 17, precedenceKey 2 78 41, precedenceKey 2 200 3, precedenceKey 0 255 22, precedenceKey 0 0 41,
      precedenceKey 1 31 17, precedenceKey 3 0 60, precedenceKey 3 0 3]
      = [44113, 44137, 36291, 22, 16361, 30737, 65532, 65475] := by decide
theorem test_transit : [transit 3 41, transit 17 22, transit 17 41, transit 1 60] = [8, 2, 6, 11] := by decide

/-! ## The worked sequence of 4.3: three keys in one gap -/

theorem test_bay_3_and_bay_41_withdraw :
    [withdraws 65475 44113, withdraws 44137 44113, withdraws 44113 44113] = [true, true, false] := by decide

/-! ## The worked sequences of chapters 1 and 2 -/

/-- Five declared pallets and a COUNTED run of 5 (1.5). -/
def five : State :=
  { docked with
    deck := { docked.deck with
      entries := [inE 5101 87 40, inE 5102 87 40, inE 5103 87 40, inE 5104 87 40, inE 5105 87 40] }
    run := { docked.run with mode := some .counted, remaining := some 5 } }

theorem test_order_correction :
    deckLabels (after (.tipOff hd 5103 none none) five) = [5101, 5102, 5105, 5104]
      ∧ noticeLine (after (.tipOff hd 5103 none none) five) = [(.orderCorrected, 5103, 2)] := by decide
theorem test_not_at_rear : answerTo (.tipOff hd 5102 none none) five = some (.refused .notAtRear .none) := by decide

/-- The multi-drop trailer of 1.6 after two LOADs: drops 214, 87 and 350. -/
def multiDrop : State :=
  { docked with
    docking := some { docked1 with drops := [214, 87, 350] }
    deck := { docked.deck with entries := [outE 6002 350 50 3, outE 6001 87 50 2] }
    lane := [laneE 6003 214 1 50, laneE 6004 350 3 50] }

theorem test_load_behind :
    after (.load hd 6004) multiDrop
      = { multiDrop with port := replyPort hd (.refused .sequence .none) multiDrop multiDrop } := by decide
theorem test_load_ahead : deckLabels (after (.load hd 6003) multiDrop) = [6002, 6001, 6003] := by decide
theorem test_unload_back :
    laneLabels (after (.unloadBack hd) multiDrop) = [6003, 6004, 6001]
      ∧ deckLabels (after (.unloadBack hd) multiDrop) = [6002] := by decide

/-- A full deck of two pallets (1.7). -/
def fullDeck : State :=
  { docked with
    docking := some { docked1 with capacity := 2 }
    deck := { docked.deck with entries := [inE 7001 87 40, inE 7002 87 40] } }

theorem test_deck_full :
    answerTo (.declare hd 7003 87 40) fullDeck = some (.refused .deckFull .none)
      ∧ (after (.declare hd 7003 87 40) fullDeck).deck.fault = some .overflow
      ∧ noticeLine (after (.declare hd 7003 87 40) fullDeck) = [(.deckFault, 1, 2)] := by decide
theorem test_no_run_on_a_loaded_deck_is_no_fault : (after (.tipOff hd 7002 none none) fullDeck).deck.fault = none := by
  decide
theorem test_read_deck_clears_the_fault :
    answerTo (.readDeck hd 0) { fullDeck with deck := { fullDeck.deck with fault := some .overflow } }
        = some (.ok .readDeck (.deck 2 (some 2) (some 2) (some (inE 7002 87 40)) (some .overflow)))
      ∧ (after (.readDeck hd 0) { fullDeck with deck := { fullDeck.deck with fault := some .overflow } }).deck.fault
        = none := by decide

/-- Bay 17 at minute 1200 in REFERENCE (2.5). -/
def bay17 : State :=
  { joined with
    straps := { joined.straps with bay := 17 }
    time := { joined.time with source := .reference, goodRun := 64, minute := 1200, clockSet := true } }

theorem test_dock :
    answerTo (.dock hd ⟨[214], some 26, some 2200, none, some 24, some 10⟩) bay17
      = some (.ok .dock (.dock 250 31 2200 90 24)) := by decide
theorem test_dock_past_the_horizon :
    answerTo (.dock hd ⟨[214], some 26, some 2200, none, some 24, some 821⟩)
      { bay17 with time := { bay17.time with minute := 100 } } = some (.refused .cutoffPassed .none) := by decide

/-- The swap tip of 2.5 before its fourth TIP OFF. -/
def swap : State :=
  { bay17 with
    docking := some ⟨[214], 26, 2200, 90, 24, 10⟩
    time := { bay17.time with m := 250 }
    dep := { bay17.dep with state := some .openBay, ready := true }
    deck := { bay17.deck with entries := [inE 8101 214 60, inE 8102 87 45] }
    lane := [laneE 8103 214 1 70, laneE 9900 214 1 120]
    run := ⟨some .counted, some 1, 3, .abort⟩ }

theorem test_count_ends_the_run :
    (after (.tipOff hd 8101 none none) swap).run = ⟨none, some 0, 4, .count⟩
      ∧ noticeLine (after (.tipOff hd 8101 none none) swap) = [(.orderCorrected, 8101, 1), (.tipDone, 256, 4)]
      ∧ laneLabels (after (.tipOff hd 8101 none none) swap) = [8103, 9900, 8101]
      ∧ freeSpaces (after (.tipOff hd 8101 none none) swap) = 23 := by decide
theorem test_count_with_the_deck_empty :
    noticeLine (after (.tipOff hd 8102 none none)
        { swap with deck := { swap.deck with entries := [inE 8102 87 45] }, run := ⟨some .counted, some 1, 0, .count⟩ })
      = [(.parked, 8102, 87), (.tipDone, 257, 1)] := by decide
theorem test_undeclared_mass_is_clamped :
    (after (.tipOff hd 9901 (some 214) (some 140)) { swap with run := ⟨some .openEnded, none, 2, .abort⟩ }).lane.getLast?
      = some (laneE 9901 214 1 120) := by decide
theorem test_tip_start_counts_the_deck :
    (after (.tipStart hd (.counted 0)) { swap with run := ⟨none, some 0, 4, .count⟩ }).run.remaining = some 2 := by decide

/-! ## The worked sequences of chapters 4 to 9 -/

/-- Bay 41 at its fifteenth failure, with two frames queued (4.7). -/
def failing : State :=
  { onLine1 with
    link := { onLine1.link with
      queue := [⟨16361, .receipt ⟨41, 3, 9050⟩, true⟩, ⟨65513, .beacon ⟨41, 1, 0, [], 0, 0, 0, 4⟩, false⟩]
      failures := 15, held := true } }

theorem test_sixteenth_failure :
    (after .transmitFailure failing).link.line = .faulted ∧ (after .transmitFailure failing).link.fails = 1
      ∧ (after .transmitFailure failing).link.held = false
      ∧ noticeLine (after .transmitFailure failing) = [(.linkDown, 1, 2)] := by decide

/-- Bay 3's directory of 5.4. -/
def doors : State :=
  { docked with
    docking := some { docked1 with drops := [120] }
    deck := { docked.deck with entries := [inE 1000 120 40, inE 1001 350 40] }
    run := { docked.run with mode := some .openEnded, remaining := none }
    dir := { docked.dir with
      changes := 212
      entries := [⟨17, .docked, some .openBay, [214], 190, 0, 31, 23, 4, 188, none⟩,
        ⟨22, .docked, some .openBay, [87, 350], 60, 0, 120, 2, 4, 207, none⟩,
        ⟨30, .docked, some .calling, [350], 40, 0, 201, 6, 4, 212, none⟩,
        ⟨41, .docked, some .openBay, [350], 95, 0, 78, 5, 4, 199, none⟩] } }

theorem test_nearest_cutoff_is_chosen :
    (after (.tipOff hd 1001 none none) doors).table = [⟨1001, 350, 40, .queued 22, false, []⟩]
      ∧ (after (.tipOff hd 1001 none none) doors).asm.openGroups = [⟨22, [1001], 0⟩] := by decide
theorem test_pledged_spaces_count :
    ((after (.tipOff hd 1003 (some 350) (some 40))
      { doors with table := [⟨1001, 350, 40, .queued 22, false, []⟩, ⟨1002, 350, 40, .queued 22, false, []⟩]
                   asm := { doors.asm with openGroups := [⟨22, [1001, 1002], 0⟩] } }).table.getLast?).map (·.state)
      = some (.queued 41) := by decide

/-- Bay 22 before the OFFER of 7.4, of which the first and the third pallet are offered here. -/
def bay22 : State :=
  { joined with
    straps := { joined.straps with bay := 22 }
    docking := some ⟨[87, 350], 18, 1200, 60, 18, 340⟩
    time := { joined.time with m := 40 }
    dep := { joined.dep with state := some .openBay }
    deck := { joined.deck with
      entries := [outE 1 350 390 2, outE 2 350 390 2] ++ (List.range 10).map (fun i => outE (i + 3) 350 0 2) }
    lane := [laneE 21 350 2 75, laneE 22 350 2 75]
    store := { joined.store with
      holds := [⟨9401, some 350, some 2, 50, 41, 0⟩, ⟨9402, some 350, some 2, 50, 41, 0⟩], owing := [41] } }

theorem test_offer_verdicts :
    (after (.offer 49105 ⟨17, 22, 6, 4, [⟨8301, 350, 90⟩, ⟨8302, 214, 60⟩, ⟨8303, 350, 90⟩]⟩) bay22).link.queue.head?.map
        (·.body)
      = some (.answer ⟨22, 17, 6, [⟨8301, 1⟩, ⟨8302, 5⟩, ⟨8303, 11⟩]⟩) := by decide
theorem test_offer_holds :
    usedSpaces (after (.offer 49105 ⟨17, 22, 6, 4, [⟨8301, 350, 90⟩]⟩) bay22) = 17
      ∧ usedMass (after (.offer 49105 ⟨17, 22, 6, 4, [⟨8301, 350, 90⟩]⟩) bay22) = 1120 := by decide

/-- Bay 17 with group 5 outstanding at bay 22 (6.3). -/
def slow : State :=
  { bay17 with table := [⟨8201, 87, 40, .offered 22 5 2 (.left 1), false, []⟩] }

theorem test_accept_starts_the_travel_timer :
    (after (.answer 32726 ⟨22, 17, 5, [⟨8201, 1⟩]⟩) slow).table = [⟨8201, 87, 40, .accepted 22 (some 7), false, []⟩]
      ∧ noticeLine (after (.answer 32726 ⟨22, 17, 5, [⟨8201, 1⟩]⟩) slow) = [(.deliver, 8201, 22)] := by decide
theorem test_late_accept_is_released :
    ((after (.answer 32726 ⟨22, 17, 5, [⟨8201, 1⟩]⟩)
      { slow with table := [⟨8201, 87, 40, .accepted 22 (some 7), false, []⟩] }).link.queue.map (·.body))
      = [.release ⟨17, 22, 8201⟩] := by decide

/-- Thirty records queued, none an OVERRUN (9.3). -/
def thirty : State := { docked with notes := { docked.notes with queue := List.replicate 30 ⟨.parked, 300, 0, 1, 2⟩ } }

theorem test_thirty_first_record :
    (raise .orderCorrected 1 1 thirty).notes.queue.length = 31
      ∧ hasOverrun (raise .orderCorrected 1 1 thirty).notes.queue = false := by decide
theorem test_overrun :
    (raise .tipDone 1 4 (raise .orderCorrected 1 1 thirty)).notes.queue.getLast? = some ⟨.overrun, 300, 0, 1, 1⟩ := by
  decide
theorem test_overrun_counts :
    (raise .deliver 5 22 (raise .tipDone 1 4 (raise .orderCorrected 1 1 thirty))).notes.queue.getLast?
      = some ⟨.overrun, 300, 0, 1, 2⟩ := by decide

/-! ## Reset, the clock and the closing call -/

theorem test_power_on_with_an_invalid_strap :
    (after (.powerOn ⟨0, 0, 0, false, false⟩ false) State.reset).link.line = .detached := by decide
theorem test_bad_pulse_at_the_limit :
    (after (.hallClockPulse 1100001)
      { docked with time := { docked.time with source := .reference, badRun := 2, sincePulse := some 0 } }).time.source
      = .fallback := by decide
theorem test_midnight :
    (after .secondBoundary
      { docked with time := { docked.time with seconds := 59, minute := 1439 } }).time.minute = 0 := by decide
theorem test_close_starts_the_call :
    (after (.close hd) docked).dep.state = some .calling
      ∧ ((after (.close hd) docked).link.queue.map (·.body.kind)) = [.call, .beacon] := by decide
theorem test_close_while_a_run_is_active :
    answerTo (.close hd) tipping = some (.refused .runActive .none) := by decide

/-! ## Bytes on the line and at the port (9.7) -/

/-- The check of x^16 + x^12 + x^5 + 1 with all ones at the start, over the nine digits 1 to 9: its published value. -/
theorem test_check : check16 (([49, 50, 51, 52, 53, 54, 55, 56, 57] : List Nat).map byteOf) = 10673 := by decide
theorem test_done_frame : frameHead 16325 (.done ⟨5⟩) = ([63, 197, 8, 1, 5] : List Nat).map byteOf := by decide
theorem test_request_frame :
    requestHead .load ⟨7, true⟩ 0 (be32 8103) = ([7, 7, 6, 0, 0, 0, 31, 167] : List Nat).map byteOf := by decide
/-- R31: route, target, run state, remaining count, tipped count. -/
theorem test_tip_off_reply :
    (ReplyData.tipOff true none true (some 3) 260).bytes = ([1, 0, 2, 3, 1, 4] : List Nat).map byteOf := by decide

/-! ## Bad frames, the halt and the quiet timer -/

/-- R76: the count comes before the slot, so the frame that sets the half mark is not objected to. -/
theorem test_half_mark_frame :
    (after .badFrameHeard { joined with link := { joined.link with errors := 32767 } }).link.objection = false := by
  decide
theorem test_bad_frame_is_objected_to : (after .badFrameHeard joined).link.objection = true := by decide
/-- R128: a beacon goes out although 20 free spaces were beaconed last. -/
theorem test_resume_beacons :
    (after (.resumeIntake hd) { docked with
      dep := { docked.dep with halt := true }
      dir := { docked.dir with last := { docked.dir.last with free := 20 } } }).link.queue.map (·.body.kind)
        = [.beacon] := by decide
/-- R45: the join lets no oscillator time pass; the next pulse carries it, and keeps its distance. -/
theorem test_pulse_after_the_quiet_join :
    (after (.hallClockPulse 800000) (after .quietTimerExpiry
      { State.reset with time := { State.reset.time with sincePulse := some 200000 } })).time.goodRun = 1 := by decide

/-! ## The hypotheses of every statement can be met -/

theorem test_met_StepRunsFrontCommand_2 :
    ∃ (s : State),
      s.pending = [] :=
  ⟨State.reset, by decide⟩

theorem test_met_EveryStepKeepsTheBudget :
    ∃ (s t : State),
      (BudgetLaw s ∧ ReconciledMass s) ∧ step s = .next t :=
  ⟨stepped, stepAfter, by decide, rfl⟩

theorem test_met_EveryStepKeepsTheDeckInOrder :
    ∃ (s t : State),
      DeckLaw s ∧ step s = .next t :=
  ⟨stepped, stepAfter, by decide, rfl⟩

theorem test_met_EveryStepKeepsLabelsUnique :
    ∃ (s t : State),
      LabelLaw s ∧ step s = .next t :=
  ⟨stepped, stepAfter, by decide, rfl⟩

theorem test_met_EveryStepKeepsTheTransmitQueue :
    ∃ (s t : State),
      (QueueLaw s ∧ OnLineLaw s) ∧ step s = .next t :=
  ⟨stepped, stepAfter, by decide, rfl⟩

theorem test_met_EveryStepKeepsTheNoticeQueueAndThePort :
    ∃ (s t : State),
      (NoticeLaw s ∧ PortLaw s) ∧ step s = .next t :=
  ⟨stepped, stepAfter, by decide, rfl⟩

theorem test_met_EveryStepKeepsTheUrgency :
    ∃ (s t : State),
      UrgencyLaw s ∧ step s = .next t :=
  ⟨stepped, stepAfter, by decide, rfl⟩

theorem test_met_EveryStepKeepsTheLineState :
    ∃ (s t : State),
      (LinkLaw s ∧ CountLaw s) ∧ step s = .next t :=
  ⟨stepped, stepAfter, by decide, rfl⟩

theorem test_met_EveryStepKeepsTheDirectory :
    ∃ (s t : State),
      (DirectoryLaw s ∧ IntervalLaw s ∧ (∀ c ∈ s.pending, c.wf = true)) ∧ step s = .next t :=
  ⟨stepped, stepAfter, by decide, rfl⟩

theorem test_met_EveryStepKeepsTransfersAndGroups :
    ∃ (s t : State),
      (TableLaw s ∧ GroupLaw s ∧ NumberLaw s) ∧ step s = .next t :=
  ⟨stepped, stepAfter, by decide, rfl⟩

theorem test_met_EveryStepKeepsDepartureControl :
    ∃ (s t : State),
      (DepartureLaw s ∧ ClosedHolds s ∧ ReadyLaw s) ∧ step s = .next t :=
  ⟨stepped, stepAfter, by decide, rfl⟩

theorem test_met_EveryStepKeepsTimeRunAndRecord :
    ∃ (s t : State),
      (TimeLaw s ∧ DockingLaw s ∧ DeckBounded s ∧ RunLaw s ∧ VacantMinutes s ∧ OwingLaw s) ∧ step s = .next t :=
  ⟨stepped, stepAfter, by decide, rfl⟩

theorem test_met_ResetPinStopsEverything :
    ∃ (c : Instr) (s : State),
      s.pins.resetHeld = true ∧ (∀ p b, c ≠ .powerOn p b) ∧ c ≠ .resetAsserted :=
  ⟨.secondBoundary, { State.reset with pins := { resetHeld := true, shutter := false } }, by decide, nofun, by decide⟩

theorem test_met_RefusedRequestsChangeNothing_1 :
    ∃ (c : Instr) (s t : State) (r : Reply) (k : RefusalCode) (d : ReplyData),
      s.port.reply = none ∧ exec c s = .next t ∧ t.port.reply = some r ∧ r.answer = .refused k d :=
  ⟨(.tipEnd ⟨7, true⟩), State.reset, (after (.tipEnd ⟨7, true⟩) State.reset), ⟨7, .refused .noRun .none, 0⟩, .noRun,
   .none, by decide, rfl, by decide⟩

theorem test_met_RefusedRequestsChangeNothing_2 :
    ∃ (h : ReqHead) (label : Nat) (depot mass : Option Nat) (s : State),
      Taken h s ∧ s.run.mode = none ∧ s.deck.entries = [] :=
  ⟨hd, 5101, none, none, docked, by decide⟩

theorem test_met_RequestsWaitTheirTurn_1 :
    ∃ (c : Instr) (h : ReqHead) (s : State),
      s.pins.resetHeld = false ∧ s.port.inProgress = true ∧ (c.reqHead = some h ∨ c = .busy h.seq) ∧
      s.port.busy.length < 16 :=
  ⟨(.busy 9), ⟨9, true⟩, busyState, by decide⟩

theorem test_met_RequestsWaitTheirTurn_2 :
    ∃ (c : Instr) (h : ReqHead) (s : State) (older : List BusyRecord) (r : BusyRecord),
      s.pins.resetHeld = false ∧ s.port.inProgress = true ∧ (c.reqHead = some h ∨ c = .busy h.seq) ∧ s.port.busy =
      older ++ [r] ∧ older.length = 15 :=
  ⟨(.busy 9), ⟨9, true⟩, { busyState with port := { busyState.port with busy := List.replicate 16 ⟨1, 1⟩ } },
   (List.replicate 15 ⟨1, 1⟩), ⟨1, 1⟩, by decide⟩

theorem test_met_FramesBadInFormAreRefused_1 :
    ∃ (seq : Option Nat) (s : State),
      s.pins.resetHeld = false ∧ s.port.inProgress = false :=
  ⟨none, State.reset, by decide⟩

theorem test_met_FramesBadInFormAreRefused_2 :
    ∃ (seq code : Nat) (s : State),
      s.pins.resetHeld = false ∧ s.port.inProgress = false :=
  ⟨3, 40, State.reset, by decide⟩

theorem test_met_FramesBadInFormAreRefused_3 :
    ∃ (c : Instr) (h : ReqHead) (s : State),
      s.pins.resetHeld = false ∧ s.port.inProgress = false ∧ c.reqHead = some h ∧ h.formOk = false :=
  ⟨(.close ⟨3, false⟩), ⟨3, false⟩, State.reset, by decide⟩

theorem test_met_RepliesFollowOneAnother_1 :
    ∃ (s : State) (left : List BusyRecord),
      s.pins.resetHeld = false ∧ s.port.inProgress = true ∧ left = (if sendingBusy s.port then s.port.busy.tail else
      s.port.busy) ∧ left = [] :=
  ⟨{ busyState with port := { busyState.port with busy := [] } }, [], by decide⟩

theorem test_met_RepliesFollowOneAnother_2 :
    ∃ (s : State) (r : BusyRecord) (rest : List BusyRecord),
      s.pins.resetHeld = false ∧ s.port.inProgress = true ∧ r :: rest = (if sendingBusy s.port then s.port.busy.tail
      else s.port.busy) :=
  ⟨{ busyState with port := { busyState.port with busy := [⟨5, 2⟩] } }, ⟨5, 2⟩, [], by decide⟩

theorem test_met_FloorFramesReadBack :
    ∃ (key own : Nat) (b : Body),
      key < 65536 ∧ b.wf = true ∧ framingOk key b = true :=
  ⟨16325, 3, (.done ⟨5⟩), by decide⟩

theorem test_met_RequestFramesReadBack :
    ∃ (i : Instr) (h : ReqHead) (bytes : List Byte),
      i.wf = true ∧ i.reqHead = some h ∧ h.formOk = true ∧ requestBytes i = some bytes ∧ bytes.length ≤ 36 :=
  ⟨(.tipEnd ⟨7, true⟩), ⟨7, true⟩, ((requestBytes (.tipEnd ⟨7, true⟩)).getD []), by decide⟩

theorem test_met_NoticesRaisedAreKeptOrCounted :
    ∃ (k : NoticeKind) (a b : Nat) (s : State),
      NoticeLaw s ∧ k ≠ .overrun :=
  ⟨.parked, 1, 2, State.reset, by decide⟩

theorem test_met_DockBindsTheTrailer_1 :
    ∃ (h : ReqHead) (p : DockParams) (s : State) (c pl k : Nat),
      Taken h s ∧ s.docking = none ∧ s.time.clockSet = true ∧ p.capacity = some c ∧ p.payload = some pl ∧ p.cutoff =
      some k ∧ dropsOk p.drops = true ∧ 1 ≤ c ∧ c ≤ 52 ∧ k ≤ 1439 ∧ effectiveMinutes s.time k ≠ 0 ∧
      (s.straps.autoClose = false ∨ outboundCount s.deck < min c (p.expected.getD c)) :=
  ⟨hd, ⟨[87, 214], some 20, some 1200, none, some 12, some 340⟩, clockSet, 20, 1200, 340, by decide⟩

theorem test_met_DockBindsTheTrailer_2 :
    ∃ (h : ReqHead) (p : DockParams) (s : State) (c pl k : Nat),
      Taken h s ∧ s.docking = none ∧ s.time.clockSet = true ∧ p.capacity = some c ∧ p.payload = some pl ∧ p.cutoff =
      some k ∧ dropsOk p.drops = true ∧ 1 ≤ c ∧ c ≤ 52 ∧ k ≤ 1439 ∧ effectiveMinutes s.time k ≠ 0 ∧
      s.straps.autoClose = true ∧ min c (p.expected.getD c) ≤ outboundCount s.deck ∧ s.dep.autoWas = false ∧
      s.store.owing = [] ∧ s.store.holds = [] ∧ s.lane = [] ∧ s.run.mode = none ∧ s.link.line = .joined ∧
      s.link.queue.length < 15 :=
  ⟨hd, ⟨[87, 214], some 20, some 1200, none, some 0, some 312⟩,
   { clockSet with link := joined.link, straps := { clockSet.straps with autoClose := true } }, 20, 1200, 312,
   by decide⟩

theorem test_met_DockBindsTheTrailer_3 :
    ∃ (h : ReqHead) (p : DockParams) (s : State) (c pl k : Nat),
      Taken h s ∧ s.docking = none ∧ s.time.clockSet = true ∧ p.capacity = some c ∧ p.payload = some pl ∧ p.cutoff =
      some k ∧ dropsOk p.drops = true ∧ 1 ≤ c ∧ c ≤ 52 ∧ k ≤ 1439 ∧ effectiveMinutes s.time k ≠ 0 ∧
      s.straps.autoClose = true ∧ min c (p.expected.getD c) ≤ outboundCount s.deck ∧ s.dep.autoWas = false ∧
      s.store.owing = [] ∧ s.store.holds = [] ∧ s.lane = [] ∧ (s.run.mode ≠ none ∨ s.link.line ≠ .joined) :=
  ⟨hd, ⟨[87, 214], some 20, some 1200, none, some 0, some 340⟩,
   { clockSet with straps := { clockSet.straps with autoClose := true } }, 20, 1200, 340, by decide⟩

theorem test_met_DeclarePushesAnInboundEntry_1 :
    ∃ (h : ReqHead) (label depot mass : Nat) (s : State) (d : Docking),
      Taken h s ∧ s.docking = some d ∧ s.run.mode = none ∧ outboundCount s.deck = 0 ∧ label ≠ 0 ∧ depotOk depot =
      true ∧ mass ≠ 0 ∧ labelKnown s label = false ∧ s.deck.entries.length < d.capacity :=
  ⟨hd, 5101, 87, 40, docked, docked1, by decide⟩

theorem test_met_DeclarePushesAnInboundEntry_2 :
    ∃ (h : ReqHead) (label depot mass : Nat) (s : State) (d : Docking),
      Taken h s ∧ s.docking = some d ∧ s.run.mode = none ∧ outboundCount s.deck = 0 ∧ label ≠ 0 ∧ depotOk depot =
      true ∧ mass ≠ 0 ∧ labelKnown s label = false ∧ d.capacity ≤ s.deck.entries.length :=
  ⟨hd, 5101, 87, 40, { docked with docking := some { docked1 with capacity := 0 } }, { docked1 with capacity := 0 },
   by decide⟩

theorem test_met_TipStartBeginsARun_1 :
    ∃ (h : ReqHead) (s : State),
      Taken h s ∧ s.docking.isSome = true ∧ s.run.mode = none :=
  ⟨hd, docked, by decide⟩

theorem test_met_TipStartBeginsARun_2 :
    ∃ (h : ReqHead) (n : Nat) (s : State) (r : Nat),
      Taken h s ∧ s.docking.isSome = true ∧ s.run.mode = none ∧ n ≤ 52 ∧ r = (if n = 0 then inboundCount s.deck else
      n) ∧ r ≠ 0 :=
  ⟨hd, 0, loadedIn, 2, by decide⟩

theorem test_met_TipStartBeginsARun_2_greatest :
    ∃ (h : ReqHead) (n : Nat) (s : State) (r : Nat),
      Taken h s ∧ s.docking.isSome = true ∧ s.run.mode = none ∧ n ≤ 52 ∧ r = (if n = 0 then inboundCount s.deck else
      n) ∧ r ≠ 0 :=
  ⟨hd, 52, docked, 52, by decide⟩

theorem test_met_TipStartBeginsARun_3 :
    ∃ (h : ReqHead) (mode : TipModeArg) (s : State),
      Taken h s ∧ s.docking = none :=
  ⟨hd, .neither, State.reset, by decide⟩

theorem test_met_TipStartBeginsARun_4 :
    ∃ (h : ReqHead) (mode : TipModeArg) (s : State),
      Taken h s ∧ s.docking.isSome = true ∧ s.run.mode ≠ none :=
  ⟨hd, (.counted 53), tipping, by decide⟩

theorem test_met_TipStartBeginsARun_5 :
    ∃ (h : ReqHead) (mode : TipModeArg) (n : Nat) (s : State),
      Taken h s ∧ s.docking.isSome = true ∧ s.run.mode = none ∧ (mode = .neither ∨ (mode = .counted n ∧ (52 < n ∨ (n
      = 0 ∧ inboundCount s.deck = 0)))) :=
  ⟨hd, (.counted 53), 53, docked, by decide⟩

theorem test_met_TipStartBeginsARun_5_zero :
    ∃ (h : ReqHead) (mode : TipModeArg) (n : Nat) (s : State),
      Taken h s ∧ s.docking.isSome = true ∧ s.run.mode = none ∧ (mode = .neither ∨ (mode = .counted n ∧ (52 < n ∨ (n
      = 0 ∧ inboundCount s.deck = 0)))) :=
  ⟨hd, (.counted 0), 0, docked, by decide⟩

theorem test_met_TipStartBeginsARun_5_neither :
    ∃ (h : ReqHead) (mode : TipModeArg) (n : Nat) (s : State),
      Taken h s ∧ s.docking.isSome = true ∧ s.run.mode = none ∧ (mode = .neither ∨ (mode = .counted n ∧ (52 < n ∨ (n
      = 0 ∧ inboundCount s.deck = 0)))) :=
  ⟨hd, .neither, 0, docked, by decide⟩

theorem test_met_TipOffMovesAPalletToTheLane_1 :
    ∃ (h : ReqHead) (label : Nat) (depot mass : Option Nat) (s : State) (k rank : Nat) (e : DeckEntry),
      Taken h s ∧ label ≠ 0 ∧ (∀ d ∈ depot, depotOk d = true) ∧ mass ≠ some 0 ∧ s.run.mode ≠ none ∧ (s.run.mode =
      some .counted → s.run.remaining ≠ some 1 ∧ s.run.remaining ≠ some 0) ∧ examineLabel s.deck label = some (k, e)
      ∧ e.tag = .inbound ∧ k < 3 ∧ 1 < inboundCount s.deck ∧ rankOf (dropList s) e.depot = some rank ∧ admission
      e.mass s = .admitted :=
  ⟨hd, 5102, none, none, tipping, 0, 1, ⟨.inbound, 5102, 87, 50, none, false⟩, by decide⟩

theorem test_met_TipOffMovesAPalletToTheLane_2 :
    ∃ (h : ReqHead) (label depot mass rank : Nat) (s : State),
      Taken h s ∧ label ≠ 0 ∧ depotOk depot = true ∧ mass ≠ 0 ∧ s.run.mode ≠ none ∧ (s.run.mode = some .counted →
      s.run.remaining ≠ some 1 ∧ s.run.remaining ≠ some 0) ∧ labelKnown s label = false ∧ rankOf (dropList s) depot
      = some rank ∧ admission (min mass 120) s = .admitted :=
  ⟨hd, 9900, 214, 30, 2, tipping, by decide⟩

theorem test_met_TipOffOffersAPalletElsewhere_1 :
    ∃ (h : ReqHead) (label : Nat) (s : State) (e : DeckEntry),
      Taken h s ∧ label ≠ 0 ∧ s.run.mode ≠ none ∧ (s.run.mode = some .counted → s.run.remaining ≠ some 1 ∧
      s.run.remaining ≠ some 0) ∧ examineLabel s.deck label = some (0, e) ∧ e.tag = .inbound ∧ 1 < inboundCount
      s.deck ∧ rankOf (dropList s) e.depot = none ∧ s.table.length < 96 ∧ inTable s label = false ∧ (∀ d ∈
      s.dir.entries, candidate s (⟨label, e.depot, e.mass, .parked, false, []⟩ : TransferEntry) d = false) :=
  ⟨hd, 5102, { tipping with docking := some { docked1 with drops := [214] } }, ⟨.inbound, 5102, 87, 50, none, false⟩,
   by decide⟩

theorem test_met_TipOffOffersAPalletElsewhere_2 :
    ∃ (h : ReqHead) (label : Nat) (s : State) (e : DeckEntry),
      Taken h s ∧ label ≠ 0 ∧ s.run.mode ≠ none ∧ (s.run.mode = some .counted → s.run.remaining ≠ some 1 ∧
      s.run.remaining ≠ some 0) ∧ examineLabel s.deck label = some (0, e) ∧ e.tag = .inbound ∧ 1 < inboundCount
      s.deck ∧ rankOf (dropList s) e.depot = none ∧ s.table.length < 96 ∧ inTable s label = false ∧ (∃ d ∈
      s.dir.entries, candidate s (⟨label, e.depot, e.mass, .parked, false, []⟩ : TransferEntry) d = true) :=
  ⟨hd, 5102,
   { tipping with docking := some { docked1 with drops := [214] }, dir := { tipping.dir with entries := [peer17] } },
   ⟨.inbound, 5102, 87, 50, none, false⟩, by decide⟩

theorem test_met_RunsEndWithTheirGroups_1 :
    ∃ (h : ReqHead) (s : State),
      Taken h s ∧ s.run.mode ≠ none ∧ s.asm.targets.Pairwise (fun a b => a.bay < b.bay) :=
  ⟨hd, tipping, by decide⟩

theorem test_met_RunsEndWithTheirGroups_2 :
    ∃ (h : ReqHead) (s : State),
      Taken h s ∧ s.run.mode = none :=
  ⟨hd, docked, by decide⟩

theorem test_met_RunsEndWithTheirGroups_3 :
    ∃ (h : ReqHead) (label : Nat) (s : State) (rank : Nat) (e : DeckEntry),
      Taken h s ∧ label ≠ 0 ∧ s.run.mode = some .counted ∧ s.run.remaining = some 1 ∧ examineLabel s.deck label =
      some (0, e) ∧ e.tag = .inbound ∧ rankOf (dropList s) e.depot = some rank ∧ admission e.mass s = .admitted :=
  ⟨hd, 5102, { tipping with run := { tipping.run with mode := some .counted, remaining := some 1 } }, 1,
   ⟨.inbound, 5102, 87, 50, none, false⟩, by decide⟩

theorem test_met_RunsEndWithTheirGroups_4 :
    ∃ (h : ReqHead) (label : Nat) (s : State) (rank : Nat) (e : DeckEntry),
      Taken h s ∧ label ≠ 0 ∧ s.run.mode ≠ none ∧ (s.run.mode = some .counted → s.run.remaining ≠ some 1 ∧
      s.run.remaining ≠ some 0) ∧ inboundCount s.deck = 1 ∧ examineLabel s.deck label = some (0, e) ∧ e.tag =
      .inbound ∧ rankOf (dropList s) e.depot = some rank ∧ admission e.mass s = .admitted :=
  ⟨hd, 5101, { tipping with deck := { tipping.deck with entries := [⟨.inbound, 5101, 87, 40, none, false⟩] } }, 1,
   ⟨.inbound, 5101, 87, 40, none, false⟩, by decide⟩

theorem test_met_LoadMovesAPalletOntoTheDeck :
    ∃ (h : ReqHead) (label : Nat) (s : State) (d : Docking) (e : LaneEntry),
      Taken h s ∧ s.docking = some d ∧ s.lane.find? (fun x => x.label == label) = some e ∧ inboundCount s.deck = 0 ∧
      compareRank s.deck e.rank ≠ .behind ∧ s.deck.entries.length < d.capacity ∧ NoAutoclose s :=
  ⟨hd, 8103, laned, docked1, ⟨8103, 214, 2, 80, 0, false, false⟩, by decide⟩

theorem test_met_LoadMayStartTheCall :
    ∃ (h : ReqHead) (s : State) (d : Docking) (e : LaneEntry),
      Taken h s ∧ s.docking = some d ∧ s.lane = [e] ∧ inboundCount s.deck = 0 ∧ compareRank s.deck e.rank ≠ .behind
      ∧ s.deck.entries.length < d.capacity ∧ s.straps.autoClose = true ∧ s.dep.state = some .openBay ∧ s.dep.autoWas
      = false ∧ s.run.mode = none ∧ s.store.owing = [] ∧ s.store.holds = [] ∧ d.expected ≤ outboundCount s.deck + 1
      ∧ (s.link.line = .joined ∨ s.time.m = 0) ∧ s.link.queue.length < 15 :=
  ⟨hd, auto1, { docked1 with expected := 1 }, ⟨8103, 214, 2, 80, 0, false, false⟩, by decide⟩

theorem test_met_UnloadBackReturnsTheRearPallet_1 :
    ∃ (h : ReqHead) (s : State) (e : DeckEntry) (rank : Nat),
      Taken h s ∧ s.deck.entries.getLast? = some e ∧ e.tag = .outbound ∧ e.rank = some rank :=
  ⟨hd, outbound1, ⟨.outbound, 8103, 214, 80, some 2, false⟩, 2, by decide⟩

theorem test_met_UnloadBackReturnsTheRearPallet_2 :
    ∃ (h : ReqHead) (s : State),
      Taken h s ∧ outboundCount s.deck = 0 :=
  ⟨hd, docked, by decide⟩

theorem test_met_ArriveTurnsAHoldIntoALaneEntry_1 :
    ∃ (h : ReqHead) (label depot mass : Nat) (origin : Option Nat) (s : State) (rank : Nat) (hd : Hold) (dp rk :
    Nat),
      Taken h s ∧ s.docking.isSome = true ∧ label ≠ 0 ∧ depotOk depot = true ∧ mass ≠ 0 ∧ (∀ o ∈ origin, bayOk o =
      true ∧ o ≠ s.straps.bay) ∧ s.dep.state ≠ some .closed ∧ rankOf (dropList s) depot = some rank ∧ onDeck s label
      = false ∧ inLane s label = false ∧ inTable s label = false ∧ s.store.holds.find? (fun x => x.label == label) =
      some hd ∧ hd.depot = some dp ∧ hd.rank = some rk ∧ (s.dep.state ≠ some .waiting ∨ s.store.holds.filter (fun x
      => x.label != label) ≠ []) :=
  ⟨hd, 9120, 87, 40, none, held1, 1, ⟨9120, some 87, some 1, 40, 17, 0⟩, 87, 1, by decide⟩

theorem test_met_ArriveTurnsAHoldIntoALaneEntry_2 :
    ∃ (h : ReqHead) (label depot mass : Nat) (origin : Option Nat) (s : State) (rank : Nat) (hd : Hold) (dp rk :
    Nat),
      Taken h s ∧ s.docking.isSome = true ∧ label ≠ 0 ∧ depotOk depot = true ∧ mass ≠ 0 ∧ (∀ o ∈ origin, bayOk o =
      true ∧ o ≠ s.straps.bay) ∧ s.dep.state ≠ some .closed ∧ rankOf (dropList s) depot = some rank ∧ onDeck s label
      = false ∧ inLane s label = false ∧ inTable s label = false ∧ s.store.holds.find? (fun x => x.label == label) =
      some hd ∧ hd.depot = some dp ∧ hd.rank = some rk ∧ s.dep.state = some .waiting ∧ s.store.holds.filter (fun x
      => x.label != label) = [] :=
  ⟨hd, 9120, 87, 40, none, { held1 with dep := { held1.dep with state := some .waiting, allowance := some 4 } }, 1,
   ⟨9120, some 87, some 1, 40, 17, 0⟩, 87, 1, by decide⟩

theorem test_met_ArriveTurnsAHoldIntoALaneEntry_3 :
    ∃ (h : ReqHead) (label depot mass : Nat) (origin : Option Nat) (s : State) (rank : Nat) (hd : Hold),
      Taken h s ∧ s.docking.isSome = true ∧ label ≠ 0 ∧ depotOk depot = true ∧ mass ≠ 0 ∧ (∀ o ∈ origin, bayOk o =
      true ∧ o ≠ s.straps.bay) ∧ s.dep.state ≠ some .closed ∧ rankOf (dropList s) depot = some rank ∧ onDeck s label
      = false ∧ inLane s label = false ∧ inTable s label = false ∧ s.store.holds.find? (fun x => x.label == label) =
      some hd ∧ hd.depot = none ∧ hd.rank = none ∧ (s.dep.state ≠ some .waiting ∨ s.store.holds.filter (fun x =>
      x.label != label) ≠ []) :=
  ⟨hd, 9300, 214, 121, (some 22), remade1, 2, ⟨9300, none, none, 120, 17, 0⟩, by decide⟩

theorem test_met_ArriveTurnsAHoldIntoALaneEntry_4 :
    ∃ (h : ReqHead) (label depot mass : Nat) (origin : Option Nat) (s : State) (rank : Nat) (hd : Hold),
      Taken h s ∧ s.docking.isSome = true ∧ label ≠ 0 ∧ depotOk depot = true ∧ mass ≠ 0 ∧ (∀ o ∈ origin, bayOk o =
      true ∧ o ≠ s.straps.bay) ∧ s.dep.state ≠ some .closed ∧ rankOf (dropList s) depot = some rank ∧ onDeck s label
      = false ∧ inLane s label = false ∧ inTable s label = false ∧ s.store.holds.find? (fun x => x.label == label) =
      some hd ∧ hd.depot = none ∧ hd.rank = none ∧ s.dep.state = some .waiting ∧ s.store.holds.filter (fun x =>
      x.label != label) = [] :=
  ⟨hd, 9300, 214, 121, (some 22),
   { remade1 with dep := { remade1.dep with state := some .waiting, allowance := some 4 } }, 2,
   ⟨9300, none, none, 120, 17, 0⟩, by decide⟩

theorem test_met_ArriveTakesAnUnannouncedPalletThatFits_1 :
    ∃ (h : ReqHead) (label depot mass : Nat) (origin : Option Nat) (s : State) (rank : Nat) (d : Docking),
      Taken h s ∧ s.docking.isSome = true ∧ label ≠ 0 ∧ depotOk depot = true ∧ mass ≠ 0 ∧ (∀ o ∈ origin, bayOk o =
      true ∧ o ≠ s.straps.bay) ∧ s.dep.state ≠ some .closed ∧ rankOf (dropList s) depot = some rank ∧ onDeck s label
      = false ∧ inLane s label = false ∧ inTable s label = false ∧ inHolds s label = false ∧ s.docking = some d ∧
      usedSpaces s < d.capacity ∧ usedMass s + min mass 120 ≤ d.payload :=
  ⟨hd, 9121, 87, 40, (some 17), docked, 1, docked1, by decide⟩

theorem test_met_ArriveTakesAnUnannouncedPalletThatFits_2 :
    ∃ (h : ReqHead) (label depot mass : Nat) (origin : Option Nat) (s : State) (rank : Nat) (d : Docking),
      Taken h s ∧ s.docking.isSome = true ∧ label ≠ 0 ∧ depotOk depot = true ∧ mass ≠ 0 ∧ (∀ o ∈ origin, bayOk o =
      true ∧ o ≠ s.straps.bay) ∧ s.dep.state ≠ some .closed ∧ rankOf (dropList s) depot = some rank ∧ onDeck s label
      = false ∧ inLane s label = false ∧ inTable s label = false ∧ inHolds s label = false ∧ s.docking = some d ∧
      (d.capacity ≤ usedSpaces s ∨ d.payload < usedMass s + min mass 120) :=
  ⟨hd, 9121, 87, 40, (some 17), { docked with docking := some { docked1 with payload := 10 } }, 1,
   { docked1 with payload := 10 }, by decide⟩

theorem test_met_DepartEndsTheDocking_1 :
    ∃ (h : ReqHead) (s : State),
      Taken h s ∧ s.docking.isSome = true ∧ (s.dep.state = some .closed ∨ (s.dep.state = some .openBay ∧ dropList s
      = [] ∧ s.deck.entries = [])) ∧ s.run.mode = none ∧ s.lane = [] :=
  ⟨hd, { docked with dep := { docked.dep with state := some .closed } }, by decide⟩

theorem test_met_DepartEndsTheDocking_2 :
    ∃ (h : ReqHead) (s : State),
      Taken h s ∧ s.docking.isSome = true ∧ (s.dep.state = some .closed ∨ (s.dep.state = some .openBay ∧ dropList s
      = [] ∧ s.deck.entries = [])) ∧ s.run.mode = none ∧ s.lane.length + s.table.length ≤ 96 :=
  ⟨hd, { laned with dep := { laned.dep with state := some .closed } }, by decide⟩

theorem test_met_DepartEndsTheDocking_3 :
    ∃ (h : ReqHead) (s : State),
      Taken h s ∧ s.docking.isSome = true ∧ s.dep.state = some .closed ∧ s.run.mode ≠ none ∧ s.lane = [] :=
  ⟨hd, { tipping with dep := { tipping.dep with state := some .closed } }, by decide⟩

theorem test_met_WithdrawRemovesAnEntry_1 :
    ∃ (h : ReqHead) (label : Nat) (s : State) (e : TransferEntry),
      Taken h s ∧ label ≠ 0 ∧ entryOf s label = some e ∧ releaseTarget e.state = none :=
  ⟨hd, 8201, parked1, ⟨8201, 350, 40, .parked, false, []⟩, by decide⟩

theorem test_met_WithdrawRemovesAnEntry_2 :
    ∃ (h : ReqHead) (label target : Nat) (s : State) (e : TransferEntry),
      Taken h s ∧ label ≠ 0 ∧ entryOf s label = some e ∧ releaseTarget e.state = some target ∧ hasRoom 1
      s.link.queue = true :=
  ⟨hd, 8202, 22, offered1, ⟨8202, 350, 40, .offered 22 0 1 (.left 2), false, []⟩, by decide⟩

theorem test_met_WithdrawRemovesAnEntry_3 :
    ∃ (h : ReqHead) (label target : Nat) (s : State) (e : TransferEntry),
      Taken h s ∧ label ≠ 0 ∧ entryOf s label = some e ∧ releaseTarget e.state = some target ∧ hasRoom 1
      s.link.queue = false :=
  ⟨hd, 8202, 22, { offered1 with link := { offered1.link with queue := List.replicate 16 ⟨192, .done ⟨3⟩, false⟩ } },
   ⟨8202, 350, 40, .offered 22 0 1 (.left 2), false, []⟩, by decide⟩

theorem test_met_HaltAndResumeSetTheFlag_1 :
    ∃ (h : ReqHead) (s : State),
      Taken h s ∧ s.docking.isSome = true :=
  ⟨hd, docked, by decide⟩

theorem test_met_HaltAndResumeSetTheFlag_2 :
    ∃ (h : ReqHead) (s : State),
      Taken h s ∧ s.docking.isSome = true :=
  ⟨hd, { docked with dep := { docked.dep with halt := true } }, by decide⟩

theorem test_met_CloseStartsTheCall_1 :
    ∃ (h : ReqHead) (s : State),
      Taken h s ∧ s.docking.isSome = true ∧ (s.run.mode = none ∨ inboundCount s.deck = 0) ∧ (s.link.line = .joined ∨
      s.time.m = 0) ∧ hasRoom 0 s.link.queue = true ∧ s.dep.state = some .openBay :=
  ⟨hd, docked, by decide⟩

theorem test_met_CloseStartsTheCall_2 :
    ∃ (h : ReqHead) (s : State),
      Taken h s ∧ s.docking.isSome = true ∧ (s.run.mode = none ∨ inboundCount s.deck = 0) ∧ (s.link.line = .joined ∨
      s.time.m = 0) ∧ hasRoom 0 s.link.queue = true ∧ s.dep.state ≠ some .openBay :=
  ⟨hd, { docked with dep := { docked.dep with state := some .calling, window := some 0 } }, by decide⟩

theorem test_met_ReopenReturnsToOpen_1 :
    ∃ (h : ReqHead) (s : State),
      Taken h s ∧ s.docking.isSome = true ∧ (s.dep.state = some .calling ∨ s.dep.state = some .waiting) :=
  ⟨hd, { docked with dep := { docked.dep with state := some .calling, window := some 0 } }, by decide⟩

theorem test_met_ReopenReturnsToOpen_2 :
    ∃ (h : ReqHead) (s : State),
      Taken h s ∧ s.docking.isSome = true ∧ s.dep.state = some .openBay :=
  ⟨hd, docked, by decide⟩

theorem test_met_SetCutoffAndExpectedRecompute_1 :
    ∃ (h : ReqHead) (k : Nat) (s : State) (d : Docking) (m : Nat),
      Taken h s ∧ s.docking = some d ∧ k ≤ 1439 ∧ m = rawMinutes s.time.minute k - margin s.time ∧ (m ≠ 0 ∨ s.time.m
      = 0) :=
  ⟨hd, 345, docked, docked1, 44, by decide⟩

theorem test_met_SetCutoffAndExpectedRecompute_2 :
    ∃ (h : ReqHead) (k : Nat) (s : State) (d : Docking),
      Taken h s ∧ s.docking = some d ∧ k ≤ 1439 ∧ rawMinutes s.time.minute k ≤ margin s.time ∧ 0 < s.time.m ∧
      s.dep.state ≠ some .waiting ∧ (s.straps.autoClose = false ∨ s.dep.state ≠ some .openBay) :=
  ⟨hd, 290, docked, docked1, by decide⟩

theorem test_met_SetCutoffAndExpectedRecompute_3 :
    ∃ (h : ReqHead) (k : Nat) (s : State) (d : Docking),
      Taken h s ∧ s.docking = some d ∧ k ≤ 1439 ∧ rawMinutes s.time.minute k ≤ margin s.time ∧ 0 < s.time.m ∧
      s.dep.state = some .waiting :=
  ⟨hd, 290, { held1 with dep := { held1.dep with state := some .waiting, allowance := some 4 } }, docked1, by decide⟩

theorem test_met_SetCutoffAndExpectedRecompute_4 :
    ∃ (h : ReqHead) (k : Nat) (s : State) (d : Docking),
      Taken h s ∧ s.docking = some d ∧ k ≤ 1439 ∧ rawMinutes s.time.minute k ≤ margin s.time ∧ 0 < s.time.m ∧
      s.dep.state = some .openBay ∧ s.straps.autoClose = true ∧ s.run.mode = none ∧ s.link.queue.length < 15 :=
  ⟨hd, 290, auto1, { docked1 with expected := 1 }, by decide⟩

theorem test_met_SetCutoffAndExpectedRecompute_5 :
    ∃ (h : ReqHead) (k : Nat) (s : State) (d : Docking),
      Taken h s ∧ s.docking = some d ∧ k ≤ 1439 ∧ rawMinutes s.time.minute k ≤ margin s.time ∧ 0 < s.time.m ∧
      s.dep.state = some .openBay ∧ s.straps.autoClose = true ∧ s.run.mode ≠ none :=
  ⟨hd, 290, { tipping with straps := { tipping.straps with autoClose := true } }, docked1, by decide⟩

theorem test_met_SetCutoffAndExpectedRecompute_6 :
    ∃ (h : ReqHead) (x : Nat) (s : State) (d : Docking),
      Taken h s ∧ s.docking = some d ∧ x ≤ 52 ∧ NoAutoclose s :=
  ⟨hd, 10, docked, docked1, by decide⟩

theorem test_met_SetClockAndSetNotices_1 :
    ∃ (h : ReqHead) (k : Nat) (s : State),
      Taken h s ∧ k ≤ 1439 ∧ s.docking = none :=
  ⟨hd, 300, State.reset, by decide⟩

theorem test_met_SetClockAndSetNotices_2 :
    ∃ (h : ReqHead) (k : Nat) (s : State) (d : Docking) (m : Nat),
      Taken h s ∧ k ≤ 1439 ∧ s.docking = some d ∧ m = rawMinutes k d.cutoff - margin s.time ∧ (m ≠ 0 ∨ s.time.m = 0)
      :=
  ⟨hd, 310, docked, docked1, 29, by decide⟩

theorem test_met_SetClockAndSetNotices_3 :
    ∃ (h : ReqHead) (k : Nat) (s : State) (d : Docking),
      Taken h s ∧ k ≤ 1439 ∧ s.docking = some d ∧ rawMinutes k d.cutoff ≤ margin s.time ∧ 0 < s.time.m ∧ s.dep.state
      ≠ some .waiting ∧ (s.straps.autoClose = false ∨ s.dep.state ≠ some .openBay) :=
  ⟨hd, 340, docked, docked1, by decide⟩

theorem test_met_SetClockAndSetNotices_4 :
    ∃ (h : ReqHead) (k : Nat) (s : State) (d : Docking),
      Taken h s ∧ k ≤ 1439 ∧ s.docking = some d ∧ rawMinutes k d.cutoff ≤ margin s.time ∧ 0 < s.time.m ∧ s.dep.state
      = some .waiting :=
  ⟨hd, 340, { held1 with dep := { held1.dep with state := some .waiting, allowance := some 4 } }, docked1, by decide⟩

theorem test_met_SetClockAndSetNotices_5 :
    ∃ (h : ReqHead) (k : Nat) (s : State) (d : Docking),
      Taken h s ∧ k ≤ 1439 ∧ s.docking = some d ∧ rawMinutes k d.cutoff ≤ margin s.time ∧ 0 < s.time.m ∧ s.dep.state
      = some .openBay ∧ s.straps.autoClose = true ∧ s.run.mode = none ∧ s.link.queue.length < 15 :=
  ⟨hd, 340, auto1, { docked1 with expected := 1 }, by decide⟩

theorem test_met_SetClockAndSetNotices_6 :
    ∃ (h : ReqHead) (k : Nat) (s : State) (d : Docking),
      Taken h s ∧ k ≤ 1439 ∧ s.docking = some d ∧ rawMinutes k d.cutoff ≤ margin s.time ∧ 0 < s.time.m ∧ s.dep.state
      = some .openBay ∧ s.straps.autoClose = true ∧ s.run.mode ≠ none :=
  ⟨hd, 340, { tipping with straps := { tipping.straps with autoClose := true } }, docked1, by decide⟩

theorem test_met_SetClockAndSetNotices_7 :
    ∃ (h : ReqHead) (mask : FlagWord) (mode : DeclineMode) (s : State),
      Taken h s ∧ mask &&& ~~~allKinds = 0 :=
  ⟨hd, 5, .all, State.reset, by decide⟩

theorem test_met_ReadsThatChangeNothing_1 :
    ∃ (h : ReqHead) (s : State),
      Taken h s :=
  ⟨hd, State.reset, by decide⟩

theorem test_met_ReadsThatChangeNothing_2 :
    ∃ (h : ReqHead) (s : State) (older newer : List LaneEntry) (e : LaneEntry),
      Taken h s ∧ s.lane = older ++ e :: newer ∧ (∀ x ∈ older, x.rank < e.rank) ∧ (∀ x ∈ newer, x.rank ≤ e.rank) :=
  ⟨hd, laned, [], [⟨9900, 214, 2, 90, 0, false, false⟩], ⟨8103, 214, 2, 80, 0, false, false⟩, by decide⟩

theorem test_met_ReadsThatChangeNothing_3 :
    ∃ (h : ReqHead) (s : State),
      Taken h s ∧ s.lane = [] :=
  ⟨hd, State.reset, by decide⟩

theorem test_met_ReadsThatClear_1 :
    ∃ (h : ReqHead) (s : State),
      Taken h s ∧ s.notes.queue = [] :=
  ⟨hd, State.reset, by decide⟩

theorem test_met_ReadsThatClear_2 :
    ∃ (h : ReqHead) (s : State) (r : Notice) (rs : List Notice),
      Taken h s ∧ s.notes.queue = r :: rs :=
  ⟨hd, (raise .parked 1 2 State.reset), ⟨.parked, 0, 0, 1, 2⟩, [], by decide⟩

theorem test_met_ReadsThatClear_3 :
    ∃ (h : ReqHead) (s : State),
      Taken h s :=
  ⟨hd, State.reset, by decide⟩

theorem test_met_ReadsThatClear_4 :
    ∃ (h : ReqHead) (position : Nat) (s : State),
      Taken h s ∧ position ≤ 52 :=
  ⟨hd, 52, docked, by decide⟩

theorem test_met_ClearBayRestartsTheBay :
    ∃ (h : ReqHead) (s : State),
      Taken h s :=
  ⟨hd, tipping, by decide⟩

theorem test_met_RestartLinkListensAgain_1 :
    ∃ (h : ReqHead) (s : State),
      Taken h s ∧ strapValid s.straps = true ∧ (s.link.line ≠ .joined ∨ s.dep.state ≠ some .calling ∨ s.time.m = 0)
      :=
  ⟨hd, docked, by decide⟩

theorem test_met_RestartLinkListensAgain_2 :
    ∃ (h : ReqHead) (s : State),
      Taken h s ∧ strapValid s.straps = true ∧ s.link.line = .joined ∧ s.dep.state = some .calling ∧ 0 < s.time.m :=
  ⟨hd, calling1, by decide⟩

theorem test_met_RestartLinkListensAgain_3 :
    ∃ (h : ReqHead) (s : State),
      Taken h s ∧ strapValid s.straps = false :=
  ⟨hd, { State.reset with straps := { State.reset.straps with bay := 61 } }, by decide⟩

theorem test_met_BeaconWritesTheDirectory_1 :
    ∃ (key : Nat) (m : BeaconMsg) (s : State) (b : BayState) (d : Option DepState),
      Hears key (.beacon m) s ∧ beaconStates m = some (b, d) ∧ beaconSound m b d = true ∧ s.dir.entries.Pairwise
      (fun x y => x.bay < y.bay) ∧ dirEntry s m.bay = none :=
  ⟨65489, ⟨17, 2, 1, [214], 300, 10, 5, 4⟩, joined, .docked, (some .openBay), by decide⟩

theorem test_met_BeaconWritesTheDirectory_2 :
    ∃ (key : Nat) (m : BeaconMsg) (s : State) (b : BayState) (d : Option DepState) (e : DirEntry),
      Hears key (.beacon m) s ∧ beaconStates m = some (b, d) ∧ beaconSound m b d = true ∧ s.dir.entries.Pairwise
      (fun x y => x.bay < y.bay) ∧ dirEntry s m.bay = some e :=
  ⟨65489, ⟨17, 2, 1, [214], 300, 10, 5, 4⟩, { joined with dir := { joined.dir with entries := [peer17] } }, .docked,
   (some .openBay), peer17, by decide⟩

theorem test_met_BeaconWritesTheDirectory_3 :
    ∃ (key : Nat) (m : BeaconMsg) (s : State),
      Hears key (.beacon m) s ∧ beaconStates m = some (.vacant, none) ∧ beaconSound m .vacant none = true ∧
      s.dir.entries.Pairwise (fun x y => x.bay < y.bay) ∧ (s.table.map (·.label)).Nodup ∧ s.dir.changes < 4294967295
      :=
  ⟨65494, ⟨22, 1, 0, [], 0, 0, 0, 4⟩, accepted1, by decide⟩

theorem test_met_BeaconWritesTheDirectory_4 :
    ∃ (key : Nat) (m : BeaconMsg) (s : State),
      Hears key (.beacon m) s ∧ m.bayCode ≠ 1 ∧ (∀ x ∈ beaconStates m, beaconSound m x.1 x.2 = false) :=
  ⟨65489, ⟨17, 2, 1, [214], 721, 10, 5, 4⟩, joined, by decide⟩

theorem test_met_OfferIsJudgedAndAnswered_1 :
    ∃ (key : Nat) (m : OfferMsg) (s : State),
      Hears key (.offer m) s ∧ m.target = s.straps.bay ∧ hasRoom 1 s.link.queue = true ∧ offerSound m = true :=
  ⟨49105, ⟨17, 3, 0, 4, [⟨8201, 87, 40⟩]⟩, { docked with link := joined.link }, by decide⟩

theorem test_met_OfferIsJudgedAndAnswered_2 :
    ∃ (key : Nat) (origin group size : Nat) (i : OfferItem) (s : State) (d : Docking) (rank : Nat),
      Hears key (.offer ⟨origin, s.straps.bay, group, size, [i]⟩) s ∧ hasRoom 1 s.link.queue = true ∧ offerSound
      ⟨origin, s.straps.bay, group, size, [i]⟩ = true ∧ s.docking = some d ∧ s.dep.state = some .openBay ∧
      s.dep.halt = false ∧ rankOf d.drops i.depot = some rank ∧ labelKnown s i.label = false ∧ compareRank s.deck
      rank ≠ .behind ∧ 60 * transit origin s.straps.bay + d.handling ≤ 60 * s.time.m ∧ s.store.holds.length <
      d.capacity ∧ usedSpaces s < d.capacity ∧ usedMass s + min i.mass 120 ≤ d.payload ∧ (∀ n ∈ keptFor s origin,
      olderGroup (some n) group = false) :=
  ⟨49105, 17, 0, 4, ⟨8201, 87, 40⟩, { docked with link := joined.link }, docked1, 1, by decide⟩

theorem test_met_OfferIsJudgedAndAnswered_3 :
    ∃ (key : Nat) (origin group size : Nat) (i : OfferItem) (s : State) (d : Docking) (rank : Nat),
      Hears key (.offer ⟨origin, s.straps.bay, group, size, [i]⟩) s ∧ hasRoom 1 s.link.queue = true ∧ offerSound
      ⟨origin, s.straps.bay, group, size, [i]⟩ = true ∧ s.docking = some d ∧ s.dep.state = some .openBay ∧
      s.dep.halt = false ∧ rankOf d.drops i.depot = some rank ∧ labelKnown s i.label = false ∧ compareRank s.deck
      rank ≠ .behind ∧ 60 * transit origin s.straps.bay + d.handling ≤ 60 * s.time.m ∧ s.store.holds.length <
      d.capacity ∧ usedSpaces s < d.capacity ∧ usedMass s + min i.mass 120 ≤ d.payload ∧ (∃ n ∈ keptFor s origin,
      olderGroup (some n) group = true) :=
  ⟨49105, 17, 4, 4, ⟨8201, 87, 40⟩,
   { docked with link := joined.link, store := { docked.store with kept := [⟨17, 131⟩], owing := [17] } }, docked1, 1,
   by decide⟩

theorem test_met_OfferIsJudgedAndAnswered_3_nearest :
    ∃ (key : Nat) (origin group size : Nat) (i : OfferItem) (s : State) (d : Docking) (rank : Nat),
      Hears key (.offer ⟨origin, s.straps.bay, group, size, [i]⟩) s ∧ hasRoom 1 s.link.queue = true ∧ offerSound
      ⟨origin, s.straps.bay, group, size, [i]⟩ = true ∧ s.docking = some d ∧ s.dep.state = some .openBay ∧
      s.dep.halt = false ∧ rankOf d.drops i.depot = some rank ∧ labelKnown s i.label = false ∧ compareRank s.deck
      rank ≠ .behind ∧ 60 * transit origin s.straps.bay + d.handling ≤ 60 * s.time.m ∧ s.store.holds.length <
      d.capacity ∧ usedSpaces s < d.capacity ∧ usedMass s + min i.mass 120 ≤ d.payload ∧ (∃ n ∈ keptFor s origin,
      olderGroup (some n) group = true) :=
  ⟨49105, 17, 4, 4, ⟨8201, 87, 40⟩,
   { docked with link := joined.link, store := { docked.store with kept := [⟨17, 5⟩], owing := [17] } }, docked1, 1,
   by decide⟩

theorem test_met_OfferIsJudgedAndAnswered_4 :
    ∃ (key : Nat) (origin group size : Nat) (i : OfferItem) (s : State) (d : Docking) (v : Nat),
      Hears key (.offer ⟨origin, s.straps.bay, group, size, [i]⟩) s ∧ hasRoom 1 s.link.queue = true ∧ offerSound
      ⟨origin, s.straps.bay, group, size, [i]⟩ = true ∧ d = s.docking.getD ⟨[], 0, 0, 0, 0, 0⟩ ∧ v = (if s.docking =
      none then 2   else if s.dep.state ≠ some .openBay then 3   else if s.dep.halt = true then 4   else if rankOf
      d.drops i.depot = none then 5   else if (∃ x ∈ s.store.holds, x.label = i.label ∧ x.origin = origin) then 1
      else if labelKnown s i.label = true then 6   else if compareRank s.deck ((rankOf d.drops i.depot).getD 0) =
      .behind then 7   else if 60 * s.time.m < 60 * transit origin s.straps.bay + d.handling then 8   else if
      d.capacity ≤ s.store.holds.length then 9   else if d.capacity ≤ usedSpaces s then 10   else if d.payload <
      usedMass s + min i.mass 120 then 11   else 0) ∧ v ≠ 0 :=
  ⟨49105, 17, 0, 4, ⟨8201, 999, 40⟩, { docked with link := joined.link }, docked1, 5, by decide⟩

theorem test_met_OfferIsJudgedAndAnswered_4_no_trailer_before_closing :
    ∃ (key : Nat) (origin group size : Nat) (i : OfferItem) (s : State) (d : Docking) (v : Nat),
      Hears key (.offer ⟨origin, s.straps.bay, group, size, [i]⟩) s ∧ hasRoom 1 s.link.queue = true ∧ offerSound
      ⟨origin, s.straps.bay, group, size, [i]⟩ = true ∧ d = s.docking.getD ⟨[], 0, 0, 0, 0, 0⟩ ∧ v = (if s.docking =
      none then 2   else if s.dep.state ≠ some .openBay then 3   else if s.dep.halt = true then 4   else if rankOf
      d.drops i.depot = none then 5   else if (∃ x ∈ s.store.holds, x.label = i.label ∧ x.origin = origin) then 1
      else if labelKnown s i.label = true then 6   else if compareRank s.deck ((rankOf d.drops i.depot).getD 0) =
      .behind then 7   else if 60 * s.time.m < 60 * transit origin s.straps.bay + d.handling then 8   else if
      d.capacity ≤ s.store.holds.length then 9   else if d.capacity ≤ usedSpaces s then 10   else if d.payload <
      usedMass s + min i.mass 120 then 11   else 0) ∧ v ≠ 0 :=
  ⟨49105, 17, 0, 4, ⟨8201, 87, 40⟩, joined, ⟨[], 0, 0, 0, 0, 0⟩, 2, by decide⟩

theorem test_met_OfferIsJudgedAndAnswered_4_closing_before_stalled :
    ∃ (key : Nat) (origin group size : Nat) (i : OfferItem) (s : State) (d : Docking) (v : Nat),
      Hears key (.offer ⟨origin, s.straps.bay, group, size, [i]⟩) s ∧ hasRoom 1 s.link.queue = true ∧ offerSound
      ⟨origin, s.straps.bay, group, size, [i]⟩ = true ∧ d = s.docking.getD ⟨[], 0, 0, 0, 0, 0⟩ ∧ v = (if s.docking =
      none then 2   else if s.dep.state ≠ some .openBay then 3   else if s.dep.halt = true then 4   else if rankOf
      d.drops i.depot = none then 5   else if (∃ x ∈ s.store.holds, x.label = i.label ∧ x.origin = origin) then 1
      else if labelKnown s i.label = true then 6   else if compareRank s.deck ((rankOf d.drops i.depot).getD 0) =
      .behind then 7   else if 60 * s.time.m < 60 * transit origin s.straps.bay + d.handling then 8   else if
      d.capacity ≤ s.store.holds.length then 9   else if d.capacity ≤ usedSpaces s then 10   else if d.payload <
      usedMass s + min i.mass 120 then 11   else 0) ∧ v ≠ 0 :=
  ⟨49105, 17, 0, 4, ⟨8201, 87, 40⟩, { docked with dep := { docked.dep with state := some .calling, halt := true } },
   docked1, 3, by decide⟩

theorem test_met_OfferIsJudgedAndAnswered_4_stalled_before_wrong_depot :
    ∃ (key : Nat) (origin group size : Nat) (i : OfferItem) (s : State) (d : Docking) (v : Nat),
      Hears key (.offer ⟨origin, s.straps.bay, group, size, [i]⟩) s ∧ hasRoom 1 s.link.queue = true ∧ offerSound
      ⟨origin, s.straps.bay, group, size, [i]⟩ = true ∧ d = s.docking.getD ⟨[], 0, 0, 0, 0, 0⟩ ∧ v = (if s.docking =
      none then 2   else if s.dep.state ≠ some .openBay then 3   else if s.dep.halt = true then 4   else if rankOf
      d.drops i.depot = none then 5   else if (∃ x ∈ s.store.holds, x.label = i.label ∧ x.origin = origin) then 1
      else if labelKnown s i.label = true then 6   else if compareRank s.deck ((rankOf d.drops i.depot).getD 0) =
      .behind then 7   else if 60 * s.time.m < 60 * transit origin s.straps.bay + d.handling then 8   else if
      d.capacity ≤ s.store.holds.length then 9   else if d.capacity ≤ usedSpaces s then 10   else if d.payload <
      usedMass s + min i.mass 120 then 11   else 0) ∧ v ≠ 0 :=
  ⟨49105, 17, 0, 4, ⟨8201, 999, 40⟩, { docked with dep := { docked.dep with halt := true } }, docked1, 4, by decide⟩

theorem test_met_OfferIsJudgedAndAnswered_4_wrong_depot_before_held :
    ∃ (key : Nat) (origin group size : Nat) (i : OfferItem) (s : State) (d : Docking) (v : Nat),
      Hears key (.offer ⟨origin, s.straps.bay, group, size, [i]⟩) s ∧ hasRoom 1 s.link.queue = true ∧ offerSound
      ⟨origin, s.straps.bay, group, size, [i]⟩ = true ∧ d = s.docking.getD ⟨[], 0, 0, 0, 0, 0⟩ ∧ v = (if s.docking =
      none then 2   else if s.dep.state ≠ some .openBay then 3   else if s.dep.halt = true then 4   else if rankOf
      d.drops i.depot = none then 5   else if (∃ x ∈ s.store.holds, x.label = i.label ∧ x.origin = origin) then 1
      else if labelKnown s i.label = true then 6   else if compareRank s.deck ((rankOf d.drops i.depot).getD 0) =
      .behind then 7   else if 60 * s.time.m < 60 * transit origin s.straps.bay + d.handling then 8   else if
      d.capacity ≤ s.store.holds.length then 9   else if d.capacity ≤ usedSpaces s then 10   else if d.payload <
      usedMass s + min i.mass 120 then 11   else 0) ∧ v ≠ 0 :=
  ⟨49105, 17, 0, 4, ⟨9120, 999, 40⟩, held1, docked1, 5, by decide⟩

theorem test_met_OfferIsJudgedAndAnswered_4_held_before_duplicate :
    ∃ (key : Nat) (origin group size : Nat) (i : OfferItem) (s : State) (d : Docking) (v : Nat),
      Hears key (.offer ⟨origin, s.straps.bay, group, size, [i]⟩) s ∧ hasRoom 1 s.link.queue = true ∧ offerSound
      ⟨origin, s.straps.bay, group, size, [i]⟩ = true ∧ d = s.docking.getD ⟨[], 0, 0, 0, 0, 0⟩ ∧ v = (if s.docking =
      none then 2   else if s.dep.state ≠ some .openBay then 3   else if s.dep.halt = true then 4   else if rankOf
      d.drops i.depot = none then 5   else if (∃ x ∈ s.store.holds, x.label = i.label ∧ x.origin = origin) then 1
      else if labelKnown s i.label = true then 6   else if compareRank s.deck ((rankOf d.drops i.depot).getD 0) =
      .behind then 7   else if 60 * s.time.m < 60 * transit origin s.straps.bay + d.handling then 8   else if
      d.capacity ≤ s.store.holds.length then 9   else if d.capacity ≤ usedSpaces s then 10   else if d.payload <
      usedMass s + min i.mass 120 then 11   else 0) ∧ v ≠ 0 :=
  ⟨49105, 17, 0, 4, ⟨9120, 87, 40⟩, held1, docked1, 1, by decide⟩

theorem test_met_OfferIsJudgedAndAnswered_4_duplicate_before_loaded_past :
    ∃ (key : Nat) (origin group size : Nat) (i : OfferItem) (s : State) (d : Docking) (v : Nat),
      Hears key (.offer ⟨origin, s.straps.bay, group, size, [i]⟩) s ∧ hasRoom 1 s.link.queue = true ∧ offerSound
      ⟨origin, s.straps.bay, group, size, [i]⟩ = true ∧ d = s.docking.getD ⟨[], 0, 0, 0, 0, 0⟩ ∧ v = (if s.docking =
      none then 2   else if s.dep.state ≠ some .openBay then 3   else if s.dep.halt = true then 4   else if rankOf
      d.drops i.depot = none then 5   else if (∃ x ∈ s.store.holds, x.label = i.label ∧ x.origin = origin) then 1
      else if labelKnown s i.label = true then 6   else if compareRank s.deck ((rankOf d.drops i.depot).getD 0) =
      .behind then 7   else if 60 * s.time.m < 60 * transit origin s.straps.bay + d.handling then 8   else if
      d.capacity ≤ s.store.holds.length then 9   else if d.capacity ≤ usedSpaces s then 10   else if d.payload <
      usedMass s + min i.mass 120 then 11   else 0) ∧ v ≠ 0 :=
  ⟨49105, 17, 0, 4, ⟨8103, 214, 40⟩, fronted, docked1, 6, by decide⟩

theorem test_met_OfferIsJudgedAndAnswered_4_loaded_past_before_too_late :
    ∃ (key : Nat) (origin group size : Nat) (i : OfferItem) (s : State) (d : Docking) (v : Nat),
      Hears key (.offer ⟨origin, s.straps.bay, group, size, [i]⟩) s ∧ hasRoom 1 s.link.queue = true ∧ offerSound
      ⟨origin, s.straps.bay, group, size, [i]⟩ = true ∧ d = s.docking.getD ⟨[], 0, 0, 0, 0, 0⟩ ∧ v = (if s.docking =
      none then 2   else if s.dep.state ≠ some .openBay then 3   else if s.dep.halt = true then 4   else if rankOf
      d.drops i.depot = none then 5   else if (∃ x ∈ s.store.holds, x.label = i.label ∧ x.origin = origin) then 1
      else if labelKnown s i.label = true then 6   else if compareRank s.deck ((rankOf d.drops i.depot).getD 0) =
      .behind then 7   else if 60 * s.time.m < 60 * transit origin s.straps.bay + d.handling then 8   else if
      d.capacity ≤ s.store.holds.length then 9   else if d.capacity ≤ usedSpaces s then 10   else if d.payload <
      usedMass s + min i.mass 120 then 11   else 0) ∧ v ≠ 0 :=
  ⟨49105, 17, 0, 4, ⟨8201, 214, 40⟩, { fronted with time := { fronted.time with m := 5 } }, docked1, 7, by decide⟩

theorem test_met_OfferIsJudgedAndAnswered_4_too_late_before_table_full :
    ∃ (key : Nat) (origin group size : Nat) (i : OfferItem) (s : State) (d : Docking) (v : Nat),
      Hears key (.offer ⟨origin, s.straps.bay, group, size, [i]⟩) s ∧ hasRoom 1 s.link.queue = true ∧ offerSound
      ⟨origin, s.straps.bay, group, size, [i]⟩ = true ∧ d = s.docking.getD ⟨[], 0, 0, 0, 0, 0⟩ ∧ v = (if s.docking =
      none then 2   else if s.dep.state ≠ some .openBay then 3   else if s.dep.halt = true then 4   else if rankOf
      d.drops i.depot = none then 5   else if (∃ x ∈ s.store.holds, x.label = i.label ∧ x.origin = origin) then 1
      else if labelKnown s i.label = true then 6   else if compareRank s.deck ((rankOf d.drops i.depot).getD 0) =
      .behind then 7   else if 60 * s.time.m < 60 * transit origin s.straps.bay + d.handling then 8   else if
      d.capacity ≤ s.store.holds.length then 9   else if d.capacity ≤ usedSpaces s then 10   else if d.payload <
      usedMass s + min i.mass 120 then 11   else 0) ∧ v ≠ 0 :=
  ⟨49105, 17, 0, 4, ⟨8201, 87, 40⟩, { narrow with time := { narrow.time with m := 5 } }, narrow1, 8, by decide⟩

theorem test_met_OfferIsJudgedAndAnswered_4_table_full_before_full :
    ∃ (key : Nat) (origin group size : Nat) (i : OfferItem) (s : State) (d : Docking) (v : Nat),
      Hears key (.offer ⟨origin, s.straps.bay, group, size, [i]⟩) s ∧ hasRoom 1 s.link.queue = true ∧ offerSound
      ⟨origin, s.straps.bay, group, size, [i]⟩ = true ∧ d = s.docking.getD ⟨[], 0, 0, 0, 0, 0⟩ ∧ v = (if s.docking =
      none then 2   else if s.dep.state ≠ some .openBay then 3   else if s.dep.halt = true then 4   else if rankOf
      d.drops i.depot = none then 5   else if (∃ x ∈ s.store.holds, x.label = i.label ∧ x.origin = origin) then 1
      else if labelKnown s i.label = true then 6   else if compareRank s.deck ((rankOf d.drops i.depot).getD 0) =
      .behind then 7   else if 60 * s.time.m < 60 * transit origin s.straps.bay + d.handling then 8   else if
      d.capacity ≤ s.store.holds.length then 9   else if d.capacity ≤ usedSpaces s then 10   else if d.payload <
      usedMass s + min i.mass 120 then 11   else 0) ∧ v ≠ 0 :=
  ⟨49105, 17, 0, 4, ⟨8201, 87, 40⟩, { narrow with time := { narrow.time with m := 6 } }, narrow1, 9, by decide⟩

theorem test_met_OfferIsJudgedAndAnswered_4_full_before_heavy :
    ∃ (key : Nat) (origin group size : Nat) (i : OfferItem) (s : State) (d : Docking) (v : Nat),
      Hears key (.offer ⟨origin, s.straps.bay, group, size, [i]⟩) s ∧ hasRoom 1 s.link.queue = true ∧ offerSound
      ⟨origin, s.straps.bay, group, size, [i]⟩ = true ∧ d = s.docking.getD ⟨[], 0, 0, 0, 0, 0⟩ ∧ v = (if s.docking =
      none then 2   else if s.dep.state ≠ some .openBay then 3   else if s.dep.halt = true then 4   else if rankOf
      d.drops i.depot = none then 5   else if (∃ x ∈ s.store.holds, x.label = i.label ∧ x.origin = origin) then 1
      else if labelKnown s i.label = true then 6   else if compareRank s.deck ((rankOf d.drops i.depot).getD 0) =
      .behind then 7   else if 60 * s.time.m < 60 * transit origin s.straps.bay + d.handling then 8   else if
      d.capacity ≤ s.store.holds.length then 9   else if d.capacity ≤ usedSpaces s then 10   else if d.payload <
      usedMass s + min i.mass 120 then 11   else 0) ∧ v ≠ 0 :=
  ⟨49105, 17, 0, 4, ⟨8201, 87, 40⟩,
   { outbound1 with docking := some narrow1, time := { outbound1.time with m := 6 } }, narrow1, 10, by decide⟩

theorem test_met_OfferIsJudgedAndAnswered_4_heavy :
    ∃ (key : Nat) (origin group size : Nat) (i : OfferItem) (s : State) (d : Docking) (v : Nat),
      Hears key (.offer ⟨origin, s.straps.bay, group, size, [i]⟩) s ∧ hasRoom 1 s.link.queue = true ∧ offerSound
      ⟨origin, s.straps.bay, group, size, [i]⟩ = true ∧ d = s.docking.getD ⟨[], 0, 0, 0, 0, 0⟩ ∧ v = (if s.docking =
      none then 2   else if s.dep.state ≠ some .openBay then 3   else if s.dep.halt = true then 4   else if rankOf
      d.drops i.depot = none then 5   else if (∃ x ∈ s.store.holds, x.label = i.label ∧ x.origin = origin) then 1
      else if labelKnown s i.label = true then 6   else if compareRank s.deck ((rankOf d.drops i.depot).getD 0) =
      .behind then 7   else if 60 * s.time.m < 60 * transit origin s.straps.bay + d.handling then 8   else if
      d.capacity ≤ s.store.holds.length then 9   else if d.capacity ≤ usedSpaces s then 10   else if d.payload <
      usedMass s + min i.mass 120 then 11   else 0) ∧ v ≠ 0 :=
  ⟨49105, 17, 0, 4, ⟨8201, 87, 11⟩, { docked with docking := some { docked1 with payload := 10 } },
   { docked1 with payload := 10 }, 11, by decide⟩

theorem test_met_OfferIsJudgedAndAnswered_5 :
    ∃ (key : Nat) (m : OfferMsg) (s : State),
      Hears key (.offer m) s ∧ (m.target ≠ s.straps.bay ∨ hasRoom 1 s.link.queue = false ∨ offerSound m = false) :=
  ⟨49105, ⟨17, 4, 0, 4, [⟨8201, 87, 40⟩]⟩, joined, by decide⟩

theorem test_met_AnswerSettlesTheEntriesOffered_1 :
    ∃ (key : Nat) (target group label : Nat) (s : State) (e : TransferEntry),
      Hears key (.answer ⟨target, s.straps.bay, group, [⟨label, 1⟩]⟩) s ∧ label ≠ 0 ∧ entryOf s label = some e ∧
      offeredTo target e = true :=
  ⟨32726, 22, 0, 8202, { offered1 with link := joined.link }, ⟨8202, 350, 40, .offered 22 0 1 (.left 2), false, []⟩,
   by decide⟩

theorem test_met_AnswerSettlesTheEntriesOffered_2 :
    ∃ (key : Nat) (target group label : Nat) (v : Nat) (s : State) (e : TransferEntry),
      Hears key (.answer ⟨target, s.straps.bay, group, [⟨label, v⟩]⟩) s ∧ 2 ≤ v ∧ v ≤ 11 ∧ label ≠ 0 ∧ entryOf s
      label = some e ∧ offeredTo target e = true :=
  ⟨32726, 22, 0, 8202, 10, { offered1 with link := joined.link },
   ⟨8202, 350, 40, .offered 22 0 1 (.left 2), false, []⟩, by decide⟩

theorem test_met_AnswerSettlesTheEntriesOffered_3 :
    ∃ (key : Nat) (target group label : Nat) (s : State),
      Hears key (.answer ⟨target, s.straps.bay, group, [⟨label, 1⟩]⟩) s ∧ label ≠ 0 ∧ (∀ e ∈ entryOf s label,
      offeredTo target e = false) :=
  ⟨32726, 22, 0, 8203, { offered1 with link := joined.link }, by decide⟩

theorem test_met_ReleaseAndReceiptRetire_1 :
    ∃ (key : Nat) (m : ReleaseMsg) (s : State) (hd : Hold),
      Hears key (.release m) s ∧ m.target = s.straps.bay ∧ s.store.holds.find? (fun x => x.label == m.label) = some
      hd ∧ hd.origin = m.origin ∧ (s.dep.state ≠ some .waiting ∨ s.store.holds.filter (fun x => x.label != m.label)
      ≠ []) ∧ NoAutoclose s :=
  ⟨32721, ⟨17, 3, 9120⟩, { held1 with link := joined.link }, ⟨9120, some 87, some 1, 40, 17, 0⟩, by decide⟩

theorem test_met_ReleaseAndReceiptRetire_2 :
    ∃ (key : Nat) (m : ReleaseMsg) (s : State) (hd : Hold),
      Hears key (.release m) s ∧ m.target = s.straps.bay ∧ s.store.holds.find? (fun x => x.label == m.label) = some
      hd ∧ hd.origin = m.origin ∧ s.dep.state = some .waiting ∧ s.store.holds.filter (fun x => x.label != m.label) =
      [] :=
  ⟨32721, ⟨17, 3, 9120⟩, { held1 with dep := { held1.dep with state := some .waiting, allowance := some 4 } },
   ⟨9120, some 87, some 1, 40, 17, 0⟩, by decide⟩

theorem test_met_ReleaseAndReceiptRetire_3 :
    ∃ (key : Nat) (m : ReleaseMsg) (s : State) (d : Docking) (hd : Hold),
      Hears key (.release m) s ∧ m.target = s.straps.bay ∧ s.docking = some d ∧ s.store.holds = [hd] ∧ hd.label =
      m.label ∧ hd.origin = m.origin ∧ s.straps.autoClose = true ∧ s.dep.state = some .openBay ∧ s.dep.autoWas =
      false ∧ s.lane = [] ∧ s.store.owing = [] ∧ d.expected ≤ outboundCount s.deck ∧ s.run.mode = none ∧
      (s.link.line = .joined ∨ s.time.m = 0) ∧ s.link.queue.length < 15 :=
  ⟨32721, ⟨17, 3, 9120⟩,
   { held1 with straps := { held1.straps with autoClose := true }, docking := some { docked1 with expected := 0 } },
   { docked1 with expected := 0 }, ⟨9120, some 87, some 1, 40, 17, 0⟩, by decide⟩

theorem test_met_ReleaseAndReceiptRetire_4 :
    ∃ (key : Nat) (m : ReleaseMsg) (s : State),
      Hears key (.release m) s ∧ (m.target ≠ s.straps.bay ∨ (∃ x ∈ s.store.holds.find? (fun y : Hold => y.label ==
      m.label), x.origin ≠ m.origin)   ∨ (inHolds s m.label = false ∧ inLane s m.label = false ∧ onDeck s m.label =
      false)) :=
  ⟨32726, ⟨22, 3, 9120⟩, held1, by decide⟩

theorem test_met_ReleaseAndReceiptRetire_4_other_bay :
    ∃ (key : Nat) (m : ReleaseMsg) (s : State),
      Hears key (.release m) s ∧ (m.target ≠ s.straps.bay ∨ (∃ x ∈ s.store.holds.find? (fun y : Hold => y.label ==
      m.label), x.origin ≠ m.origin)   ∨ (inHolds s m.label = false ∧ inLane s m.label = false ∧ onDeck s m.label =
      false)) :=
  ⟨32721, ⟨17, 4, 9120⟩, held1, by decide⟩

theorem test_met_ReleaseAndReceiptRetire_4_unknown :
    ∃ (key : Nat) (m : ReleaseMsg) (s : State),
      Hears key (.release m) s ∧ (m.target ≠ s.straps.bay ∨ (∃ x ∈ s.store.holds.find? (fun y : Hold => y.label ==
      m.label), x.origin ≠ m.origin)   ∨ (inHolds s m.label = false ∧ inLane s m.label = false ∧ onDeck s m.label =
      false)) :=
  ⟨32721, ⟨17, 3, 9999⟩, held1, by decide⟩

theorem test_met_ReleaseAndReceiptRetire_5 :
    ∃ (key : Nat) (m : ReleaseMsg) (s : State),
      Hears key (.release m) s ∧ m.target = s.straps.bay ∧ inHolds s m.label = false ∧ (inLane s m.label = true ∨
      onDeck s m.label = true) :=
  ⟨32721, ⟨17, 3, 8103⟩, { laned with link := joined.link }, by decide⟩

theorem test_met_ReleaseAndReceiptRetire_6 :
    ∃ (key : Nat) (m : ReceiptMsg) (s : State),
      Hears key (.receipt m) s ∧ (m.origin = s.straps.bay ∨ m.origin = 0) ∧ inTable s m.label = true :=
  ⟨16342, ⟨22, 3, 8202⟩, { offered1 with link := joined.link }, by decide⟩

theorem test_met_ReleaseAndReceiptRetire_7 :
    ∃ (key : Nat) (m : ReceiptMsg) (s : State),
      Hears key (.receipt m) s ∧ inTable s m.label = false :=
  ⟨16342, ⟨22, 3, 9999⟩, joined, by decide⟩

theorem test_met_CallAndHoldNameThePallets_1 :
    ∃ (key : Nat) (m : CallMsg) (s : State) (ls : List Nat),
      Hears key (.call m) s ∧ (s.table.map (·.label)).Nodup ∧ s.dir.entries.Pairwise (fun x y => x.bay < y.bay) ∧ ls
      = labelsWhere (acceptedTo m.bay) s :=
  ⟨16342, ⟨22, 4⟩, accepted1, [8202], by decide⟩

theorem test_met_CallAndHoldNameThePallets_2 :
    ∃ (key : Nat) (m : HoldMsg) (s : State),
      Hears key (.hold m) s ∧ m.caller = s.straps.bay ∧ m.number = s.dep.callNumber ∧ s.dep.state = some .calling ∧
      s.dep.named.length + m.labels.length ≤ 64 :=
  ⟨16337, ⟨17, 3, 0, [9120]⟩,
   { held1 with link := joined.link, dep := { held1.dep with state := some .calling, window := some 2 } }, by decide⟩

theorem test_met_CallAndHoldNameThePallets_3 :
    ∃ (key : Nat) (m : HoldMsg) (s : State),
      Hears key (.hold m) s ∧ (m.caller ≠ s.straps.bay ∨ m.number ≠ s.dep.callNumber ∨ (s.dep.state ≠ some .calling
      ∧ s.dep.state ≠ some .waiting)) :=
  ⟨16337, ⟨17, 4, 0, [9120]⟩, joined, by decide⟩

theorem test_met_CallAndHoldNameThePallets_4 :
    ∃ (key : Nat) (m : HoldMsg) (s : State),
      Hears key (.hold m) s ∧ m.caller = s.straps.bay ∧ m.number = s.dep.callNumber ∧ s.dep.state = some .waiting :=
  ⟨16337, ⟨17, 3, 0, [9120, 9300, 8103]⟩,
   { held1 with lane := laned.lane, dep := { held1.dep with state := some .waiting, allowance := some 4 } },
   by decide⟩

theorem test_met_CallAndHoldNameThePallets_5 :
    ∃ (key bay label : Nat) (s : State),
      Hears key (.hold ⟨bay, s.straps.bay, s.dep.callNumber, [label]⟩) s ∧ label ≠ 0 ∧ s.dep.state = some .waiting ∧
      (receiptOwed s label = true ∨ (inLane s label = false ∧ onDeck s label = false ∧ (inHolds s label = true ∨
      inTable s label = true))) :=
  ⟨16337, 17, 9120, { held1 with dep := { held1.dep with state := some .waiting, allowance := some 4 } }, by decide⟩

theorem test_met_CallAndHoldNameThePallets_6 :
    ∃ (key bay label : Nat) (s : State),
      Hears key (.hold ⟨bay, s.straps.bay, s.dep.callNumber, [label]⟩) s ∧ label ≠ 0 ∧ s.dep.state = some .waiting ∧
      (inLane s label = true ∨ onDeck s label = true) ∧ receiptOwed s label = false :=
  ⟨16337, 17, 8103, { laned with dep := { laned.dep with state := some .waiting, allowance := some 4 } }, by decide⟩

theorem test_met_CallAndHoldNameThePallets_7 :
    ∃ (key bay label : Nat) (s : State) (d : Docking),
      Hears key (.hold ⟨bay, s.straps.bay, s.dep.callNumber, [label]⟩) s ∧ label ≠ 0 ∧ s.dep.state = some .waiting ∧
      foundNowhere s label = true ∧ s.docking = some d ∧ 0 < s.time.m ∧ s.store.holds.length < d.capacity ∧
      usedSpaces s < d.capacity ∧ usedMass s + 120 ≤ d.payload :=
  ⟨16337, 17, 9300, { held1 with dep := { held1.dep with state := some .waiting, allowance := some 4 } }, docked1,
   by decide⟩

theorem test_met_CallAndHoldNameThePallets_8 :
    ∃ (key bay label : Nat) (s : State) (d : Docking),
      Hears key (.hold ⟨bay, s.straps.bay, s.dep.callNumber, [label]⟩) s ∧ label ≠ 0 ∧ s.dep.state = some .waiting ∧
      foundNowhere s label = true ∧ s.docking = some d ∧ (s.time.m = 0 ∨ d.capacity ≤ s.store.holds.length ∨
      d.capacity ≤ usedSpaces s ∨ d.payload < usedMass s + 120) :=
  ⟨16337, 17, 9300,
   { held1 with time := { held1.time with m := 0 }, dep := { held1.dep with state := some .waiting, allowance := some 4 } },
   docked1, by decide⟩

theorem test_met_DoneParksWhatWasAccepted :
    ∃ (key : Nat) (m : DoneMsg) (s : State),
      Hears key (.done m) s ∧ (s.table.map (·.label)).Nodup :=
  ⟨16342, ⟨22⟩, accepted1, by decide⟩

theorem test_met_BadAndForeignFramesAreCounted_1 :
    ∃ (s : State) (n : Nat),
      s.pins.resetHeld = false ∧ s.link.line ≠ .detached ∧ n = min 65535 (s.link.errors + 1) :=
  ⟨{ joined with link := { joined.link with errors := 32767 } }, 32768, by decide⟩

theorem test_met_BadAndForeignFramesAreCounted_2 :
    ∃ (s : State),
      s.pins.resetHeld = false ∧ s.link.line ≠ .detached :=
  ⟨joined, by decide⟩

theorem test_met_BadAndForeignFramesAreCounted_3 :
    ∃ (kind : FrameKind) (s : State),
      s.pins.resetHeld = false ∧ s.link.line = .joined ∧ (s.dep.state ≠ some .calling ∨ s.time.m = 0) ∧
      s.link.beaconWaiting = false :=
  ⟨.offer, joined, by decide⟩

theorem test_met_BadAndForeignFramesAreCounted_3_at_the_cutoff :
    ∃ (kind : FrameKind) (s : State),
      s.pins.resetHeld = false ∧ s.link.line = .joined ∧ (s.dep.state ≠ some .calling ∨ s.time.m = 0) ∧
      s.link.beaconWaiting = false :=
  ⟨.offer, { joined with dep := { joined.dep with state := some .calling } }, by decide⟩

theorem test_met_BadAndForeignFramesAreCounted_4 :
    ∃ (kind : FrameKind) (s : State),
      s.pins.resetHeld = false ∧ s.link.line = .joined ∧ s.dep.state = some .calling ∧ 0 < s.time.m ∧
      s.link.beaconWaiting = false :=
  ⟨.offer, calling1, by decide⟩

theorem test_met_BadAndForeignFramesAreCounted_5 :
    ∃ (kind : FrameKind) (s : State),
      s.pins.resetHeld = false ∧ (s.link.line = .listening ∨ s.link.line = .faulted) :=
  ⟨.offer, State.reset, by decide⟩

theorem test_met_AttemptsContendAndFail_1 :
    ∃ (s : State) (f : Queued) (fs : List Queued),
      s.pins.resetHeld = false ∧ s.link.line = .joined ∧ s.link.queue = f :: fs ∧ (∀ g ∈ s.link.queue, g.onLine =
      false) :=
  ⟨queued1, ⟨192, .done ⟨3⟩, false⟩, [], by decide⟩

theorem test_met_AttemptsContendAndFail_2 :
    ∃ (key : Nat) (s : State) (f : Queued),
      s.pins.resetHeld = false ∧ s.link.line = .joined ∧ s.link.queue.find? (·.onLine) = some f ∧
      s.link.beaconWaiting = false ∧ key < 65536 ∧ f.key < 65536 :=
  ⟨100, onLine1, ⟨192, .done ⟨3⟩, true⟩, by decide⟩

theorem test_met_AttemptsContendAndFail_3 :
    ∃ (s : State),
      s.pins.resetHeld = false ∧ s.link.line = .joined ∧ (∃ f ∈ s.link.queue, f.onLine = true) ∧
      s.link.beaconWaiting = false ∧ s.link.failures < 15 :=
  ⟨onLine1, by decide⟩

theorem test_met_AttemptsContendAndFail_4 :
    ∃ (s : State),
      s.pins.resetHeld = false ∧ s.link.line = .joined ∧ (∃ f ∈ s.link.queue, f.onLine = true) ∧
      s.link.beaconWaiting = false ∧ s.link.failures = 15 ∧ s.link.duplicate = false ∧ (s.dep.state ≠ some .calling
      ∨ s.time.m = 0) :=
  ⟨{ onLine1 with link := { onLine1.link with failures := 15 } }, by decide⟩

theorem test_met_AttemptsContendAndFail_4_at_the_cutoff :
    ∃ (s : State),
      s.pins.resetHeld = false ∧ s.link.line = .joined ∧ (∃ f ∈ s.link.queue, f.onLine = true) ∧
      s.link.beaconWaiting = false ∧ s.link.failures = 15 ∧ s.link.duplicate = false ∧ (s.dep.state ≠ some .calling
      ∨ s.time.m = 0) :=
  ⟨{ onLine1 with link := { onLine1.link with failures := 15 }, dep := { onLine1.dep with state := some .calling } },
   by decide⟩

theorem test_met_AttemptsContendAndFail_5 :
    ∃ (s : State),
      s.pins.resetHeld = false ∧ s.link.line = .joined ∧ (∃ f ∈ s.link.queue, f.onLine = true) ∧
      s.link.beaconWaiting = false ∧ s.link.failures = 15 ∧ s.link.duplicate = false ∧ s.dep.state = some .calling ∧
      0 < s.time.m :=
  ⟨{ calling1 with link := { calling1.link with queue := [⟨192, .call ⟨3, 0⟩, true⟩], failures := 15 } }, by decide⟩

theorem test_met_CompletionsFreeTheQueue_1 :
    ∃ (s : State) (f : Queued),
      s.pins.resetHeld = false ∧ s.link.line = .joined ∧ s.link.queue.find? (·.onLine) = some f ∧ f.body.kind ≠
      .offer :=
  ⟨onLine1, ⟨192, .done ⟨3⟩, true⟩, by decide⟩

theorem test_met_CompletionsFreeTheQueue_2 :
    ∃ (s : State) (f : Queued) (m : OfferMsg) (g : ClosedGroup),
      s.pins.resetHeld = false ∧ s.link.line = .joined ∧ s.link.queue.find? (·.onLine) = some f ∧ f.body = .offer m
      ∧ s.asm.sendList.find? (fun x => x.target == m.target && x.inQueue) = some g ∧ (∀ e ∈ s.table, e.label ∈
      g.members → queuedTo m.target e = true ∨ offeredTo m.target e = true) :=
  ⟨offering1, ⟨49155, .offer ⟨3, 22, 0, 4, [⟨8202, 350, 40⟩]⟩, true⟩, ⟨3, 22, 0, 4, [⟨8202, 350, 40⟩]⟩,
   ⟨22, some 0, [8202], .short, false, true, false⟩, by decide⟩

theorem test_met_CompletionsFreeTheQueue_3 :
    ∃ (s : State),
      s.pins.resetHeld = false ∧ s.dep.doneOwed = true ∧ hasRoom 0 s.link.queue = true :=
  ⟨{ joined with dep := { joined.dep with doneOwed := true } }, by decide⟩

theorem test_met_CompletionsFreeTheQueue_4 :
    ∃ (s : State) (e : LaneEntry),
      s.pins.resetHeld = false ∧ s.dep.doneOwed = false ∧ (s.lane.filter (·.owed)).head? = some e ∧ hasRoom 0
      s.link.queue = true :=
  ⟨{ laned with link := joined.link, lane := [⟨8103, 214, 2, 80, 17, false, true⟩] },
   ⟨8103, 214, 2, 80, 17, false, true⟩, by decide⟩

theorem test_met_CompletionsFreeTheQueue_5 :
    ∃ (s : State),
      s.pins.resetHeld = false ∧ (16 ≤ s.link.queue.length ∨ NothingToSend s) :=
  ⟨joined, by decide⟩

theorem test_met_StationsJoinAndRejoin_1 :
    ∃ (s : State),
      s.pins.resetHeld = false ∧ s.link.line = .listening ∧ NumberLaw s :=
  ⟨State.reset, by decide⟩

theorem test_met_StationsJoinAndRejoin_2 :
    ∃ (key : Nat) (m : ReceiptMsg) (s : State),
      s.pins.resetHeld = false ∧ s.link.line = .listening ∧ s.link.valid = 2 ∧ framingOk key (.receipt m) = true ∧
      keyBay key ≠ s.straps.bay ∧ m.origin ≠ s.straps.bay ∧ m.origin ≠ 0 ∧ NumberLaw s :=
  ⟨16342, ⟨22, 9, 8202⟩, { State.reset with link := { State.reset.link with valid := 2 } }, by decide⟩

theorem test_met_StationsJoinAndRejoin_3 :
    ∃ (key : Nat) (b : Body) (s : State),
      s.pins.resetHeld = false ∧ s.link.line = .listening ∧ s.link.valid = 2 ∧ framingOk key b = true ∧ keyBay key ≠
      s.straps.bay ∧ NumberLaw s :=
  ⟨16342, (.done ⟨22⟩), { accepted1 with link := { State.reset.link with valid := 2 } }, by decide⟩

theorem test_met_StationsJoinAndRejoin_4 :
    ∃ (s : State),
      s.pins.resetHeld = false ∧ s.link.line = .faulted ∧ s.link.duplicate = false ∧ s.link.rejoin = some 30 :=
  ⟨{ State.reset with link := { State.reset.link with line := .faulted, rejoin := some 30 } }, by decide⟩

theorem test_met_PulsesQualifyTheClock_1 :
    ∃ (us : Nat) (s : State),
      s.pins.resetHeld = false ∧ s.time.sincePulse = none :=
  ⟨1000000, State.reset, by decide⟩

theorem test_met_PulsesQualifyTheClock_2 :
    ∃ (us d : Nat) (s : State),
      s.pins.resetHeld = false ∧ s.time.sincePulse = some d ∧ 900000 ≤ d + us ∧ d + us ≤ 1100000 ∧ s.time.source =
      .reference ∧ s.time.byOscillator = true ∧ s.time.sinceBoundary + us < 500000 :=
  ⟨399999, 500001,
   { State.reset with time := { State.reset.time with source := .reference, sincePulse := some 500001 } }, by decide⟩

theorem test_met_PulsesQualifyTheClock_3 :
    ∃ (us d : Nat) (s : State),
      s.pins.resetHeld = false ∧ s.time.sincePulse = some d ∧ 900000 ≤ d + us ∧ d + us ≤ 1100000 ∧ (s.time.source =
      .fallback ∨ (s.time.source = .returning ∧ s.time.goodRun < 63)) :=
  ⟨1100000, 0, { State.reset with time := { State.reset.time with sincePulse := some 0 } }, by decide⟩

theorem test_met_PulsesQualifyTheClock_4 :
    ∃ (us d : Nat) (s : State),
      s.pins.resetHeld = false ∧ s.time.sincePulse = some d ∧ 900000 ≤ d + us ∧ d + us ≤ 1100000 ∧ s.time.source =
      .reference ∧ (s.time.byOscillator = false ∨ 500000 ≤ s.time.sinceBoundary + us) ∧ s.time.seconds < 59 ∧
      NothingDue s :=
  ⟨500000, 500000,
   { State.reset with time := { State.reset.time with source := .reference, sincePulse := some 500000 } }, by decide⟩

theorem test_met_PulsesQualifyTheClock_5 :
    ∃ (us d : Nat) (s : State),
      s.pins.resetHeld = false ∧ s.time.sincePulse = some d ∧ 900000 ≤ d + us ∧ d + us ≤ 1100000 ∧ s.time.source =
      .returning ∧ 63 ≤ s.time.goodRun ∧ s.docking = none ∧ s.time.byOscillator = true ∧ s.time.sinceBoundary + us <
      500000 :=
  ⟨400000, 600000, { State.reset with time := { State.reset.time with sincePulse := some 600000, goodRun := 63 } },
   by decide⟩

theorem test_met_PulsesQualifyTheClock_6 :
    ∃ (us d : Nat) (s : State),
      s.pins.resetHeld = false ∧ s.time.sincePulse = some d ∧ 900000 ≤ d + us ∧ d + us ≤ 1100000 ∧ s.time.source =
      .returning ∧ 63 ≤ s.time.goodRun :=
  ⟨1000000, 0, { docked with time := { docked.time with sincePulse := some 0, goodRun := 63 } }, by decide⟩

theorem test_met_PulsesQualifyTheClock_7 :
    ∃ (us d : Nat) (s : State),
      s.pins.resetHeld = false ∧ s.time.sincePulse = some d ∧ (d + us < 900000 ∨ 1100000 < d + us) ∧ s.time.source =
      .returning :=
  ⟨899999, 0, { State.reset with time := { State.reset.time with sincePulse := some 0 } }, by decide⟩

theorem test_met_PulsesQualifyTheClock_8 :
    ∃ (us d : Nat) (s : State),
      s.pins.resetHeld = false ∧ s.time.sincePulse = some d ∧ (d + us < 900000 ∨ 1100000 < d + us) ∧ (s.time.source
      = .fallback ∨ (s.time.source = .reference ∧ s.time.badRun < 2)) :=
  ⟨899999, 0,
   { State.reset with time := { State.reset.time with source := .reference, badRun := 1, sincePulse := some 0 } },
   by decide⟩

theorem test_met_PulsesQualifyTheClock_8_fallback :
    ∃ (us d : Nat) (s : State),
      s.pins.resetHeld = false ∧ s.time.sincePulse = some d ∧ (d + us < 900000 ∨ 1100000 < d + us) ∧ (s.time.source
      = .fallback ∨ (s.time.source = .reference ∧ s.time.badRun < 2)) :=
  ⟨1100001, 0, { State.reset with time := { State.reset.time with source := .fallback, sincePulse := some 0 } },
   by decide⟩

theorem test_met_PulsesQualifyTheClock_9 :
    ∃ (us d : Nat) (s : State),
      s.pins.resetHeld = false ∧ s.docking = none ∧ s.time.sincePulse = some d ∧ (d + us < 900000 ∨ 1100000 < d +
      us) ∧ s.time.source = .reference ∧ s.time.badRun = 2 :=
  ⟨1100001, 0,
   { State.reset with time := { State.reset.time with source := .reference, badRun := 2, sincePulse := some 0 } },
   by decide⟩

theorem test_met_PulsesQualifyTheClock_10 :
    ∃ (s : State),
      s.pins.resetHeld = false ∧ s.docking = none ∧ s.time.silence ≤ 1500000 :=
  ⟨State.reset, by decide⟩

theorem test_met_PulsesQualifyTheClock_11 :
    ∃ (us p : Nat) (s : State) (d : Docking) (m : Nat),
      s.pins.resetHeld = false ∧ s.docking = some d ∧ s.time.sincePulse = some p ∧ (p + us < 900000 ∨ 1100000 < p +
      us) ∧ s.time.source = .reference ∧ s.time.badRun = 2 ∧ m = rawMinutes s.time.minute d.cutoff - 1 ∧ (m ≠ 0 ∨
      s.time.m = 0) :=
  ⟨1100001, 0, { docked with time := { docked.time with source := .reference, badRun := 2, sincePulse := some 0 } },
   docked1, 39, by decide⟩

theorem test_met_PulsesQualifyTheClock_12 :
    ∃ (s : State) (d : Docking) (m : Nat),
      s.pins.resetHeld = false ∧ s.docking = some d ∧ s.time.silence ≤ 1500000 ∧ s.time.source = .reference ∧ m =
      rawMinutes s.time.minute d.cutoff - 1 ∧ (m ≠ 0 ∨ s.time.m = 0) :=
  ⟨{ docked with time := { docked.time with source := .reference } }, docked1, 39, by decide⟩

theorem test_met_SecondBoundariesCount_1 :
    ∃ (s : State),
      s.pins.resetHeld = false ∧ s.time.seconds ≤ 59 :=
  ⟨docked, by decide⟩

theorem test_met_SecondBoundariesCount_2 :
    ∃ (s : State),
      s.pins.resetHeld = false ∧ s.time.seconds < 59 ∧ NothingDue s :=
  ⟨docked, by decide⟩

theorem test_met_SecondBoundariesCount_3 :
    ∃ (s : State),
      s.pins.resetHeld = false ∧ s.time.seconds = 59 ∧ NothingDue s ∧ s.docking = none :=
  ⟨{ joined with time := { joined.time with seconds := 59 } }, by decide⟩

theorem test_met_SecondBoundariesCount_4 :
    ∃ (s : State) (d : Docking) (m : Nat),
      s.pins.resetHeld = false ∧ s.time.seconds = 59 ∧ NothingDue s ∧ s.docking = some d ∧ m = rawMinutes
      (minuteCounted s).time.minute d.cutoff - margin (minuteCounted s).time ∧ (m ≠ 0 ∨ s.time.m = 0) :=
  ⟨minute1, docked1, 38, by decide⟩

theorem test_met_SecondBoundariesCount_4_near :
    ∃ (s : State) (d : Docking) (m : Nat),
      s.pins.resetHeld = false ∧ s.time.seconds = 59 ∧ NothingDue s ∧ s.docking = some d ∧ m = rawMinutes
      (minuteCounted s).time.minute d.cutoff - margin (minuteCounted s).time ∧ (m ≠ 0 ∨ s.time.m = 0) :=
  ⟨{ minute1 with time := { minute1.time with minute := 323, m := 16 } }, docked1, 15, by decide⟩

theorem test_met_SecondBoundariesCount_5 :
    ∃ (s : State) (d : Docking),
      s.pins.resetHeld = false ∧ s.time.seconds = 59 ∧ NothingDue s ∧ s.docking = some d ∧ rawMinutes (minuteCounted
      s).time.minute d.cutoff ≤ margin (minuteCounted s).time ∧ 0 < s.time.m ∧ s.dep.state ≠ some .waiting ∧
      (s.straps.autoClose = false ∨ s.dep.state ≠ some .openBay) :=
  ⟨last1 docked, docked1, by decide⟩

theorem test_met_SecondBoundariesCount_5_calling :
    ∃ (s : State) (d : Docking),
      s.pins.resetHeld = false ∧ s.time.seconds = 59 ∧ NothingDue s ∧ s.docking = some d ∧ rawMinutes (minuteCounted
      s).time.minute d.cutoff ≤ margin (minuteCounted s).time ∧ 0 < s.time.m ∧ s.dep.state ≠ some .waiting ∧
      (s.straps.autoClose = false ∨ s.dep.state ≠ some .openBay) :=
  ⟨last1 calling1, docked1, by decide⟩

theorem test_met_SecondBoundariesCount_6 :
    ∃ (s : State) (d : Docking),
      s.pins.resetHeld = false ∧ s.time.seconds = 59 ∧ NothingDue s ∧ s.docking = some d ∧ rawMinutes (minuteCounted
      s).time.minute d.cutoff ≤ margin (minuteCounted s).time ∧ 0 < s.time.m ∧ s.dep.state = some .waiting :=
  ⟨last1 { held1 with dep := { held1.dep with state := some .waiting, allowance := some 4 } }, docked1, by decide⟩

theorem test_met_SecondBoundariesCount_7 :
    ∃ (s : State) (d : Docking),
      s.pins.resetHeld = false ∧ s.time.seconds = 59 ∧ NothingDue s ∧ s.docking = some d ∧ rawMinutes (minuteCounted
      s).time.minute d.cutoff ≤ margin (minuteCounted s).time ∧ 0 < s.time.m ∧ s.dep.state = some .openBay ∧
      s.straps.autoClose = true ∧ s.run.mode = none ∧ s.link.queue.length < 15 :=
  ⟨last1 auto1, { docked1 with expected := 1 }, by decide⟩

theorem test_met_SecondBoundariesCount_8 :
    ∃ (s : State) (d : Docking),
      s.pins.resetHeld = false ∧ s.time.seconds = 59 ∧ NothingDue s ∧ s.docking = some d ∧ rawMinutes (minuteCounted
      s).time.minute d.cutoff ≤ margin (minuteCounted s).time ∧ 0 < s.time.m ∧ s.dep.state = some .openBay ∧
      s.straps.autoClose = true ∧ s.run.mode ≠ none :=
  ⟨last1 { tipping with straps := { tipping.straps with autoClose := true } }, docked1, by decide⟩

theorem test_met_DirectoryTimersExpire_1 :
    ∃ (s : State) (n : Nat),
      s.pins.resetHeld = false ∧ s.link.line = .joined ∧ s.dir.timer = some 0 ∧ n = (if contentDiffers s = true then
      4 else min 64 (2 * s.dir.interval)) ∧ beaconRoom s = true :=
  ⟨{ joined with dir := { joined.dir with timer := some 0 } }, 8, by decide⟩

theorem test_met_DirectoryTimersExpire_2 :
    ∃ (s : State),
      s.pins.resetHeld = false ∧ s.link.line = .joined ∧ s.dir.timer = some 0 ∧ beaconRoom s = false :=
  ⟨{ joined with dir := { joined.dir with timer := some 0 }, link := { joined.link with queue := List.replicate 16 ⟨192, .done ⟨3⟩, false⟩ } },
   by decide⟩

theorem test_met_DirectoryTimersExpire_3 :
    ∃ (bay : Nat) (s : State) (e : DirEntry),
      s.pins.resetHeld = false ∧ dirEntry s bay = some e ∧ 3 * e.interval ≤ e.since :=
  ⟨17, { joined with dir := { joined.dir with entries := [{ peer17 with since := 12 }] } },
   { peer17 with since := 12 }, by decide⟩

theorem test_met_DirectoryTimersExpire_4 :
    ∃ (bay : Nat) (s : State) (e : DirEntry),
      s.pins.resetHeld = false ∧ dirEntry s bay = some e ∧ e.unreachable = some 0 :=
  ⟨17, { joined with dir := { joined.dir with entries := [{ peer17 with unreachable := some 0 }] } },
   { peer17 with unreachable := some 0 }, by decide⟩

theorem test_met_TransferTimersExpire_1 :
    ∃ (target : Nat) (s : State) (g : OpenGroup),
      s.pins.resetHeld = false ∧ s.asm.openGroups.find? (fun x => x.target == target) = some g ∧ 20 ≤ g.timer :=
  ⟨22, { joined with asm := { joined.asm with openGroups := [⟨22, [8202], 20⟩] } }, ⟨22, [8202], 20⟩, by decide⟩

theorem test_met_TransferTimersExpire_2 :
    ∃ (target group : Nat) (s : State),
      s.pins.resetHeld = false ∧ (∃ e ∈ s.table, answerDue target group e = true) ∧ (∀ e ∈ s.table, answerDue target
      group e = true → thirdSend e = false) :=
  ⟨22, 0, { offered1 with table := [⟨8202, 350, 40, .offered 22 0 1 (.left 0), false, []⟩] }, by decide⟩

theorem test_met_TransferTimersExpire_3 :
    ∃ (target group : Nat) (s : State),
      s.pins.resetHeld = false ∧ (∃ e ∈ s.table, answerDue target group e = true) ∧ (∃ e ∈ s.table, answerDue target
      group e = true ∧ thirdSend e = true) :=
  ⟨22, 0, { offered1 with table := [⟨8202, 350, 40, .offered 22 0 3 (.left 0), false, []⟩] }, by decide⟩

theorem test_met_TransferTimersExpire_4 :
    ∃ (label target : Nat) (s : State) (e : TransferEntry),
      s.pins.resetHeld = false ∧ entryOf s label = some e ∧ e.state = .accepted target (some 0) :=
  ⟨8202, 22, { accepted1 with table := [⟨8202, 350, 40, .accepted 22 (some 0), false, []⟩] },
   ⟨8202, 350, 40, .accepted 22 (some 0), false, []⟩, by decide⟩

theorem test_met_CallsEndAndPendingStartsAreMade_1 :
    ∃ (s : State),
      s.pins.resetHeld = false ∧ s.dep.state = some .calling ∧ s.dep.window = some 6 ∧ s.dep.named = [] :=
  ⟨{ docked with dep := { docked.dep with state := some .calling, window := some 6 } }, by decide⟩

theorem test_met_CallsEndAndPendingStartsAreMade_2 :
    ∃ (s : State),
      s.pins.resetHeld = false ∧ s.dep.state = some .calling ∧ s.dep.window = some 6 ∧ s.time.m = 0 :=
  ⟨{ held1 with time := { held1.time with m := 0 }, dep := { held1.dep with state := some .calling, window := some 6, named := [⟨9120, 17⟩] } },
   by decide⟩

theorem test_met_CallsEndAndPendingStartsAreMade_3 :
    ∃ (s : State) (kept : List Hold),
      s.pins.resetHeld = false ∧ s.dep.state = some .calling ∧ s.dep.window = some 6 ∧ 0 < s.time.m ∧ kept =
      s.store.holds.filter (fun x => s.dep.named.any (fun n => n.label == x.label)) ∧ kept ≠ [] :=
  ⟨{ held1 with dep := { held1.dep with state := some .calling, window := some 6, named := [⟨9120, 17⟩, ⟨9301, 17⟩] } },
   [⟨9120, some 87, some 1, 40, 17, 0⟩], by decide⟩

theorem test_met_CallsEndAndPendingStartsAreMade_4 :
    ∃ (s : State),
      s.pins.resetHeld = false ∧ s.dep.state = some .calling ∧ s.dep.window = some 6 ∧ s.store.holds ≠ [] ∧ 0 <
      s.time.m ∧ (∀ x ∈ s.store.holds, ∃ n ∈ s.dep.named, n.label = x.label) ∧ (∀ n ∈ s.dep.named, inHolds s n.label
      = true ∧ inLane s n.label = false ∧ onDeck s n.label = false) :=
  ⟨{ held1 with dep := { held1.dep with state := some .calling, window := some 6, named := [⟨9120, 17⟩] } },
   by decide⟩

theorem test_met_CallsEndAndPendingStartsAreMade_5 :
    ∃ (s : State),
      s.pins.resetHeld = false ∧ s.dep.state = some .waiting ∧ waitLimit s = some 0 :=
  ⟨{ held1 with dep := { held1.dep with state := some .waiting, allowance := some 0 } }, by decide⟩

theorem test_met_CallsEndAndPendingStartsAreMade_6 :
    ∃ (s : State),
      s.pins.resetHeld = false ∧ s.dep.retry = true ∧ s.dep.state = some .openBay ∧ s.dep.startPending ≠ [] ∧
      s.run.mode = none ∧ hasRoom 0 s.link.queue = true ∧ (s.link.line = .joined ∨ s.time.m = 0) :=
  ⟨{ docked with link := joined.link, dep := { docked.dep with retry := true, startPending := [.shutter] } },
   by decide⟩

theorem test_met_LinesStartAndAbandonCalls_1 :
    ∃ (s : State),
      s.pins.resetHeld = false ∧ s.pins.shutter = false ∧ s.dep.state = some .openBay ∧ s.run.mode = none ∧ hasRoom
      0 s.link.queue = true ∧ (s.link.line = .joined ∨ s.time.m = 0) :=
  ⟨{ docked with link := joined.link }, by decide⟩

theorem test_met_LinesStartAndAbandonCalls_2 :
    ∃ (s : State),
      s.pins.resetHeld = false ∧ s.pins.shutter = false ∧ s.dep.state = some .openBay ∧ (s.run.mode ≠ none ∨ hasRoom
      0 s.link.queue = false ∨ (s.link.line ≠ .joined ∧ 0 < s.time.m)) :=
  ⟨tipping, by decide⟩

theorem test_met_LinesStartAndAbandonCalls_3 :
    ∃ (s : State),
      s.pins.resetHeld = false ∧ s.pins.shutter = true ∧ (s.dep.state = some .calling ∨ s.dep.state = some .waiting)
      :=
  ⟨{ docked with pins := ⟨false, true⟩, dep := { docked.dep with state := some .calling, window := some 1 } },
   by decide⟩

theorem test_met_LinesStartAndAbandonCalls_4 :
    ∃ (s : State),
      s.pins.resetHeld = false ∧ s.pins.shutter = true ∧ s.dep.state ≠ some .calling ∧ s.dep.state ≠ some .waiting
      :=
  ⟨{ docked with pins := ⟨false, true⟩ }, by decide⟩

end Sys2Proof.Tests
end

section
/-! SUPPORT. What the laws of the deck, the labels, the Time Base, the record, the run and the owing list read of the
state, as one view, with what each shared operation keeps of it. -/

namespace Sys2Proof.Machine

/-! ## The view -/

/-- Label, depot and mass of each transfer entry, in Transfer Table order (R97). -/
def cargoOf (l : List TransferEntry) : List (Nat × Nat × Nat) := l.map (fun e => (e.label, e.depot, e.mass))

/-- The part of the state that the laws of chapters 1 to 3 and of the owing list read: the receipt-owed marks, the
deck fault, the links and the notices are left out. -/
structure Site where
  straps : Straps
  port : Port
  docking : Option Docking
  deck : List DeckEntry
  lane : List LaneEntry
  run : RunCounter
  time : TimeBase
  owing : List Nat
  kept : List KeptNumber
  holds : List Hold
  cargo : List (Nat × Nat × Nat)

/-- The view of a state. -/
def siteOf (s : State) : Site :=
  { straps := s.straps, port := s.port, docking := s.docking, deck := s.deck.entries.map DeckEntry.unowed
    lane := s.lane.map LaneEntry.unowed, run := s.run, time := s.time, owing := s.store.owing, kept := s.store.kept
    holds := s.store.holds, cargo := cargoOf s.table }

/-- The view without the holds and the Transfer Table. -/
def doorOf (s : State) : Site := { siteOf s with holds := [], cargo := [] }

/-- The view without the holds, the Transfer Table and the Time Base. -/
def hallOf (s : State) : Site := { doorOf s with time := TimeBase.initial }

/-- The view without the holds, the Transfer Table, the Time Base, the owing list and the numbers kept. -/
def shellOf (s : State) : Site := { hallOf s with owing := [], kept := [] }

variable {s t : State}

theorem door_of_site (h : siteOf t = siteOf s) : doorOf t = doorOf s :=
  congrArg (fun v : Site => { v with holds := [], cargo := [] }) h
theorem hall_of_door (h : doorOf t = doorOf s) : hallOf t = hallOf s :=
  congrArg (fun v : Site => { v with time := TimeBase.initial }) h
theorem hall_of_site (h : siteOf t = siteOf s) : hallOf t = hallOf s := hall_of_door (door_of_site h)
theorem shell_of_hall (h : hallOf t = hallOf s) : shellOf t = shellOf s :=
  congrArg (fun v : Site => { v with owing := [], kept := [] }) h
theorem shell_of_site (h : siteOf t = siteOf s) : shellOf t = shellOf s := shell_of_hall (hall_of_site h)

/-! ## The view read off a footprint -/

theorem site_of_keepBeacon (h : keepBeacon s = keepBeacon t) : siteOf s = siteOf t := (congrArg siteOf h :)
theorem site_of_keepQueue (h : keepQueue s = keepQueue t) : siteOf s = siteOf t := (congrArg siteOf h :)
theorem site_of_keepGroups (h : keepGroups s = keepGroups t) : siteOf s = siteOf t := (congrArg siteOf h :)
theorem site_of_keepAsm (h : keepAsm s = keepAsm t) : siteOf s = siteOf t := (congrArg siteOf h :)
theorem site_of_keepSettle (h : keepSettle s = keepSettle t) : siteOf s = siteOf t := (congrArg siteOf h :)

/-- A footprint without the Transfer Table shows the view where labels, depots and masses of the table stay. -/
theorem site_of_keepTable (h : keepTable s = keepTable t) (hc : cargoOf s.table = cargoOf t.table) :
    siteOf s = siteOf t := by
  have h' : ({ siteOf s with cargo := [] } : Site) = { siteOf t with cargo := [] } :=
    (congrArg (fun x => { siteOf x with cargo := [] }) h :)
  simp only [siteOf, Site.mk.injEq] at h' ⊢
  simp only [h', hc, and_self]

theorem door_of_keepTable (h : keepTable s = keepTable t) : doorOf s = doorOf t := (congrArg doorOf h :)
theorem door_of_keepClosing (h : keepClosing s = keepClosing t) : doorOf s = doorOf t := (congrArg doorOf h :)

/-- Without its time the view survives a recomputation of M. -/
theorem hall_of_keepMinutes (h : keepMinutes s = keepMinutes t) : hallOf s = hallOf t := (congrArg hallOf h :)

theorem keepMarks_site (s : State) : siteOf (keepMarks s) = siteOf s := by
  simp only [siteOf, keepMarks, keepQueue, List.map_map]
  rfl

theorem site_of_keepMarks (h : keepMarks s = keepMarks t) : siteOf s = siteOf t := by
  rw [← keepMarks_site s, h, keepMarks_site]

theorem door_keepReconcile (s : State) : doorOf (keepReconcile s) = doorOf s := by
  simp only [doorOf, siteOf, keepReconcile, keepMarks, keepBeacon, keepQueue, List.map_map]
  rfl

theorem door_of_keepReconcile (h : keepReconcile s = keepReconcile t) : doorOf s = doorOf t := by
  rw [← door_keepReconcile s, h, door_keepReconcile]

variable (s : State)

/-! ## Single blocks -/

@[simp] theorem raise_site (k : NoticeKind) (a b : Nat) : siteOf (raise k a b s) = siteOf s := rfl
@[simp] theorem setLink_site (l : Link) : siteOf (setLink l s) = siteOf s := rfl
@[simp] theorem setDir_site (d : Directory) : siteOf (setDir d s) = siteOf s := rfl
@[simp] theorem setDep_site (d : Departure) : siteOf (setDep d s) = siteOf s := rfl
@[simp] theorem setAsm_site (a : Assembler) : siteOf (setAsm a s) = siteOf s := rfl
@[simp] theorem setQueue_site (q : List Queued) : siteOf (setQueue q s) = siteOf s := rfl
@[simp] theorem setShutter_site (b : Bool) : siteOf (setShutter b s) = siteOf s := rfl
@[simp] theorem recordFault_site (d : FaultDir) : siteOf (recordFault d s) = siteOf s := rfl
@[simp] theorem withPending_site (p : List Instr) : siteOf (s.withPending p) = siteOf s := rfl
@[simp] theorem clearMark_site (n : Nat) : siteOf (clearMark n s) = siteOf s := rfl
@[simp] theorem setMark_site (n : Nat) : siteOf (setMark n s) = siteOf s := rfl
@[simp] theorem setUnreachable_site (n : Nat) (m : Option Nat) : siteOf (setUnreachable n m s) = siteOf s := rfl
@[simp] theorem setTime_hall (b : TimeBase) : hallOf (setTime b s) = hallOf s := rfl
@[simp] theorem dropHold_door (l : Nat) : doorOf (dropHold l s) = doorOf s := rfl
@[simp] theorem addHold_door (h : Hold) : doorOf (addHold h s) = doorOf s := rfl

/-- Changing fields of transfer entries other than label, depot and mass keeps the cargo. -/
theorem cargoOf_map {f : TransferEntry → TransferEntry} (l : List TransferEntry)
    (h : ∀ e, (f e).label = e.label ∧ (f e).depot = e.depot ∧ (f e).mass = e.mass) : cargoOf (l.map f) = cargoOf l := by
  simp only [cargoOf, List.map_map]
  refine List.map_congr_left fun e _ => ?_
  obtain ⟨h1, h2, h3⟩ := h e
  simp only [Function.comp, h1, h2, h3]

/-- A Transfer Table changed entry by entry, each keeping its label, depot and mass. -/
theorem setTable_map_site {f : TransferEntry → TransferEntry}
    (h : ∀ e, (f e).label = e.label ∧ (f e).depot = e.depot ∧ (f e).mass = e.mass) :
    siteOf (setTable (s.table.map f) s) = siteOf s := site_of_keepTable (setTable_keep _ s) (cargoOf_map _ h)

@[simp] theorem setTransferState_site (l : Nat) (st : TransferState) : siteOf (setTransferState l st s) = siteOf s :=
  setTable_map_site s fun e => by split <;> exact ⟨rfl, rfl, rfl⟩

/-! ## The transmit queue and the own beacon -/

variable {s} in
theorem handFrame_site {b : Body} (h : handFrame b s = some t) : siteOf t = siteOf s :=
  site_of_keepQueue (handFrame_keep h)

@[simp] theorem handOrDrop_site (b : Body) : siteOf (handOrDrop b s) = siteOf s := site_of_keepQueue (handOrDrop_keep b s)
@[simp] theorem placeBeacon_site : siteOf (placeBeacon s).1 = siteOf s := site_of_keepBeacon (placeBeacon_keep s)
@[simp] theorem beaconedChange_site : siteOf (beaconedChange s) = siteOf s := site_of_keepBeacon (beaconedChange_keep s)
@[simp] theorem announce_site (a : State) : siteOf (announce a s) = siteOf s := site_of_keepBeacon (announce_keep a s)
@[simp] theorem handFree_site : siteOf (handFree s) = siteOf s := site_of_keepBeacon (handFree_keep s)
@[simp] theorem recomputeUrgency_site : siteOf (recomputeUrgency s) = siteOf s :=
  (congrArg siteOf (recomputeUrgency_field s) :)
@[simp] theorem askReceipt_site (l o : Nat) : siteOf (askReceipt l o s).1 = siteOf s :=
  site_of_keepMarks (askReceipt_keep l o s)

/-- Marking a RECEIPT as owed or not owed leaves the view. -/
@[simp] theorem setOwed_site (l : Nat) (b : Bool) :
    siteOf { s with lane := setLaneOwed l b s.lane, deck := setDeckOwed l b s.deck } = siteOf s := by
  simp only [siteOf, setLaneOwed_unowed, setDeckOwed_unowed]

@[simp] theorem setLaneOwed_site (l : Nat) (b : Bool) : siteOf { s with lane := setLaneOwed l b s.lane } = siteOf s := by
  simp only [siteOf, setLaneOwed_unowed]

@[simp] theorem setDeckOwed_site (l : Nat) (b : Bool) : siteOf { s with deck := setDeckOwed l b s.deck } = siteOf s := by
  simp only [siteOf, setDeckOwed_unowed]

/-! ## Groups and transfers -/

@[simp] theorem leaveGroups_site (l : Nat) : siteOf (leaveGroups l s) = siteOf s := rfl
@[simp] theorem closeOpen_site (g : OpenGroup) : siteOf (closeOpen g s) = siteOf s := rfl
@[simp] theorem joinGroup_site (l n : Nat) : siteOf (joinGroup l n s) = siteOf s := site_of_keepAsm (joinGroup_keep l n s)
@[simp] theorem serveWaiting_site : siteOf (serveWaiting s) = siteOf s := site_of_keepAsm (serveWaiting_keep s)
@[simp] theorem buildReady_site : siteOf (buildReady s) = siteOf s := site_of_keepGroups (buildReady_keep s)
@[simp] theorem tidyGroups_site : siteOf (tidyGroups s) = siteOf s := site_of_keepGroups (tidyGroups_keep s)
@[simp] theorem releasePending_site : siteOf (releasePending s) = siteOf s := site_of_keepGroups (releasePending_keep s)
@[simp] theorem restartGroups_site : siteOf (restartGroups s) = siteOf s := site_of_keepAsm (restartGroups_keep s)
@[simp] theorem endRunGroups_site : siteOf (endRunGroups s) = siteOf s := site_of_keepGroups (endRunGroups_keep s)
@[simp] theorem goBack_site (l : Nat) : siteOf (goBack l s) = siteOf s := by simp [goBack]

@[simp] theorem selectTarget_site (b : Bool) (l : Nat) : siteOf (selectTarget b l s) = siteOf s := by
  unfold selectTarget
  split
  · rfl
  · split
    · simp
    · dsimp only
      split <;> simp

@[simp] theorem reselect_site (back parked : List Nat) : siteOf (reselect back parked s) = siteOf s := by
  unfold reselect
  dsimp only
  rw [foldl_keep siteOf _ (fun t l => selectTarget_site t _ l), tidyGroups_site, foldl_keep siteOf _ (fun t l => goBack_site t l)]

@[simp] theorem applyDone_site (bay : Nat) (parked : List Nat) : siteOf (applyDone bay parked s) = siteOf s := by
  unfold applyDone
  dsimp only
  rw [reselect_site]
  exact foldl_keep siteOf _ (fun t l => by simp) _ s

@[simp] theorem completeOffer_site (n : Nat) : siteOf (completeOffer n s) = siteOf s := by
  unfold completeOffer
  split
  · rfl
  · refine site_of_keepTable rfl (cargoOf_map _ fun e => ?_)
    split <;> exact ⟨rfl, rfl, rfl⟩

@[simp] theorem removeEntry_door (l : Nat) : doorOf (removeEntry l s) = doorOf s := door_of_keepTable (removeEntry_keep l s)

/-- An entry removed leaves the other entries' labels, depots and masses in their order. -/
theorem removeEntry_site (l : Nat) :
    siteOf (removeEntry l s) = { siteOf s with cargo := cargoOf (s.table.filter (fun e => e.label != l)) } := by
  simp only [removeEntry, tidyGroups_site, leaveGroups_site]
  rfl

/-! ## Departure Control -/

@[simp] theorem checkReady_site : siteOf (checkReady s) = siteOf s := site_of_keepSettle (checkReady_keep s)
@[simp] theorem setDepState_site (d : Option DepState) : siteOf (setDepState d s) = siteOf s :=
  site_of_keepSettle (setDepState_keep d s)
@[simp] theorem startCall_site : siteOf (startCall s) = siteOf s := site_of_keepSettle (startCall_keep s)
@[simp] theorem autoStart_site (c : StartCause) : siteOf (autoStart c s) = siteOf s := site_of_keepSettle (autoStart_keep c s)
@[simp] theorem checkAutoclose_site : siteOf (checkAutoclose s) = siteOf s := site_of_keepSettle (checkAutoclose_keep s)
@[simp] theorem settle_site : siteOf (settle s) = siteOf s := site_of_keepSettle (settle_keep s)
@[simp] theorem returnToOpen_site : siteOf (returnToOpen s) = siteOf s := site_of_keepSettle (returnToOpen_keep s)
@[simp] theorem settleReturn_site : siteOf (settleReturn s) = siteOf s := site_of_keepSettle (settleReturn_keep s)
@[simp] theorem abandonCall_site (c : AbandonCause) : siteOf (abandonCall c s) = siteOf s :=
  site_of_keepSettle (abandonCall_keep c s)
@[simp] theorem linkLost_site : siteOf (linkLost s) = siteOf s := site_of_keepSettle (linkLost_keep s)
@[simp] theorem retryStart_site : siteOf (retryStart s) = siteOf s := site_of_keepSettle (retryStart_keep s)
@[simp] theorem removeHold_door (l : Nat) : doorOf (removeHold l s) = doorOf s := door_of_keepClosing (removeHold_keep l s)
@[simp] theorem voidHolds_door (p : Hold → Bool) : doorOf (voidHolds p s) = doorOf s := door_of_keepClosing (voidHolds_keep p s)
@[simp] theorem enterClosed_door (c : CloseCause) : doorOf (enterClosed c s) = doorOf s :=
  door_of_keepClosing (enterClosed_keep c s)
@[simp] theorem holdGone_door : doorOf (holdGone s) = doorOf s := door_of_keepClosing (holdGone_keep s)
@[simp] theorem expireWait_door : doorOf (expireWait s) = doorOf s := door_of_keepClosing (expireWait_keep s)
@[simp] theorem cutoffReached_door : doorOf (cutoffReached s) = doorOf s := door_of_keepClosing (cutoffReached_keep s)
@[simp] theorem reconcileNamed_door (l : List NamedRecord) : doorOf (reconcileNamed l s) = doorOf s :=
  door_of_keepReconcile (reconcileNamed_keep l s)
@[simp] theorem cutoffTests_hall (a b : Nat) : hallOf (cutoffTests a b s) = hallOf s :=
  hall_of_keepMinutes (cutoffTests_keep a b s)
@[simp] theorem recomputeM_hall : hallOf (recomputeM s) = hallOf s := hall_of_keepMinutes (recomputeM_keep s)

@[simp] theorem receiptAgain_site (n : NamedRecord) : siteOf (receiptAgain n s) = siteOf s :=
  site_of_keepMarks (receiptAgain_keep n s)
@[simp] theorem answerClosing_site (ns : List NamedRecord) : siteOf (answerClosing ns s) = siteOf s :=
  site_of_keepQueue (answerClosing_keep ns s)

@[simp] theorem windowOutcome_door : doorOf (windowOutcome s) = doorOf s := by
  unfold windowOutcome
  split
  · simp
  · dsimp only
    split
    · simp only [enterClosed_door]; rfl
    · exact door_of_site (by simp)

@[simp] theorem endWindow_door : doorOf (endWindow s) = doorOf s := by simp [endWindow]

@[simp] theorem expireWindow_door : doorOf (expireWindow s) = doorOf s := by
  unfold expireWindow
  split <;> simp

/-! ## Free room offered -/

@[simp] theorem offerDone_site : siteOf (offerDone s) = siteOf s := by
  unfold offerDone
  split
  · split
    · next t h => exact (setDep_site _ _).trans (handFrame_site h)
    · rfl
  · rfl

@[simp] theorem offerLaneReceipt_site (e : LaneEntry) : siteOf (offerLaneReceipt e s) = siteOf s := by
  unfold offerLaneReceipt
  split
  · next t h => exact (setLaneOwed_site _ _ _).trans (handFrame_site h)
  · rfl

@[simp] theorem offerDeckReceipt_site (e : DeckEntry) : siteOf (offerDeckReceipt e s) = siteOf s := by
  unfold offerDeckReceipt
  split
  · next t h => exact (setDeckOwed_site _ _ _).trans (handFrame_site h)
  · rfl

@[simp] theorem offerRoom_site : siteOf (offerRoom s) = siteOf s := by
  unfold offerRoom
  dsimp only
  rw [buildReady_site, foldl_keep siteOf _ (fun t e => offerDeckReceipt_site t e),
    foldl_keep siteOf _ (fun t e => offerLaneReceipt_site t e), offerDone_site]

/-! ## The floor link -/

@[simp] theorem enterListening_site (q : Option Nat) : siteOf (enterListening q s) = siteOf s := rfl
@[simp] theorem enterJoined_site (c : JoinCause) : siteOf (enterJoined c s) = siteOf s := by simp [enterJoined]
@[simp] theorem placeWaiting_site : siteOf (placeWaiting s) = siteOf s := by
  unfold placeWaiting
  split <;> simp
@[simp] theorem endAttempt_site : siteOf (endAttempt s) = siteOf s := by simp [endAttempt]
@[simp] theorem leaveJoined_site (l : LineState) : siteOf (leaveJoined l s) = siteOf s := by simp [leaveJoined]
@[simp] theorem startRejoin_site : siteOf (startRejoin s) = siteOf s := rfl
@[simp] theorem countFail_site : siteOf (countFail s) = siteOf s := rfl
@[simp] theorem thresholdFault_site : siteOf (thresholdFault s) = siteOf s := by simp [thresholdFault]
@[simp] theorem lineActive_site (b : Bool) : siteOf (lineActive b s) = siteOf s := rfl
@[simp] theorem duplicateHeard_site (k : FrameKind) : siteOf (duplicateHeard k s) = siteOf s := by
  unfold duplicateHeard
  dsimp only
  split <;> simp
@[simp] theorem countError_site : siteOf (countError s) = siteOf s := by
  unfold countError
  dsimp only
  split <;> simp
@[simp] theorem badFrame_site : siteOf (badFrame s) = siteOf s := by simp [badFrame]
@[simp] theorem countTaken_site : siteOf (countTaken s) = siteOf s := by
  unfold countTaken
  split
  · dsimp only
    split <;> simp
  · rfl

/-! ## Expiries -/

@[simp] theorem expireRejoin_site : siteOf (expireRejoin s) = siteOf s := by
  unfold expireRejoin
  split <;> simp
@[simp] theorem restartBeaconTimer_site (n : Nat) : siteOf (restartBeaconTimer n s) = siteOf s := rfl
@[simp] theorem expireBeacon_site : siteOf (expireBeacon s) = siteOf s := by
  unfold expireBeacon
  split
  · generalize (if contentDiffers s then 4 else min 64 (2 * s.dir.interval)) = n
    dsimp only
    split <;> simp
  · rfl
@[simp] theorem expireEntry_site (n : Nat) : siteOf (expireEntry n s) = siteOf s := by
  unfold expireEntry
  split
  · rfl
  · split <;> simp
@[simp] theorem expireUnreachable_site (n : Nat) : siteOf (expireUnreachable n s) = siteOf s := by
  unfold expireUnreachable
  split
  · rfl
  · split <;> simp
@[simp] theorem expireHold_site (n : Nat) : siteOf (expireHold n s) = siteOf s := by
  unfold expireHold
  split
  · rfl
  · split <;> simp

theorem timerExpired_cargo (e : TransferEntry) :
    (timerExpired e).label = e.label ∧ (timerExpired e).depot = e.depot ∧ (timerExpired e).mass = e.mass := by
  unfold timerExpired
  split <;> exact ⟨rfl, rfl, rfl⟩

@[simp] theorem expireAnswer_site (n g : Nat) : siteOf (expireAnswer n g s) = siteOf s := by
  unfold expireAnswer
  dsimp only
  split
  · rfl
  · split
    · simp
    · rw [buildReady_site, setAsm_site]
      refine setTable_map_site s fun e => ?_
      split
      · exact timerExpired_cargo e
      · exact ⟨rfl, rfl, rfl⟩

@[simp] theorem expireTravel_site (l : Nat) : siteOf (expireTravel l s) = siteOf s := by
  unfold expireTravel
  split
  · rfl
  · split
    · next target _ =>
      have h := setTable_map_site s (f := fun x =>
        if x.label = l then { x with state := .accepted target none, astray := true } else x)
        fun e => by split <;> exact ⟨rfl, rfl, rfl⟩
      dsimp only
      split
      · exact h
      · exact (raise_site _ _ _ _).trans h
    · rfl

end Sys2Proof.Machine
end

section
/-! SUPPORT. The view after the bodies of the frames, of the link's events, of the timers and of the lines. -/

namespace Sys2Proof.Machine

variable (s : State)

/-! ## RESTART LINK -/

@[simp] theorem flushFrame_site (b : Body) : siteOf (flushFrame b s) = siteOf s := by
  unfold flushFrame
  split
  · exact setOwed_site s _ _
  · rfl
  · rfl

@[simp] theorem flushQueue_site : siteOf (flushQueue s) = siteOf s := by
  unfold flushQueue
  dsimp only
  rw [restartGroups_site, setLink_site, foldl_keep siteOf _ (fun t f => flushFrame_site t _)]

@[simp] theorem restartLink_site : siteOf (restartLink s) = siteOf s := by
  unfold restartLink
  dsimp only
  rw [offerRoom_site]
  split <;> split <;> simp

/-! ## Frames taken -/

@[simp] theorem advanceCount_site : siteOf (advanceCount s) = siteOf s := by
  unfold advanceCount
  dsimp only
  split
  · exact setTable_map_site _ fun e => ⟨rfl, rfl, rfl⟩
  · rfl

@[simp] theorem storeEntry_site (e : DirEntry) : siteOf (storeEntry e s) = siteOf s := rfl

@[simp] theorem beaconEvent_site (m : BeaconMsg) (b : BayState) (d : Option DepState) (old : Option DirEntry)
    (parked : List Nat) : siteOf (beaconEvent m b d old parked s) = siteOf s := by
  unfold beaconEvent
  split
  · split <;> simp
  · split
    · simp
    · split <;> simp

@[simp] theorem noteBeacon_site (m : BeaconMsg) (b : BayState) (d : Option DepState) :
    siteOf (noteBeacon m b d s) = siteOf s := by
  unfold noteBeacon
  dsimp only
  split
  · simp
  · split <;> simp

/-- An origin forgotten leaves the owing list and the numbers kept, and nothing else of the view changes (R119). -/
theorem forgetOrigin_site (bay : Nat) :
    siteOf (forgetOrigin bay s) = { siteOf s with
      owing := s.store.owing.filter (fun b => b != bay), kept := s.store.kept.filter (fun k => k.bay != bay) } := by
  unfold forgetOrigin
  rw [settle_site]
  rfl

/-- Everything a BEACON does to the view: at most its sender is forgotten. -/
theorem takeBeacon_site (m : BeaconMsg) :
    siteOf (takeBeacon m s) = siteOf s ∨ siteOf (takeBeacon m s) = { siteOf s with
      owing := s.store.owing.filter (fun b => b != m.bay), kept := s.store.kept.filter (fun k => k.bay != m.bay) } := by
  have noted : ∀ t : State, siteOf t = siteOf s → siteOf (forgetOrigin m.bay t) = { siteOf s with
      owing := s.store.owing.filter (fun b => b != m.bay), kept := s.store.kept.filter (fun k => k.bay != m.bay) } := by
    intro t ht
    have ho : t.store.owing = s.store.owing := congrArg Site.owing ht
    have hk : t.store.kept = s.store.kept := congrArg Site.kept ht
    rw [forgetOrigin_site, ht, ho, hk]
  have hd : siteOf (match beaconStates m with
      | some (b, d) => if beaconSound m b d then noteBeacon m b d s else s
      | none => s) = siteOf s := by
    split
    · split <;> simp
    · rfl
  unfold takeBeacon
  dsimp only
  split
  · exact .inr (noted _ hd)
  · exact .inl hd

/-- A DONE forgets its sender (R135). -/
theorem takeDone_site (m : DoneMsg) :
    siteOf (takeDone m s) = { siteOf s with
      owing := s.store.owing.filter (fun b => b != m.bay), kept := s.store.kept.filter (fun k => k.bay != m.bay) } := by
  have h := applyDone_site s m.bay []
  have ho : (applyDone m.bay [] s).store.owing = s.store.owing := congrArg Site.owing h
  have hk : (applyDone m.bay [] s).store.kept = s.store.kept := congrArg Site.kept h
  rw [takeDone, forgetOrigin_site, h, ho, hk]

@[simp] theorem acceptCurrent_site (bay label : Nat) : siteOf (acceptCurrent bay label s) = siteOf s := by
  simp [acceptCurrent]

@[simp] theorem declineCurrent_site (bay label : Nat) (v : Verdict) : siteOf (declineCurrent bay label v s) = siteOf s := by
  have h := fun r => setTable_map_site s (f := fun e =>
    if e.label = label then { e with declined := recordDecline r e.declined } else e)
    fun e => by split <;> exact ⟨rfl, rfl, rfl⟩
  unfold declineCurrent
  dsimp only
  rw [setMark_site]
  split
  · rw [raise_site, goBack_site, h]
  · rw [goBack_site, h]

theorem answerItem_site (bay : Nat) (acc : State × List Nat) (i : AnswerItem) :
    siteOf (answerItem bay acc i).1 = siteOf acc.1 := by
  unfold answerItem
  split
  · rfl
  · split
    · rfl
    · dsimp only
      split <;> simp

@[simp] theorem takeAnswer_site (m : AnswerMsg) : siteOf (takeAnswer m s) = siteOf s := by
  unfold takeAnswer
  split
  · dsimp only
    rw [reselect_site]
    refine List.foldlRecOn (motive := fun acc => siteOf acc.1 = siteOf s) m.items (answerItem m.target) (b := (s, [])) rfl
      fun acc ih i _ => (answerItem_site m.target acc i).trans ih
  · rfl

@[simp] theorem takeCall_site (m : CallMsg) : siteOf (takeCall m s) = siteOf s := by
  unfold takeCall nameAccepted
  dsimp only
  rw [reselect_site]
  exact foldl_keep siteOf _ (fun t l => handOrDrop_site t _) _ s

@[simp] theorem unname_site (l : Nat) : siteOf (unname l s) = siteOf s := by
  unfold unname
  split <;> rfl

@[simp] theorem takeHold_door (m : HoldMsg) : doorOf (takeHold m s) = doorOf s := by
  unfold takeHold
  dsimp only
  split
  · split
    · rfl
    · simp
    · rfl
  · rfl

@[simp] theorem settle_door : doorOf (settle s) = doorOf s := door_of_site (settle_site s)
@[simp] theorem unname_door (l : Nat) : doorOf (unname l s) = doorOf s := door_of_site (unname_site s l)

@[simp] theorem takeRelease_door (m : ReleaseMsg) : doorOf (takeRelease m s) = doorOf s := by
  unfold takeRelease
  split
  · split
    · split <;> simp
    · split <;> rfl
  · rfl

@[simp] theorem takeReceipt_door (m : ReceiptMsg) : doorOf (takeReceipt m s) = doorOf s := by
  unfold takeReceipt
  split
  · split
    · exact removeEntry_door s _
    · split <;> rfl
  · rfl

/-- A new hold is made only for a label found nowhere in the node (R123 check 6, R124). -/
theorem judgeItem_hold {origin : Nat} {i : OfferItem} {h : Hold} (hj : (judgeItem origin i s).2 = some h) :
    h.label = i.label ∧ labelKnown s i.label = false := by
  have hnew : ∀ rank, (holdFor origin i rank s).label = i.label := fun _ => rfl
  unfold judgeItem at hj
  split at hj
  · cases hj
  split at hj
  · cases hj
  split at hj
  · cases hj
  split at hj
  · cases hj
  split at hj
  · cases hj
  split at hj
  · cases hj
  next hunknown =>
    have hk : labelKnown s i.label = false := by simpa [labelKnown] using hunknown
    split at hj
    · cases hj
    split at hj
    · cases hj
    split at hj
    · cases hj
    split at hj
    · cases hj
    · cases hj
    · cases hj; exact ⟨hnew _, hk⟩

/-- An item of an OFFER makes at most one hold and changes nothing else. -/
theorem evalItem_cases (origin : Nat) (acc : State × List AnswerItem) (i : OfferItem) :
    (evalItem origin acc i).1 = acc.1 ∨ ∃ h : Hold, labelKnown acc.1 h.label = false
      ∧ (evalItem origin acc i).1 = addHold h acc.1 := by
  unfold evalItem
  dsimp only
  cases hj : (judgeItem origin i acc.1).2 with
  | none => exact .inl rfl
  | some h =>
    obtain ⟨hl, hk⟩ := judgeItem_hold acc.1 hj
    exact .inr ⟨h, hl ▸ hk, rfl⟩

end Sys2Proof.Machine
end

section
/-! SUPPORT. The view after the link's attempts, the lines and the clock. -/

namespace Sys2Proof.Machine

variable (s : State)

/-! ## The present attempt and the lines -/

@[simp] theorem startAttempt_site : siteOf (startAttempt s) = siteOf s := by
  unfold startAttempt
  split <;> simp

@[simp] theorem contend_site (key : Nat) : siteOf (contend key s) = siteOf s := by
  unfold contend
  split
  · rfl
  · split <;> simp

@[simp] theorem failAttempt_site : siteOf (failAttempt s) = siteOf s := by
  unfold failAttempt
  split
  · dsimp only
    split <;> simp
  · rfl

@[simp] theorem completeAttempt_site : siteOf (completeAttempt s) = siteOf s := by
  unfold completeAttempt
  split
  · rfl
  · split
    · dsimp only
      rw [offerRoom_site, placeWaiting_site]
      split <;> simp
    · rfl

@[simp] theorem quietJoin_site : siteOf (quietJoin s) = siteOf s := by
  unfold quietJoin
  split <;> simp

@[simp] theorem shutterDown_site : siteOf (shutterDown s) = siteOf s := by
  unfold shutterDown
  split
  · rfl
  · dsimp only
    split <;> simp

@[simp] theorem shutterUp_site : siteOf (shutterUp s) = siteOf s := by
  unfold shutterUp dropShutter
  split
  · dsimp only
    split <;> simp
  · rfl

/-! ## OFFER -/

/-- The items of an OFFER change the holds alone. -/
theorem evalItems_door (origin : Nat) (l : List OfferItem) :
    doorOf (l.foldl (evalItem origin) (s, [])).1 = doorOf s := by
  refine List.foldlRecOn (motive := fun acc => doorOf acc.1 = doorOf s) l (evalItem origin) (b := (s, [])) rfl
    fun acc ih i _ => ?_
  rcases evalItem_cases origin acc i with h | ⟨d, -, h⟩ <;> rw [h]
  · exact ih
  · exact (addHold_door _ _).trans ih

@[simp] theorem answerOffer_site (m : OfferMsg) (l : List AnswerItem) : siteOf (answerOffer m l s) = siteOf s := by
  unfold answerOffer
  split <;> simp

/-- The owing list and the numbers kept after an OFFER (R119). -/
theorem noteGroup_cases (m : OfferMsg) :
    noteGroup m s = s ∨ s.docking ≠ none ∧ noteGroup m s = setStore { s.store with
      owing := if m.items.length = m.size then addOwing m.origin s.store.owing
        else s.store.owing.filter (fun b => b != m.origin)
      kept := putKept { bay := m.origin, number := m.group } s.store.kept } s := by
  unfold noteGroup
  cases hd : s.docking with
  | none => exact .inl rfl
  | some d =>
    split
    · exact .inl rfl
    · exact .inr ⟨nofun, rfl⟩

/-- Everything an OFFER does to the view but for the holds: at most its sender joins or leaves the owing list (R119). -/
theorem takeOffer_door (m : OfferMsg) :
    doorOf (takeOffer m s) = doorOf s ∨ s.docking ≠ none ∧ doorOf (takeOffer m s) = { doorOf s with
      owing := if m.items.length = m.size then addOwing m.origin s.store.owing
        else s.store.owing.filter (fun b => b != m.origin)
      kept := putKept { bay := m.origin, number := m.group } s.store.kept } := by
  unfold takeOffer
  split
  · unfold evalOffer
    dsimp only
    rw [settle_door, door_of_site (announce_site _ _)]
    generalize hr : m.items.foldl (evalItem m.origin) (s, []) = r
    have h : doorOf (answerOffer m r.2 r.1) = doorOf s := by
      rw [door_of_site (answerOffer_site _ _ _), ← hr, evalItems_door]
    generalize answerOffer m r.2 r.1 = u at h
    have hd : u.docking = s.docking := congrArg Site.docking h
    have ho : u.store.owing = s.store.owing := congrArg Site.owing h
    have hk : u.store.kept = s.store.kept := congrArg Site.kept h
    rcases noteGroup_cases u m with hu | ⟨hv, hu⟩ <;> rw [hu]
    · exact .inl h
    · refine .inr ⟨hd ▸ hv, ?_⟩
      rw [← ho, ← hk, ← h]
      rfl
  · exact .inl rfl

/-! ## Second boundaries -/

/-- A function of each transfer entry that keeps its label, depot and mass. -/
theorem countAnswer_cargo (e : TransferEntry) :
    (countAnswer e).label = e.label ∧ (countAnswer e).depot = e.depot ∧ (countAnswer e).mass = e.mass := by
  unfold countAnswer
  split <;> exact ⟨rfl, rfl, rfl⟩

theorem countTravel_cargo (e : TransferEntry) :
    (countTravel e).label = e.label ∧ (countTravel e).depot = e.depot ∧ (countTravel e).mass = e.mass := by
  unfold countTravel
  split <;> exact ⟨rfl, rfl, rfl⟩

@[simp] theorem countSeconds_site : siteOf (countSeconds s) = siteOf s := by
  have h : siteOf (countSeconds s) = siteOf (setTable (s.table.map countAnswer) s) := rfl
  rw [h, setTable_map_site s countAnswer_cargo]

/-- What is due in the directory, the groups and the Transfer Table is carried out first, and it keeps the view. -/
theorem expireDue_eq : ∃ t, siteOf t = siteOf s ∧ expireDue s = retryStart (expireWait (expireWindow t)) := by
  unfold expireDue
  refine ⟨_, ?_, rfl⟩
  rw [foldl_keep siteOf _ (fun t x => expireTravel_site t x), foldl_keep siteOf _ (fun t x => expireAnswer_site t _ _),
    foldl_keep siteOf _ (fun t x => expireHold_site t x), foldl_keep siteOf _ (fun t x => expireUnreachable_site t x),
    foldl_keep siteOf _ (fun t x => expireEntry_site t x), expireBeacon_site, expireRejoin_site]

@[simp] theorem expireDue_door : doorOf (expireDue s) = doorOf s := by
  obtain ⟨t, ht, h⟩ := expireDue_eq s
  rw [h, door_of_site (retryStart_site _), expireWait_door, expireWindow_door, door_of_site ht]

@[simp] theorem recomputeUrgency_hall : hallOf (recomputeUrgency s) = hallOf s := hall_of_site (recomputeUrgency_site s)

/-- The Time Base at a minute boundary, before M is recomputed (R47). -/
def minuteTime (b : TimeBase) : TimeBase :=
  { b with
    minute := if b.clockSet then (b.minute + 1) % 1440 else 0
    fallback := if b.source = .reference then b.fallback else min 1439 (b.fallback + 1) }

/-- The minute timers counted (R89, R112, R148). -/
def countMinutes (s : State) : State :=
  let v := setDir { s.dir with entries := s.dir.entries.map ageMinutes } s
  let w := setTable (v.table.map countTravel) v
  if w.dep.state = some .waiting then setDep { w.dep with allowance := w.dep.allowance.map (· - 1) } w else w

/-- A minute boundary moves T and f, recomputes M and U, and counts the minute timers (R47). -/
theorem minuteBoundary_eq :
    minuteBoundary s = countMinutes (recomputeUrgency (recomputeM (setTime (minuteTime s.time) s))) := rfl

@[simp] theorem countMinutes_site : siteOf (countMinutes s) = siteOf s := by
  have h : siteOf (setTable (s.table.map countTravel) s) = siteOf s := setTable_map_site s countTravel_cargo
  unfold countMinutes
  dsimp only
  split <;> exact h

@[simp] theorem minuteBoundary_hall : hallOf (minuteBoundary s) = hallOf s := by
  rw [minuteBoundary_eq, hall_of_site (countMinutes_site _), recomputeUrgency_hall, recomputeM_hall, setTime_hall]

@[simp] theorem secondTick_hall : hallOf (secondTick s) = hallOf s := by
  have h : hallOf (countSeconds (expireDue s)) = hallOf s :=
    (hall_of_site (countSeconds_site _)).trans (hall_of_door (expireDue_door s))
  unfold secondTick
  dsimp only
  split <;> simp [h]

@[simp] theorem passTime_hall (us : Nat) : hallOf (passTime us s) = hallOf s := rfl

@[simp] theorem alignSecond_hall : hallOf (alignSecond s) = hallOf s := by
  unfold alignSecond makeBoundary
  split <;> simp

@[simp] theorem enterFallback_hall (c : FallbackCause) : hallOf (enterFallback c s) = hallOf s := by
  unfold enterFallback
  dsimp only
  rw [recomputeM_hall, hall_of_site (raise_site _ _ _ _), setTime_hall]

@[simp] theorem enterReference_hall : hallOf (enterReference s) = hallOf s := by
  unfold enterReference
  dsimp only
  rw [recomputeM_hall, setTime_hall, hall_of_site (raise_site _ _ _ _), alignSecond_hall, setTime_hall]

@[simp] theorem goodPulse_hall : hallOf (goodPulse s) = hallOf s := by
  unfold goodPulse
  split
  · simp
  · simp
  · split <;> simp

@[simp] theorem badPulse_hall : hallOf (badPulse s) = hallOf s := by
  unfold badPulse
  split
  · split <;> simp
  · rfl
  · rfl

@[simp] theorem silenceEvent_hall : hallOf (silenceEvent s) = hallOf s := by
  unfold silenceEvent
  split <;> simp

@[simp] theorem pulseArrives_hall : hallOf (pulseArrives s) = hallOf s := by
  unfold pulseArrives
  dsimp only
  split
  · rfl
  · split <;> simp

@[simp] theorem silencePassed_hall : hallOf (silencePassed s) = hallOf s := by simp [silencePassed]

@[simp] theorem oscillatorBoundary_hall : hallOf (oscillatorBoundary s) = hallOf s := by
  simp [oscillatorBoundary, makeBoundary]

end Sys2Proof.Machine
end

section
/-! SUPPORT. Everything each request can do once it is taken: refused, with the deck fault R14 asks for where there is
one, or accepted, with what its tests have shown; and how a law of the state is carried through a step. -/

namespace Sys2Proof.Machine

/-! ## Refusals -/

/-- Whether a refusal records an underflow (R8, R9, R14); `tip` says that the request is a TIP OFF. -/
abbrev Underflows (tip : Bool) (s : State) (k : RefusalCode) : Prop :=
  k = .deckEmpty ∨ (k = .noRun ∧ tip = true ∧ s.deck.entries = [])

/-- A request refused in `s`: nothing changes but for the deck fault where R14 asks for one. -/
def RefusedIn (tip : Bool) (s : State) (r : Result) : Prop :=
  ∃ k, r.2 = .error k ∧
    ((k = .deckFull ∧ r.1 = recordFault .overflow s) ∨ (Underflows tip s k ∧ r.1 = recordFault .underflow s)
      ∨ (k ≠ .deckFull ∧ ¬ Underflows tip s k ∧ r.1 = s))

variable {s t : State} {tip : Bool}

/-- A refusal with no deck fault. -/
theorem refuse_plain {k : RefusalCode} (h1 : k ≠ .deckFull) (h2 : ¬ Underflows tip s k) : RefusedIn tip s (refuse k s) :=
  ⟨k, rfl, .inr (.inr ⟨h1, h2, rfl⟩)⟩

/-- A refusal for a reason that never has to do with the deck. -/
theorem refuse_other {k : RefusalCode} (h1 : k ≠ .deckFull) (h2 : k ≠ .deckEmpty) (h3 : k ≠ .noRun) :
    RefusedIn tip s (refuse k s) :=
  refuse_plain h1 fun h => h.elim h2 fun h => h3 h.1

/-- NO RUN of a request other than TIP OFF. -/
theorem refuse_noRun : RefusedIn false s (refuse .noRun s) :=
  refuse_plain nofun fun h => h.elim nofun fun h => nomatch h.2.1

theorem refuse_full : RefusedIn tip s (refuse .deckFull (recordFault .overflow s)) := ⟨_, rfl, .inl ⟨rfl, rfl⟩⟩

theorem refuse_empty : RefusedIn tip s (refuse .deckEmpty (recordFault .underflow s)) :=
  ⟨_, rfl, .inr (.inl ⟨.inl rfl, rfl⟩)⟩

/-- A refused request keeps the view. -/
theorem RefusedIn.site {r : Result} (h : RefusedIn tip s r) : siteOf r.1 = siteOf s := by
  obtain ⟨k, -, ⟨-, h⟩ | ⟨-, h⟩ | ⟨-, -, h⟩⟩ := h <;> rw [h] <;> simp

/-! ## DOCK and DECLARE -/

theorem clamp_ge {lo hi : Nat} (x : Nat) : lo ≤ clamp lo hi x := le_max_left _ _
theorem clamp_le {lo hi : Nat} (h : lo ≤ hi) (x : Nat) : clamp lo hi x ≤ hi := max_le h (min_le_left _ _)

theorem dockBody_cases (p : DockParams) (s : State) :
    RefusedIn false s (dockBody p s)
      ∨ ∃ d rd, s.docking = none ∧ d.ok ∧ dockBody p s = accept rd (takeDock d s) := by
  unfold dockBody
  split
  · exact .inl (refuse_other nofun nofun nofun)
  next hd =>
  split
  · exact .inl (refuse_other nofun nofun nofun)
  split
  · next c pl k _ _ _ =>
    split
    · exact .inl (refuse_other nofun nofun nofun)
    next hok =>
    split
    · exact .inl (refuse_other nofun nofun nofun)
    simp only [minuteOk, Bool.or_eq_true, Bool.not_eq_true', decide_eq_false_iff_not, decide_eq_true_eq, not_or,
      Bool.not_eq_false, not_lt, not_not] at hok
    obtain ⟨⟨hdrops, hc1, hc2⟩, hk⟩ := hok
    refine .inr ⟨boundDocking p.drops c pl k p.handling p.expected, _, by simpa using hd, ?_, rfl⟩
    exact ⟨hdrops, hc1, hc2, clamp_ge _, clamp_le (by decide) _, clamp_ge _, clamp_le (by decide) _,
      min_le_left _ _, hk⟩
  · exact .inl (refuse_other nofun nofun nofun)

/-- The deck entry made by a DECLARE (R23). -/
def declaredEntry (label depot mass : Nat) : DeckEntry :=
  { tag := .inbound, label := label, depot := depot, mass := clampMass mass, rank := none, owed := false }

/-- An entry placed at the rear of the deck (R6). -/
def pushed (e : DeckEntry) (s : State) : State := { s with deck := { s.deck with entries := s.deck.entries ++ [e] } }

theorem declareBody_cases (label depot mass : Nat) (s : State) :
    RefusedIn false s (declareBody label depot mass s)
      ∨ ∃ d rd, s.docking = some d ∧ labelKnown s label = false ∧ (∀ x ∈ s.deck.entries, x.tag = .inbound)
        ∧ s.deck.entries.length < d.capacity
        ∧ declareBody label depot mass s = accept rd (pushed (declaredEntry label depot mass) s) := by
  unfold declareBody
  split
  · exact .inl (refuse_other nofun nofun nofun)
  next d hd =>
  split
  · exact .inl (refuse_other nofun nofun nofun)
  split
  · exact .inl (refuse_other nofun nofun nofun)
  split
  · exact .inl (refuse_other nofun nofun nofun)
  split
  · exact .inl (refuse_other nofun nofun nofun)
  next hk =>
  rcases pushDeck_cases d.capacity (declaredEntry label depot mass) s.deck with ⟨-, h⟩ | ⟨-, -, h⟩ | ⟨ht, hl, h⟩ <;>
    rw [declaredEntry] at h <;> rw [h]
  · exact .inl (refuse_other nofun nofun nofun)
  · exact .inl refuse_full
  · exact .inr ⟨d, _, hd, by simpa using hk, ht, hl, rfl⟩

/-! ## The tip run -/

theorem inboundCount_le (d : Deck) : inboundCount d ≤ d.entries.length := List.length_filter_le _ _

theorem tipStartBody_cases (mode : TipModeArg) (s : State) :
    RefusedIn false s (tipStartBody mode s)
      ∨ ∃ rd, s.docking.isSome = true ∧
        (tipStartBody mode s = accept rd (beginRun .openEnded none s)
          ∨ ∃ n, (n ≤ 52 ∨ n ≤ s.deck.entries.length)
            ∧ tipStartBody mode s = accept rd (beginRun .counted (some n) s)) := by
  unfold tipStartBody
  split
  · exact .inl (refuse_other nofun nofun nofun)
  next hd =>
  have hd : s.docking.isSome = true := by simpa [Option.isSome_iff_ne_none] using hd
  split
  · exact .inl (refuse_other nofun nofun nofun)
  split
  · exact .inl (refuse_other nofun nofun nofun)
  · exact .inr ⟨_, hd, .inl rfl⟩
  · split
    · exact .inl (refuse_other nofun nofun nofun)
    next n hn =>
    refine .inr ⟨_, hd, .inr ⟨_, ?_, rfl⟩⟩
    split
    · exact .inr (inboundCount_le _)
    · exact .inl (by omega)

theorem tipEndBody_cases (s : State) :
    RefusedIn false s (tipEndBody s) ∨ ∃ rd, tipEndBody s = accept rd (terminateRun .ended false s) := by
  unfold tipEndBody
  split
  · exact .inl refuse_noRun
  · exact .inr ⟨_, rfl⟩

/-- A pallet that a TIP OFF may take: a declared one of the rear three places (R8), or one known nowhere (R30). -/
def Tippable (p : Tipped) (s : State) : Prop :=
  (∃ k e, p = { label := e.label, depot := e.depot, mass := e.mass, depth := some k }
      ∧ examineLabel s.deck p.label = some (k, e) ∧ e.tag = .inbound)
    ∨ (p.depth = none ∧ labelKnown s p.label = false)

/-- Everything routing a tipped pallet can do (R31). -/
theorem tipPallet_cases (p : Tipped) (s : State) :
    RefusedIn tip s (tipPallet p s)
      ∨ ∃ rd, (∃ r, tipPallet p s = accept rd (countTip p (routeToLane p r (takeOff p s))))
        ∨ tipPallet p s = accept rd (countTip p (routeToTable p (takeOff p s))) := by
  unfold tipPallet
  split
  · exact .inr ⟨_, .inl ⟨_, rfl⟩⟩
  · split
    · exact .inl (refuse_other nofun nofun nofun)
    · exact .inr ⟨_, .inr rfl⟩

/-- The entry that a label finds on the deck carries it, and stands at its inward count from the rear (R4). -/
theorem examineLabel_some {d : Deck} {label k : Nat} {e : DeckEntry} (h : examineLabel d label = some (k, e)) :
    e.label = label ∧ k < d.entries.length ∧ d.entries[d.entries.length - 1 - k]? = some e := by
  unfold examineLabel at h
  split at h
  · cases h
  next i hi =>
  obtain ⟨hlt, hp, -⟩ := List.findIdx?_eq_some_iff_getElem.1 hi
  simp only [List.getElem?_eq_getElem hlt, Option.map_some, Option.some.injEq, Prod.mk.injEq] at h
  obtain ⟨rfl, rfl⟩ := h
  refine ⟨by simpa using hp, by omega, ?_⟩
  rw [show d.entries.length - 1 - (d.entries.length - 1 - i) = i by omega, List.getElem?_eq_getElem hlt]

theorem examineLabel_none {d : Deck} {label : Nat} :
    examineLabel d label = none ↔ d.entries.any (fun e => e.label == label) = false := by
  unfold examineLabel
  split
  · next h => simpa using h
  next i hi =>
  obtain ⟨hlt, hp, -⟩ := List.findIdx?_eq_some_iff_getElem.1 hi
  simp only [List.getElem?_eq_getElem hlt, Option.map_some, reduceCtorEq, false_iff, Bool.not_eq_false, List.any_eq_true]
  exact ⟨_, List.getElem_mem hlt, hp⟩

theorem tipOffBody_cases (label : Nat) (depot mass : Option Nat) (s : State) :
    RefusedIn true s (tipOffBody label depot mass s)
      ∨ ∃ p, Tippable p s ∧ s.run.mode.isSome = true ∧ tipOffBody label depot mass s = tipPallet p s := by
  unfold tipOffBody
  split
  · next hrun =>
    split
    · next he =>
      exact .inl ⟨_, rfl, .inr (.inl ⟨.inr ⟨rfl, rfl, by simpa using he⟩, rfl⟩)⟩
    · next he =>
      refine .inl (refuse_plain nofun ?_)
      rintro (h | ⟨-, -, h⟩)
      · cases h
      · simp [h] at he
  next hrun =>
  have hrun : s.run.mode.isSome = true := by simpa [Option.isSome_iff_ne_none] using hrun
  split
  · exact .inl (refuse_other nofun nofun nofun)
  split
  · next k e he =>
    split
    · exact .inl (refuse_other nofun nofun nofun)
    next htag =>
    split
    · exact .inl (refuse_other nofun nofun nofun)
    refine .inr ⟨_, .inl ⟨k, e, rfl, ?_, ?_⟩, hrun, rfl⟩
    · rw [(examineLabel_some he).1]; exact he
    · revert htag; cases e.tag <;> simp
  · next he =>
    split
    · split
      · exact .inl (refuse_other nofun nofun nofun)
      next hk =>
      refine .inr ⟨_, .inr ⟨rfl, ?_⟩, hrun, rfl⟩
      simp only [labelKnown, onDeck, examineLabel_none.1 he, Bool.false_or]
      simpa using hk
    · exact .inl (refuse_other nofun nofun nofun)

/-! ## LOAD, UNLOAD BACK and DEPART -/

theorem loadBody_cases (label : Nat) (s : State) :
    RefusedIn false s (loadBody label s)
      ∨ ∃ e rd, s.lane.find? (fun x => x.label == label) = some e ∧ compareRank s.deck e.rank ≠ .behind
        ∧ (∀ x ∈ s.deck.entries, x.tag = .outbound)
        ∧ s.deck.entries.length < (s.docking.map (·.capacity)).getD 0
        ∧ loadBody label s = accept rd
            (takeLoad label { s.deck with entries := s.deck.entries ++ [loadedEntry e] } s) := by
  unfold loadBody
  split
  · exact .inl (refuse_other nofun nofun nofun)
  next e he =>
  split
  · exact .inl (refuse_other nofun nofun nofun)
  split
  · exact .inl (refuse_other nofun nofun nofun)
  next hc =>
  rcases pushDeck_cases ((s.docking.map (·.capacity)).getD 0) (loadedEntry e) s.deck with
    ⟨-, h⟩ | ⟨-, -, h⟩ | ⟨ht, hl, h⟩ <;> rw [h]
  · exact .inl (refuse_other nofun nofun nofun)
  · exact .inl refuse_full
  · exact .inr ⟨e, _, he, hc, ht, hl, rfl⟩

theorem unloadBody_cases (s : State) :
    RefusedIn false s (unloadBody s)
      ∨ ∃ e rd, s.deck.entries.getLast? = some e ∧ e.tag = .outbound ∧ unloadBody s = accept rd (takeUnload e s) := by
  unfold unloadBody
  split
  · exact .inl refuse_empty
  · next e he =>
    split
    · next ht => exact .inr ⟨e, _, he, ht, rfl⟩
    · exact .inl refuse_empty

theorem departBody_cases (abandon : Bool) (s : State) :
    RefusedIn false s (departBody abandon s)
      ∨ ∃ rd, (s.lane = [] ∨ abandon = true) ∧ departBody abandon s = accept rd (takeDepart abandon s) := by
  unfold departBody
  split
  · exact .inl (refuse_other nofun nofun nofun)
  split
  · exact .inl (refuse_other nofun nofun nofun)
  split
  · exact .inl (refuse_other nofun nofun nofun)
  next hl =>
  split
  · exact .inl (refuse_other nofun nofun nofun)
  · refine .inr ⟨_, ?_, rfl⟩
    cases abandon
    · exact .inl (by simpa using hl)
    · exact .inr rfl

/-! ## ARRIVE -/

theorem arriveBody_cases (label depot mass : Nat) (origin : Option Nat) (s : State) :
    RefusedIn false s (arriveBody label depot mass origin s)
      ∨ ∃ rank, onDeck s label = false ∧ inLane s label = false ∧ inTable s label = false ∧
        ((∃ h ∈ s.store.holds, h.label = label
            ∧ arriveBody label depot mass origin s = arriveHeld h depot rank (clampMass mass) s)
          ∨ inHolds s label = false
            ∧ arriveBody label depot mass origin s = arriveUnannounced label depot rank (clampMass mass) origin s) := by
  unfold arriveBody
  split
  · exact .inl (refuse_other nofun nofun nofun)
  split
  · exact .inl (refuse_other nofun nofun nofun)
  split
  · exact .inl (refuse_other nofun nofun nofun)
  split
  · exact .inl (refuse_other nofun nofun nofun)
  next rank _ =>
  split
  · exact .inl (refuse_other nofun nofun nofun)
  next hk =>
  simp only [Bool.or_eq_true, not_or, Bool.not_eq_true] at hk
  obtain ⟨⟨hd, hl⟩, ht⟩ := hk
  refine .inr ⟨rank, hd, hl, ht, ?_⟩
  split
  · next h hh => exact .inl ⟨h, List.mem_of_find?_eq_some hh, by simpa using List.find?_some hh, rfl⟩
  · next hh => exact .inr ⟨by simpa [inHolds] using hh, rfl⟩

/-- The state an unannounced pallet leaves once it is in the lane (R132, R133). -/
theorem arriveUnannounced_cases (label depot rank mass : Nat) (origin : Option Nat) (s : State) :
    RefusedIn false s (arriveUnannounced label depot rank mass origin s)
      ∨ ∃ rd t, siteOf t = siteOf { s with lane := s.lane ++ [unannouncedEntry label depot rank mass origin] }
        ∧ arriveUnannounced label depot rank mass origin s = accept rd t := by
  unfold arriveUnannounced
  split
  · exact .inl (refuse_other nofun nofun nofun)
  · exact .inl (refuse_other nofun nofun nofun)
  · refine .inr ⟨_, _, ?_, rfl⟩
    rw [settle_site, askReceipt_site, announce_site]

/-! ## Requests that keep the view -/

theorem withdrawBody_cases (label : Nat) (s : State) :
    RefusedIn false s (withdrawBody label s)
      ∨ ∃ rd t, siteOf t = siteOf s ∧ withdrawBody label s = accept rd (removeEntry label t) := by
  unfold withdrawBody
  split
  · exact .inl (refuse_other nofun nofun nofun)
  split
  · exact .inl (refuse_other nofun nofun nofun)
  split
  · exact .inr ⟨_, s, rfl, rfl⟩
  split
  · exact .inl (refuse_other nofun nofun nofun)
  · next h => exact .inr ⟨_, _, handFrame_site h, rfl⟩

/-- A request accepted that keeps the view, or refused. -/
def Quiet (s : State) (r : Result) : Prop := RefusedIn false s r ∨ ∃ rd t, siteOf t = siteOf s ∧ r = accept rd t

@[simp] theorem takeHalt_site (s : State) : siteOf (takeHalt s) = siteOf s := by
  unfold takeHalt
  split <;> simp

@[simp] theorem takeResume_site (s : State) : siteOf (takeResume s) = siteOf s := by
  unfold takeResume
  split
  · dsimp only
    split <;> simp
  · rfl

@[simp] theorem takeReopen_site (s : State) : siteOf (takeReopen s) = siteOf s := by
  unfold takeReopen
  split <;> simp

theorem intakeBody_quiet {take : State → State} (h : ∀ s, siteOf (take s) = siteOf s) (s : State) :
    Quiet s (intakeBody take s) := by
  unfold intakeBody
  split
  · exact .inl (refuse_other nofun nofun nofun)
  · exact .inr ⟨_, _, h s, rfl⟩

theorem closeBody_quiet (s : State) : Quiet s (closeBody s) := by
  unfold closeBody
  split
  · exact .inl (refuse_other nofun nofun nofun)
  split
  · exact .inl (refuse_other nofun nofun nofun)
  split
  · exact .inl (refuse_other nofun nofun nofun)
  · refine .inr ⟨_, _, ?_, rfl⟩
    split <;> simp

theorem reopenBody_quiet (s : State) : Quiet s (reopenBody s) := by
  unfold reopenBody
  split
  · exact .inl (refuse_other nofun nofun nofun)
  split
  · exact .inl (refuse_other nofun nofun nofun)
  · exact .inr ⟨_, _, takeReopen_site s, rfl⟩

theorem setNoticesBody_quiet (mask : FlagWord) (mode : Option DeclineMode) (s : State) :
    Quiet s (setNoticesBody mask mode s) := by
  unfold setNoticesBody
  split
  · exact .inl (refuse_other nofun nofun nofun)
  split
  · exact .inl (refuse_other nofun nofun nofun)
  · refine .inr ⟨_, _, ?_, rfl⟩
    rfl

theorem readDeckBody_quiet (position : Nat) (s : State) : Quiet s (readDeckBody position s) := by
  unfold readDeckBody
  split
  · exact .inl (refuse_other nofun nofun nofun)
  · refine .inr ⟨_, _, ?_, rfl⟩
    rfl

theorem restartLinkBody_quiet (s : State) : Quiet s (restartLinkBody s) := .inr ⟨_, _, restartLink_site s, rfl⟩

/-! ## Requests that recompute M or U -/

theorem setCutoffBody_cases (cutoff : Nat) (s : State) :
    RefusedIn false s (setCutoffBody cutoff s)
      ∨ ∃ d rd, s.docking = some d ∧ cutoff ≤ 1439
        ∧ setCutoffBody cutoff s = accept rd (recomputeM { s with docking := some { d with cutoff := cutoff } }) := by
  unfold setCutoffBody
  split
  · exact .inl (refuse_other nofun nofun nofun)
  next d hd =>
  split
  · exact .inl (refuse_other nofun nofun nofun)
  next hk => exact .inr ⟨d, _, hd, by simpa [minuteOk] using hk, rfl⟩

theorem setExpectedBody_cases (expected : Nat) (s : State) :
    RefusedIn false s (setExpectedBody expected s)
      ∨ ∃ d rd, s.docking = some d ∧ setExpectedBody expected s = accept rd (settle (recomputeUrgency
          { s with docking := some { d with expected := min d.capacity expected } })) := by
  unfold setExpectedBody
  split
  · exact .inl (refuse_other nofun nofun nofun)
  next d hd =>
  split
  · exact .inl (refuse_other nofun nofun nofun)
  · exact .inr ⟨d, _, hd, rfl⟩

theorem setClockBody_cases (minute : Option Nat) (s : State) :
    RefusedIn false s (setClockBody minute s)
      ∨ ∃ k rd, k ≤ 1439 ∧ setClockBody minute s = accept rd
          (recomputeM (setTime { s.time with minute := k, seconds := 0, clockSet := true } s)) := by
  unfold setClockBody
  split
  · exact .inl (refuse_other nofun nofun nofun)
  split
  · exact .inl (refuse_other nofun nofun nofun)
  next k hk => exact .inr ⟨k, _, by simpa [minuteOk] using hk, rfl⟩

/-! ## Laws carried through a command -/

/-- A law kept by every command, and blind to the commands that wait, is kept by every step. -/
theorem step_keeps {P : State → Prop} (hp : ∀ s p, P s → P (s.withPending p))
    (he : ∀ i s t, P s → exec i s = .next t → P t) (hs : P s) (h : step s = .next t) : P t := by
  unfold step at h
  split at h
  · cases h; exact hs
  · exact he _ _ _ (hp _ _ hs) h

/-- A law blind to the port is kept by a request whose own tests keep it. -/
theorem request_keeps {P : State → Prop} (hp : ∀ s p, P s → P { s with port := p }) {h : ReqHead} {r : Request}
    {body : State → Result} (hs : P s) (hb : P (body s).1) : P (request h r body s) := by
  rcases request_cases h r body s with ⟨-, e⟩ | ⟨-, -, e⟩ | ⟨-, -, -, e⟩ | ⟨-, e⟩ <;> rw [e]
  · exact hs
  · exact hp _ _ hs
  · exact hp _ _ hs
  · exact hp _ _ hb

/-- A law is kept by an event that the reset pin may gate. -/
theorem live_keeps {P : State → Prop} {f : State → State} (hs : P s) (hf : P (f s)) : P (live f s) := by
  unfold live
  split
  · exact hs
  · exact hf

/-- A law read off the view is kept by a frame heard, where its block keeps it. The framing of R63 says that the sender
is a bay of 1..60 other than the own. -/
theorem takeFrame_keeps {P : State → Prop} (hv : ∀ s t, siteOf t = siteOf s → P s → P t) {key : Nat} {b : Body}
    {f : State → State} (hs : P s)
    (hf : 1 ≤ b.sender ∧ b.sender ≤ 60 ∧ b.sender ≠ s.straps.bay → P (f (lineActive false s))) :
    P (takeFrame key b f s) := by
  rcases takeFrame_cases key b f s with ⟨-, e⟩ | ⟨-, e⟩ | ⟨-, -, e⟩ | ⟨-, -, hok, hbay, e⟩ <;> rw [e]
  · exact hs
  · exact hv _ _ (badFrame_site s) hs
  · exact hv _ _ (duplicateHeard_site _ _) (hv _ _ (lineActive_site s false) hs)
  · refine hv _ _ (countTaken_site _) (hf ?_)
    simp only [framingOk, bayOk, Bool.and_eq_true, decide_eq_true_eq] at hok
    obtain ⟨⟨-, -, hsend⟩, h1, h2⟩ := hok
    exact ⟨hsend ▸ h1, hsend ▸ h2, hsend ▸ hbay⟩

end Sys2Proof.Machine
end

section
/-! SUPPORT. The view after the requests that move pallets, each as a record update of the view before. -/

namespace Sys2Proof.Machine

/-! ## The deck -/

/-- The exchange with the rear and the pop take out exactly the entry examined (R8, R10). -/
theorem exchangeRear_perm {es : List DeckEntry} {k : Nat} {e : DeckEntry} (hk : k < es.length)
    (he : es[es.length - 1 - k]? = some e) : (e :: (exchangeRear k es).dropLast).Perm es := by
  have h1 : es.length - 1 < es.length := by omega
  have h2 : es.length - 1 - k < es.length := by omega
  obtain rfl : es[es.length - 1 - k] = e := by simpa [List.getElem?_eq_getElem h2] using he
  have hx : exchangeRear k es =
      (es.set (es.length - 1) es[es.length - 1 - k]).set (es.length - 1 - k) es[es.length - 1] := by
    simp [exchangeRear, List.getElem?_eq_getElem h1, List.getElem?_eq_getElem h2]
  have hlast : (exchangeRear k es).getLast? = some es[es.length - 1 - k] := by
    rw [hx, List.getLast?_eq_getElem?, List.length_set, List.length_set]
    by_cases h0 : k = 0
    · subst h0; simp [h1]
    · rw [List.getElem?_set_ne (by omega)]; simp [h1]
  have happ := List.dropLast_append_getLast? _ hlast
  refine (List.perm_append_singleton _ _).symm.trans ?_
  rw [happ, hx]
  exact List.set_set_perm h1 h2

/-- A declared pallet at the rear is simply popped (R9). -/
theorem exchangeRear_zero (es : List DeckEntry) : (exchangeRear 0 es).dropLast = es.dropLast := by
  unfold exchangeRear
  split
  · next rear e h1 h2 =>
    rw [Nat.sub_zero] at h2 ⊢
    simp [List.dropLast_eq_take, List.take_set_of_le]
  · rfl

variable (s : State)

/-! ## DOCK -/

theorem cutoffTests_zero (k : Nat) : cutoffTests 0 k s =
    if s.time.m ≤ 15 ∧ s.time.warned = false then raise .cutoffNear s.time.m k (setTime { s.time with warned := true } s)
    else s := by
  unfold cutoffTests
  simp

/-- A DOCK taken binds the record, works M out and leaves the rest of the view (R21). -/
theorem takeDock_site (d : Docking) : ∃ w, siteOf (takeDock d s) = { siteOf s with
    docking := some d, time := { s.time with warned := w, m := effectiveMinutes s.time d.cutoff } } := by
  unfold takeDock
  dsimp only
  rw [checkAutoclose_site, cutoffTests_zero]
  generalize hv : beaconedChange _ = v
  have hs : siteOf v = { siteOf s with
      docking := some d, time := { s.time with warned := false, m := effectiveMinutes s.time d.cutoff } } := by
    rw [← hv, beaconedChange_site]
    simp only [siteOf, setTime, checkReady_straps, checkReady_port, checkReady_docking, checkReady_deck,
      checkReady_lane, checkReady_run, checkReady_time, checkReady_store, checkReady_table]
  split
  · refine ⟨true, ?_⟩
    have ht : v.time = { s.time with warned := false, m := effectiveMinutes s.time d.cutoff } := congrArg Site.time hs
    rw [raise_site, show siteOf (setTime { v.time with warned := true } v) =
      { siteOf v with time := { v.time with warned := true } } from rfl, hs, ht]
  · exact ⟨false, hs⟩

/-! ## The tip run -/

theorem beginRun_site (mode : TipMode) (r : Option Nat) : siteOf (beginRun mode r s) =
    { siteOf s with run := { s.run with mode := some mode, remaining := r, tipped := 0 } } := rfl

/-- The end of a run makes it IDLE with its reason and leaves the rest of the view (R27). -/
theorem terminateRun_site (reason : TipReason) (b : Bool) : siteOf (terminateRun reason b s) =
    { siteOf s with run := { s.run with mode := none, lastReason := reason } } := by
  have h := endRunGroups_site s
  have hr := endRunGroups_run s
  unfold terminateRun
  dsimp only
  calc _ = { siteOf (endRunGroups s) with run := { (endRunGroups s).run with mode := none, lastReason := reason } } := rfl
    _ = _ := by rw [h, hr]

/-- The counts after a tipped pallet (R32). -/
def tippedRun (r : RunCounter) : RunCounter :=
  { r with
    tipped := min 65535 (r.tipped + 1)
    remaining := if r.mode = some .counted then r.remaining.map (· - 1) else r.remaining }

/-- The state in which the end of the run is looked for (R32). -/
def tipCounted (s : State) : State := { s with run := tippedRun s.run }

/-- Whether a tipped pallet was the last declared one on the deck (R32). -/
def tipEmptied (p : Tipped) (s : State) : Bool := p.depth.isSome && inboundCount s.deck == 0

/-- A pallet counted: the run ends with COUNT, or with EMPTY, or goes on (R32). -/
theorem countTip_eq (p : Tipped) : countTip p s =
    if (tippedRun s.run).mode = some .counted ∧ (tippedRun s.run).remaining = some 0 then
      terminateRun .count (tipEmptied p s) (tipCounted s)
    else if tipEmptied p s then terminateRun .empty false (tipCounted s) else tipCounted s := rfl

theorem countTip_site (p : Tipped) : siteOf (countTip p s) = { siteOf s with run := tippedRun s.run }
    ∨ ∃ reason, siteOf (countTip p s) =
      { siteOf s with run := { tippedRun s.run with mode := none, lastReason := reason } } := by
  rw [countTip_eq]
  split
  · exact .inr ⟨_, terminateRun_site _ _ _⟩
  · split
    · exact .inr ⟨_, terminateRun_site _ _ _⟩
    · exact .inl rfl

/-- The deck after a pallet is taken off (R29, R30). -/
def deckAfterTip (p : Tipped) (es : List DeckEntry) : List DeckEntry :=
  match p.depth with
  | none => es
  | some k => (exchangeRear k es).dropLast

theorem takeOff_site (p : Tipped) : siteOf (takeOff p s) =
    { siteOf s with deck := (deckAfterTip p s.deck.entries).map DeckEntry.unowed } := by
  obtain ⟨label, depot, mass, depth⟩ := p
  cases depth with
  | none => rfl
  | some k =>
    unfold takeOff deckAfterTip
    dsimp only
    split <;> rfl

theorem routeToLane_site (p : Tipped) (r : Nat) : siteOf (routeToLane p r s) = { siteOf s with
    lane := (siteOf s).lane ++ [{ label := p.label, depot := p.depot, rank := r, mass := p.mass, origin := 0,
                                  unannounced := false, owed := false }] } := by
  unfold routeToLane
  rw [settle_site, announce_site]
  simp only [siteOf, List.map_append]
  rfl

theorem addEntry_site (l d m : Nat) : siteOf (addEntry l d m s) =
    { siteOf s with cargo := (siteOf s).cargo ++ [(l, d, m)] } := by
  simp only [siteOf, addEntry, setTable, cargoOf, List.map_append]
  rfl

theorem routeToTable_site (p : Tipped) : siteOf (routeToTable p s) =
    { siteOf s with cargo := (siteOf s).cargo ++ [(p.label, p.depot, p.mass)] } := by
  rw [routeToTable, selectTarget_site, addEntry_site]

/-! ## LOAD, UNLOAD BACK, DEPART and ARRIVE -/

theorem takeLoad_site (label : Nat) (deck : Deck) : siteOf (takeLoad label deck s) = { siteOf s with
    deck := deck.entries.map DeckEntry.unowed
    lane := (s.lane.filter (fun x => x.label != label)).map LaneEntry.unowed } := by
  unfold takeLoad
  rw [settle_site, recomputeUrgency_site]
  rfl

theorem takeUnload_site (e : DeckEntry) : siteOf (takeUnload e s) = { siteOf s with
    deck := s.deck.entries.dropLast.map DeckEntry.unowed
    lane := (s.lane ++ [unloadedEntry e]).map LaneEntry.unowed } := by
  unfold takeUnload
  rw [settle_site, recomputeUrgency_site]
  rfl

/-- The cargo of lane entries (R41). -/
def laneCargo (l : List LaneEntry) : List (Nat × Nat × Nat) := l.map (fun e => (e.label, e.depot, e.mass))

theorem abandonLane_site (l : List LaneEntry) : siteOf (abandonLane l s) =
    { siteOf s with cargo := (siteOf s).cargo ++ laneCargo l } := by
  unfold abandonLane
  induction l generalizing s with
  | nil => simp [laneCargo]
  | cons e l ih => simp [ih, addEntry_site, laneCargo]

/-- The run after a DEPART: an active one ends with reason END (R27, R42). -/
def departedRun (r : RunCounter) : RunCounter :=
  if r.mode.isSome then { r with mode := none, lastReason := .ended } else r

/-- A DEPART taken leaves the door empty, the run ended and the abandoned lane in the Transfer Table (R41, R42). -/
theorem takeDepart_site (abandon : Bool) : siteOf (takeDepart abandon s) = { siteOf s with
    docking := none, deck := [], lane := [], run := departedRun s.run
    time := { s.time with m := 0, warned := false }, owing := [], kept := [], holds := []
    cargo := (siteOf s).cargo ++ laneCargo (if abandon then s.lane else []) } := by
  unfold takeDepart
  dsimp only
  generalize (if abandon = true then s.lane else []) = lane
  rw [foldl_keep siteOf _ (fun t e => selectTarget_site t true _), beaconedChange_site]
  generalize ht : (if s.run.mode.isSome = true then terminateRun .ended false s else s) = t
  have hs : siteOf t = { siteOf s with run := departedRun s.run } := by
    rw [← ht, departedRun]
    split
    · exact terminateRun_site _ _ _
    · rfl
  have hu := abandonLane_site t lane
  rw [hs] at hu
  generalize abandonLane lane t = u at hu
  have hend : siteOf (endDocking u) = { siteOf u with
      docking := none, deck := [], lane := [], time := { u.time with m := 0, warned := false }
      owing := [], kept := [], holds := [] } := rfl
  have htime : u.time = s.time := congrArg Site.time hu
  rw [hend, hu, htime]

/-- A held pallet taken in: its hold becomes a lane entry, and a closing door may lose the holds left (R131, R148). -/
theorem arriveHeld_eq (h : Hold) (depot rank mass : Nat) : ∃ rd t,
    arriveHeld h depot rank mass s = accept rd (holdGone t) ∧ siteOf t = { siteOf s with
      lane := (siteOf s).lane ++ [heldEntry h depot rank mass]
      holds := s.store.holds.filter (fun x => x.label != h.label) } := by
  refine ⟨_, _, rfl, ?_⟩
  rw [settle_site, askReceipt_site]
  simp only [siteOf, dropHold, setStore, List.map_append]
  rfl

theorem clearBay_site : siteOf (clearBay s) =
    { straps := s.straps, port := s.port, docking := none, deck := [], lane := []
      run := { mode := none, remaining := some 0, tipped := 0,
               lastReason := if s.run.mode.isSome then .abort else s.run.lastReason }
      time := { s.time with m := 0, warned := false }, owing := [], kept := [], holds := [], cargo := [] } := rfl

end Sys2Proof.Machine
end

section
/-! PROOF. Node-wide uniqueness of labels (O5): the labels are counted over deck, lane, holds and Transfer Table, and
each command moves a label, drops labels, or brings one in that is known nowhere in the node. -/

namespace Sys2Proof.Machine

/-! ## Counting labels -/

/-- How often a label stands on the deck, in the lane, in the Hold Table and in the Transfer Table of a view. -/
def Site.count (v : Site) (a : Nat) : Nat :=
  (v.deck.map (·.label)).count a + (v.lane.map (·.label)).count a + (v.holds.map (·.label)).count a
    + (v.cargo.map (·.1)).count a

/-- How often a label stands in the node. -/
def labelCount (s : State) (a : Nat) : Nat := (siteOf s).count a

variable {s t : State}

theorem labelCount_eq (s : State) (a : Nat) : labelCount s a = (allLabels s).count a := by
  simp only [labelCount, Site.count, siteOf, allLabels, cargoOf, List.map_map, List.count_append]
  rfl

theorem labelLaw_iff : LabelLaw s ↔ ∀ a, labelCount s a ≤ 1 := by
  simp only [LabelLaw, labelCount_eq, List.nodup_iff_count_le_one]

theorem labelKnown_iff (s : State) (a : Nat) : labelKnown s a = true ↔ a ∈ allLabels s := by
  simp [labelKnown, allLabels, onDeck, inLane, inHolds, inTable, or_assoc]

/-- A label known nowhere is counted nowhere. -/
theorem labelCount_unknown {a : Nat} (h : labelKnown s a = false) : labelCount s a = 0 := by
  rw [labelCount_eq, List.count_eq_zero, ← labelKnown_iff, h]
  decide

/-- No label stands more often than before. -/
theorem labelLaw_mono (h : ∀ a, (siteOf t).count a ≤ (siteOf s).count a) (hs : LabelLaw s) : LabelLaw t :=
  labelLaw_iff.2 fun a => (h a).trans (labelLaw_iff.1 hs a)

theorem labelLaw_of_site (h : siteOf t = siteOf s) (hs : LabelLaw s) : LabelLaw t :=
  labelLaw_mono (fun a => by rw [h]) hs

/-- A label that was known nowhere comes in once. -/
theorem labelLaw_new {x : Nat} (hx : labelKnown s x = false)
    (h : ∀ a, (siteOf t).count a ≤ (siteOf s).count a + [x].count a) (hs : LabelLaw s) : LabelLaw t := by
  refine labelLaw_iff.2 fun a => ?_
  have ha : labelCount t a ≤ labelCount s a + [x].count a := h a
  have hle := labelLaw_iff.1 hs a
  by_cases hax : x = a
  · subst hax
    rw [labelCount_unknown hx, List.count_singleton_self] at ha
    exact ha
  · rw [List.count_singleton, if_neg (by simpa using hax)] at ha
    omega

/-! ## Operations that drop labels -/

/-- `t` has the deck and the lane of `s`, and of its holds and transfer entries only such as `s` has. -/
def Shrinks (s t : State) : Prop :=
  shellOf t = shellOf s ∧ t.store.holds.Sublist s.store.holds ∧ (cargoOf t.table).Sublist (cargoOf s.table)

theorem Shrinks.refl (s : State) : Shrinks s s := ⟨rfl, .refl _, .refl _⟩

theorem Shrinks.trans {u : State} (h1 : Shrinks s t) (h2 : Shrinks t u) : Shrinks s u :=
  ⟨h2.1.trans h1.1, h2.2.1.trans h1.2.1, h2.2.2.trans h1.2.2⟩

theorem shrinks_of_site (h : siteOf t = siteOf s) : Shrinks s t := by
  have hh : t.store.holds = s.store.holds := congrArg Site.holds h
  have hc : cargoOf t.table = cargoOf s.table := congrArg Site.cargo h
  exact ⟨shell_of_site h, by rw [hh], by rw [hc]⟩

/-- The last state may be changed outside the view. -/
theorem Shrinks.of_site {u : State} (h1 : Shrinks s t) (h2 : siteOf u = siteOf t) : Shrinks s u :=
  h1.trans (shrinks_of_site h2)

theorem Shrinks.labelLaw (h : Shrinks s t) : LabelLaw s → LabelLaw t := by
  obtain ⟨hs, hh, hc⟩ := h
  refine labelLaw_mono fun a => ?_
  have hd : (siteOf t).deck = (siteOf s).deck := (congrArg Site.deck hs :)
  have hl : (siteOf t).lane = (siteOf s).lane := (congrArg Site.lane hs :)
  have h1 := (hh.map (·.label)).count_le a
  have h2 := (hc.map (·.1)).count_le a
  simp only [Site.count, hd, hl]
  exact Nat.add_le_add (Nat.add_le_add_left h1 _) h2

theorem foldl_shrinks {α : Type} {f : State → α → State} (h : ∀ s a, Shrinks s (f s a)) (l : List α) (s : State) :
    Shrinks s (l.foldl f s) :=
  List.foldlRecOn (motive := fun t => Shrinks s t) l f (b := s) (.refl s) fun t ht a _ => ht.trans (h t a)

variable (s)

theorem removeEntry_shrinks (l : Nat) : Shrinks s (removeEntry l s) := by
  refine Shrinks.of_site (t := setTable (s.table.filter (fun e => e.label != l)) s) ⟨rfl, .refl _, ?_⟩ ?_
  · exact List.filter_sublist.map _
  · rw [removeEntry, tidyGroups_site, leaveGroups_site]

theorem dropHold_shrinks (l : Nat) : Shrinks s (dropHold l s) := ⟨rfl, List.filter_sublist, .refl _⟩

theorem removeHold_shrinks (l : Nat) : Shrinks s (removeHold l s) := (dropHold_shrinks s l).of_site (announce_site _ _)

theorem voidHolds_shrinks (p : Hold → Bool) : Shrinks s (voidHolds p s) := by
  unfold voidHolds
  dsimp only
  split
  · exact foldl_shrinks (fun t l => removeHold_shrinks t l) _ s
  · exact (foldl_shrinks (fun t l => removeHold_shrinks t l) _ s).of_site (raise_site _ _ _ _)

theorem enterClosed_shrinks (c : CloseCause) : Shrinks s (enterClosed c s) := by
  refine (voidHolds_shrinks s (fun _ => true)).of_site ?_
  unfold enterClosed
  dsimp only
  rw [settle_site, raise_site, setDepState_site, setDep_site]
  split
  · next v h => exact handFrame_site h
  · rfl

theorem holdGone_shrinks : Shrinks s (holdGone s) := by
  unfold holdGone
  split
  · exact enterClosed_shrinks s _
  · exact .refl s

theorem expireWait_shrinks : Shrinks s (expireWait s) := by
  unfold expireWait
  split
  · exact enterClosed_shrinks s _
  · exact .refl s

theorem cutoffReached_shrinks : Shrinks s (cutoffReached s) := by
  unfold cutoffReached
  split
  · split
    · exact shrinks_of_site (autoStart_site s _)
    · exact .refl s
  · exact enterClosed_shrinks s _
  · exact .refl s

theorem setTime_shrinks (b : TimeBase) : Shrinks s (setTime b s) := ⟨rfl, .refl _, .refl _⟩

theorem cutoffTests_shrinks (a b : Nat) : Shrinks s (cutoffTests a b s) := by
  have step : ∀ t, Shrinks t (if t.time.m = 0 ∧ 0 < a then cutoffReached t else t) := by
    intro t
    split
    · exact cutoffReached_shrinks t
    · exact .refl t
  unfold cutoffTests
  dsimp only
  split
  · exact ((setTime_shrinks s _).of_site (raise_site _ _ _ _)).trans (step _)
  · exact step s

theorem recomputeM_shrinks : Shrinks s (recomputeM s) := by
  unfold recomputeM
  split
  · exact .refl s
  · exact ((setTime_shrinks s _).of_site (recomputeUrgency_site _)).trans (cutoffTests_shrinks _ _ _)

theorem minuteBoundary_shrinks : Shrinks s (minuteBoundary s) := by
  rw [minuteBoundary_eq]
  exact (((setTime_shrinks s _).trans (recomputeM_shrinks _)).of_site (recomputeUrgency_site _)).of_site (countMinutes_site _)

theorem takeRelease_shrinks (m : ReleaseMsg) : Shrinks s (takeRelease m s) := by
  unfold takeRelease
  split
  · split
    · split
      · exact (((shrinks_of_site (unname_site s _)).trans (removeHold_shrinks _ _)).of_site (settle_site _)).trans
          (holdGone_shrinks _)
      · exact .refl s
    · split <;> exact .refl s
  · exact .refl s

theorem takeReceipt_shrinks (m : ReceiptMsg) : Shrinks s (takeReceipt m s) := by
  unfold takeReceipt
  split
  · split
    · exact (removeEntry_shrinks s _).of_site (raise_site _ _ _ _)
    · split <;> exact .refl s
  · exact .refl s

/-- An origin forgotten is no label less. -/
theorem shrinks_of_owing {t : State} {o : List Nat} {k : List KeptNumber}
    (h : siteOf t = { siteOf s with owing := o, kept := k }) : Shrinks s t := by
  have hh : t.store.holds = s.store.holds := congrArg Site.holds h
  have hc : cargoOf t.table = cargoOf s.table := congrArg Site.cargo h
  have hs : shellOf t = shellOf s :=
    congrArg (fun v : Site => { v with holds := [], cargo := [], time := TimeBase.initial, owing := [], kept := [] }) h
  exact ⟨hs, by rw [hh], by rw [hc]⟩

theorem takeBeacon_shrinks (m : BeaconMsg) : Shrinks s (takeBeacon m s) := by
  rcases takeBeacon_site s m with h | h
  · exact shrinks_of_site h
  · exact shrinks_of_owing s h

theorem takeDone_shrinks (m : DoneMsg) : Shrinks s (takeDone m s) := shrinks_of_owing s (takeDone_site s m)

/-! ## Operations that bring a label in -/

variable {s}

theorem addHold_labels {h : Hold} (hk : labelKnown s h.label = false) (hs : LabelLaw s) : LabelLaw (addHold h s) := by
  refine labelLaw_new hk (fun a => ?_) hs
  simp only [siteOf, addHold, setStore, Site.count, List.map_append, List.count_append, List.map_cons, List.map_nil]
  omega

theorem reconcileOne_labels (n : NamedRecord) (acc : State × List NamedRecord) (hs : LabelLaw acc.1) :
    LabelLaw (reconcileOne n acc).1 := by
  unfold reconcileOne
  split
  · next hf =>
    split
    · refine labelLaw_of_site (announce_site _ _) (addHold_labels ?_ hs)
      simp only [foundNowhere, Bool.and_eq_true, Bool.not_eq_true'] at hf
      simp [labelKnown, hf]
    · exact hs
  · exact hs

theorem reconcileNamed_labels (ns : List NamedRecord) (hs : LabelLaw s) : LabelLaw (reconcileNamed ns s) := by
  have hr : siteOf (ns.foldl (fun t n => receiptAgain n t) s) = siteOf s :=
    foldl_keep siteOf _ (fun t n => receiptAgain_site t n) ns s
  unfold reconcileNamed reconcileOthers
  dsimp only
  refine labelLaw_of_site (answerClosing_site _ _) ?_
  exact List.foldlRecOn (motive := fun acc => LabelLaw acc.1) ns (fun acc n => reconcileOne n acc)
    (b := (ns.foldl (fun t n => receiptAgain n t) s, [])) (labelLaw_of_site hr hs)
    fun acc ih n _ => reconcileOne_labels n acc ih

theorem windowOutcome_labels (hs : LabelLaw s) : LabelLaw (windowOutcome s) := by
  unfold windowOutcome
  split
  · exact (enterClosed_shrinks s _).labelLaw hs
  · dsimp only
    split
    · exact ((shrinks_of_site (setDep_site s _)).trans (enterClosed_shrinks _ _)).labelLaw hs
    · exact labelLaw_of_site ((setDepState_site _ _).trans (setDep_site s _)) hs

theorem expireWindow_labels (hs : LabelLaw s) : LabelLaw (expireWindow s) := by
  unfold expireWindow
  split
  · exact windowOutcome_labels (reconcileNamed_labels _ ((voidHolds_shrinks s _).labelLaw hs))
  · exact hs

theorem takeHold_labels (m : HoldMsg) (hs : LabelLaw s) : LabelLaw (takeHold m s) := by
  unfold takeHold
  dsimp only
  split
  · split
    · exact hs
    · exact reconcileNamed_labels _ hs
    · exact hs
  · exact hs

theorem takeOffer_labels (m : OfferMsg) (hs : LabelLaw s) : LabelLaw (takeOffer m s) := by
  have hitems : LabelLaw (m.items.foldl (evalItem m.origin) (s, [])).1 := by
    refine List.foldlRecOn (motive := fun acc => LabelLaw acc.1) m.items (evalItem m.origin) (b := (s, [])) hs
      fun acc ih i _ => ?_
    rcases evalItem_cases m.origin acc i with h | ⟨d, hk, h⟩ <;> rw [h]
    · exact ih
    · exact addHold_labels hk ih
  unfold takeOffer
  split
  · unfold evalOffer
    dsimp only
    refine labelLaw_of_site ((settle_site _).trans (announce_site _ _)) ?_
    have ha := labelLaw_of_site (answerOffer_site (m.items.foldl (evalItem m.origin) (s, [])).1 m
      (m.items.foldl (evalItem m.origin) (s, [])).2) hitems
    rcases noteGroup_cases (answerOffer m (m.items.foldl (evalItem m.origin) (s, [])).2
      (m.items.foldl (evalItem m.origin) (s, [])).1) m with h | ⟨-, h⟩ <;> rw [h] <;> exact ha
  · exact hs

/-! ## The clock -/

theorem expireDue_labels (hs : LabelLaw s) : LabelLaw (expireDue s) := by
  obtain ⟨t, ht, h⟩ := expireDue_eq s
  rw [h]
  exact labelLaw_of_site (retryStart_site _)
    ((expireWait_shrinks _).labelLaw (expireWindow_labels (labelLaw_of_site ht hs)))

theorem secondTick_labels (hs : LabelLaw s) : LabelLaw (secondTick s) := by
  have h : LabelLaw (countSeconds (expireDue s)) := labelLaw_of_site (countSeconds_site _) (expireDue_labels hs)
  unfold secondTick
  dsimp only
  split
  · exact ((setTime_shrinks _ _).trans (minuteBoundary_shrinks _)).labelLaw h
  · exact (setTime_shrinks _ _).labelLaw h

theorem alignSecond_labels (hs : LabelLaw s) : LabelLaw (alignSecond s) := by
  unfold alignSecond
  split
  · exact hs
  · exact secondTick_labels hs

theorem oscillatorBoundary_labels (hs : LabelLaw s) : LabelLaw (oscillatorBoundary s) := by
  unfold oscillatorBoundary makeBoundary
  refine secondTick_labels ((setTime_shrinks _ _).labelLaw ?_)
  exact hs

theorem enterFallback_labels (c : FallbackCause) (hs : LabelLaw s) : LabelLaw (enterFallback c s) :=
  (((setTime_shrinks s _).of_site (raise_site _ _ _ _)).trans (recomputeM_shrinks _)).labelLaw hs

theorem goodPulse_labels (hs : LabelLaw s) : LabelLaw (goodPulse s) := by
  unfold goodPulse
  split
  · exact alignSecond_labels hs
  · exact hs
  · split
    · have h : LabelLaw (alignSecond (setTime
        { s.time with source := .reference, goodRun := Config.goodPulses, badRun := 0 } s)) := alignSecond_labels hs
      exact ((shrinks_of_site (raise_site _ _ _ _)).trans ((setTime_shrinks _ _).trans (recomputeM_shrinks _))).labelLaw h
    · exact hs

theorem badPulse_labels (hs : LabelLaw s) : LabelLaw (badPulse s) := by
  unfold badPulse
  split
  · split
    · exact enterFallback_labels _ hs
    · exact hs
  · exact hs
  · exact hs

theorem silencePassed_labels (hs : LabelLaw s) : LabelLaw (silencePassed s) := by
  unfold silencePassed silenceEvent
  dsimp only
  split
  · exact enterFallback_labels _ hs
  · exact hs
  · exact hs

theorem pulseArrives_labels (hs : LabelLaw s) : LabelLaw (pulseArrives s) := by
  unfold pulseArrives
  dsimp only
  split
  · exact hs
  · split
    · exact goodPulse_labels hs
    · exact badPulse_labels hs

/-! ## The requests that move pallets -/

/-- A label that leaves a list in which it stood makes room for itself elsewhere. -/
theorem count_filter_label {α : Type} (f : α → Nat) {x : Nat} {l : List α} (h : ∃ e ∈ l, f e = x) (a : Nat) :
    ((l.filter (fun e => f e != x)).map f).count a + [x].count a ≤ (l.map f).count a := by
  have hf : (l.filter (fun e => f e != x)).map f = (l.map f).filter (· != x) := by
    rw [List.filter_map]
    rfl
  rw [hf]
  by_cases hax : x = a
  · subst hax
    have h0 : ((l.map f).filter (· != x)).count x = 0 := by simp [List.count_eq_zero]
    rw [h0, List.count_singleton_self, Nat.zero_add]
    exact List.one_le_count_iff.2 (List.mem_map.2 h)
  · rw [List.count_singleton, if_neg (by simpa using hax)]
    exact (List.filter_sublist.count_le a :)

theorem countTip_shrinks (p : Tipped) (s : State) : (siteOf (countTip p s)).count = (siteOf s).count := by
  rcases countTip_site s p with h | ⟨_, h⟩ <;> rw [h] <;> rfl

theorem map_unowed_label (l : List DeckEntry) : (l.map DeckEntry.unowed).map (·.label) = l.map (·.label) := by
  rw [List.map_map]
  rfl

theorem map_unowed_lane (l : List LaneEntry) : (l.map LaneEntry.unowed).map (·.label) = l.map (·.label) := by
  rw [List.map_map]
  rfl

/-- The labels left on the deck and the label taken off are those that stood there; an undeclared one is new. -/
theorem takeOff_count {p : Tipped} (hp : Tippable p s) (hs : LabelLaw s) (a : Nat) :
    (siteOf (takeOff p s)).count a + [p.label].count a ≤ 1 := by
  have hle := labelLaw_iff.1 hs a
  simp only [labelCount, Site.count, siteOf, map_unowed_label] at hle
  rw [takeOff_site]
  simp only [Site.count, siteOf, map_unowed_label]
  rcases hp with ⟨k, e, rfl, hx, -⟩ | ⟨hdep, hk⟩
  · obtain ⟨-, hlt, he⟩ := examineLabel_some hx
    have hc := ((exchangeRear_perm hlt he).map (·.label)).count_eq a
    simp only [List.map_cons, List.count_cons, deckAfterTip] at hc ⊢
    simp only [List.count_nil] at *
    omega
  · have h0 := labelCount_unknown hk
    simp only [labelCount, Site.count, siteOf, map_unowed_label] at h0
    simp only [deckAfterTip, hdep]
    by_cases hax : p.label = a
    · subst hax
      rw [List.count_singleton_self]
      omega
    · rw [List.count_singleton, if_neg (by simpa using hax)]
      omega

theorem tipPallet_labels {p : Tipped} (hp : Tippable p s) (hs : LabelLaw s) : LabelLaw (tipPallet p s).1 := by
  rcases tipPallet_cases (tip := true) p s with h | ⟨rd, ⟨r, h⟩ | h⟩
  · exact labelLaw_of_site h.site hs
  · rw [h, labelLaw_iff]
    intro a
    have := takeOff_count hp hs a
    simp only [accept, labelCount, countTip_shrinks, routeToLane_site]
    simp only [Site.count, List.map_append, List.count_append, List.map_cons, List.map_nil] at this ⊢
    omega
  · rw [h, labelLaw_iff]
    intro a
    have := takeOff_count hp hs a
    simp only [accept, labelCount, countTip_shrinks, routeToTable_site]
    simp only [Site.count, List.map_append, List.count_append, List.map_cons, List.map_nil] at this ⊢
    omega

theorem tipOffBody_labels (label : Nat) (depot mass : Option Nat) (hs : LabelLaw s) :
    LabelLaw (tipOffBody label depot mass s).1 := by
  rcases tipOffBody_cases label depot mass s with h | ⟨p, hp, -, h⟩
  · exact labelLaw_of_site h.site hs
  · rw [h]; exact tipPallet_labels hp hs

theorem dockBody_labels (p : DockParams) (hs : LabelLaw s) : LabelLaw (dockBody p s).1 := by
  rcases dockBody_cases p s with h | ⟨d, rd, -, -, h⟩
  · exact labelLaw_of_site h.site hs
  · obtain ⟨w, hw⟩ := takeDock_site s d
    rw [h]
    exact labelLaw_mono (fun a => by rw [accept, hw]; rfl) hs

theorem declareBody_labels (label depot mass : Nat) (hs : LabelLaw s) : LabelLaw (declareBody label depot mass s).1 := by
  rcases declareBody_cases label depot mass s with h | ⟨d, rd, -, hk, -, -, h⟩
  · exact labelLaw_of_site h.site hs
  · rw [h]
    refine labelLaw_new hk (fun a => ?_) hs
    simp only [accept, pushed, siteOf, Site.count, List.map_append, List.count_append, List.map_cons, List.map_nil,
      declaredEntry, DeckEntry.unowed]
    omega

theorem tipStartBody_labels (mode : TipModeArg) (hs : LabelLaw s) : LabelLaw (tipStartBody mode s).1 := by
  rcases tipStartBody_cases mode s with h | ⟨rd, -, h | ⟨n, -, h⟩⟩
  · exact labelLaw_of_site h.site hs
  · rw [h]; exact hs
  · rw [h]; exact hs

theorem tipEndBody_labels (hs : LabelLaw s) : LabelLaw (tipEndBody s).1 := by
  rcases tipEndBody_cases s with h | ⟨rd, h⟩
  · exact labelLaw_of_site h.site hs
  · rw [h]
    exact labelLaw_mono (fun a => by rw [accept, terminateRun_site]; rfl) hs

theorem loadBody_labels (label : Nat) (hs : LabelLaw s) : LabelLaw (loadBody label s).1 := by
  rcases loadBody_cases label s with h | ⟨e, rd, he, -, -, -, h⟩
  · exact labelLaw_of_site h.site hs
  rw [h]
  refine labelLaw_mono (fun a => ?_) hs
  have hlab : e.label = label := by simpa using List.find?_some he
  have hc := count_filter_label (fun x : LaneEntry => x.label) ⟨e, List.mem_of_find?_eq_some he, hlab⟩ a
  simp only [accept, takeLoad_site]
  simp only [Site.count, siteOf, map_unowed_label, map_unowed_lane, List.map_append, List.count_append, List.map_cons,
    List.map_nil, loadedEntry, hlab, DeckEntry.unowed]
  omega

theorem unloadBody_labels (hs : LabelLaw s) : LabelLaw (unloadBody s).1 := by
  rcases unloadBody_cases s with h | ⟨e, rd, he, -, h⟩
  · exact labelLaw_of_site h.site hs
  rw [h]
  refine labelLaw_mono (fun a => ?_) hs
  have hd := congrArg (fun l => (l.map (fun x : DeckEntry => x.label)).count a) (List.dropLast_append_getLast? e he)
  simp only [List.map_append, List.count_append, List.map_cons, List.map_nil] at hd
  simp only [accept, takeUnload_site]
  simp only [Site.count, siteOf, map_unowed_label, map_unowed_lane, List.map_append, List.count_append, List.map_cons,
    List.map_nil, unloadedEntry, LaneEntry.unowed]
  omega

theorem departBody_labels (abandon : Bool) (hs : LabelLaw s) : LabelLaw (departBody abandon s).1 := by
  rcases departBody_cases abandon s with h | ⟨rd, -, h⟩
  · exact labelLaw_of_site h.site hs
  rw [h]
  refine labelLaw_mono (fun a => ?_) hs
  have hc : ((laneCargo (if abandon then s.lane else [])).map (·.1)).count a ≤ (s.lane.map (·.label)).count a := by
    rw [laneCargo, List.map_map]
    cases abandon
    · exact Nat.zero_le _
    · exact le_rfl
  simp only [accept, takeDepart_site]
  simp only [Site.count, siteOf, map_unowed_label, map_unowed_lane, List.map_append, List.count_append, List.map_nil,
    List.count_nil]
  omega

theorem arriveBody_labels (label depot mass : Nat) (origin : Option Nat) (hs : LabelLaw s) :
    LabelLaw (arriveBody label depot mass origin s).1 := by
  rcases arriveBody_cases label depot mass origin s with h | ⟨rank, hd, hl, ht, ⟨h, hmem, hlab, e⟩ | ⟨hh, e⟩⟩
  · exact labelLaw_of_site h.site hs
  · obtain ⟨rd, t, ha, htv⟩ := arriveHeld_eq s h depot rank (clampMass mass)
    rw [e, ha]
    refine (holdGone_shrinks t).labelLaw (labelLaw_mono (fun a => ?_) hs)
    have hc := count_filter_label (fun x : Hold => x.label) ⟨h, hmem, rfl⟩ a
    simp only [htv]
    simp only [siteOf, Site.count, List.map_append, List.count_append, List.map_cons, List.map_nil, heldEntry]
    omega
  · rw [e]
    rcases arriveUnannounced_cases label depot rank (clampMass mass) origin s with h | ⟨rd, t, htv, h⟩
    · exact labelLaw_of_site h.site hs
    · rw [h]
      refine labelLaw_new (x := label) (by simp [labelKnown, hd, hl, hh, ht]) (fun a => ?_) hs
      simp only [accept, htv]
      simp only [siteOf, Site.count, List.map_append, List.count_append, List.map_cons, List.map_nil,
        unannouncedEntry, LaneEntry.unowed]
      omega

theorem withdrawBody_labels (label : Nat) (hs : LabelLaw s) : LabelLaw (withdrawBody label s).1 := by
  rcases withdrawBody_cases label s with h | ⟨rd, t, ht, h⟩
  · exact labelLaw_of_site h.site hs
  · rw [h]
    exact (removeEntry_shrinks t label).labelLaw (labelLaw_of_site ht hs)

theorem setCutoffBody_labels (cutoff : Nat) (hs : LabelLaw s) : LabelLaw (setCutoffBody cutoff s).1 := by
  rcases setCutoffBody_cases cutoff s with h | ⟨d, rd, -, -, h⟩
  · exact labelLaw_of_site h.site hs
  · rw [h]; exact (recomputeM_shrinks _).labelLaw hs

theorem setExpectedBody_labels (expected : Nat) (hs : LabelLaw s) : LabelLaw (setExpectedBody expected s).1 := by
  rcases setExpectedBody_cases expected s with h | ⟨d, rd, -, h⟩
  · exact labelLaw_of_site h.site hs
  · rw [h]; exact labelLaw_of_site ((settle_site _).trans (recomputeUrgency_site _)) hs

theorem setClockBody_labels (minute : Option Nat) (hs : LabelLaw s) : LabelLaw (setClockBody minute s).1 := by
  rcases setClockBody_cases minute s with h | ⟨k, rd, -, h⟩
  · exact labelLaw_of_site h.site hs
  · rw [h]; exact (recomputeM_shrinks _).labelLaw hs

theorem Quiet.labels {r : Result} (h : Quiet s r) (hs : LabelLaw s) : LabelLaw r.1 := by
  rcases h with h | ⟨rd, t, ht, rfl⟩
  · exact labelLaw_of_site h.site hs
  · exact labelLaw_of_site ht hs

/-! ## Every command -/

theorem request_labels {h : ReqHead} {r : Request} {body : State → Result} (hs : LabelLaw s)
    (hb : LabelLaw (body s).1) : LabelLaw (request h r body s) :=
  request_keeps (P := fun s => LabelLaw s) (fun _ _ h => h) hs hb

theorem takeFrame_labels {key : Nat} {b : Body} {f : State → State} (hs : LabelLaw s)
    (hf : LabelLaw (f (lineActive false s))) : LabelLaw (takeFrame key b f s) :=
  takeFrame_keeps (P := fun s => LabelLaw s) (fun _ _ h => labelLaw_of_site h) hs fun _ => hf

theorem live_labels {f : State → State} (hs : LabelLaw s) (hf : LabelLaw (f s)) : LabelLaw (live f s) :=
  live_keeps (P := fun s => LabelLaw s) hs hf

theorem live_site_labels {f : State → State} (hf : siteOf (f s) = siteOf s) (hs : LabelLaw s) : LabelLaw (live f s) :=
  live_labels hs (labelLaw_of_site hf hs)

theorem labelLaw_of_replyDone (hs : LabelLaw s) : LabelLaw (replyDone s) := by
  unfold replyDone nextReply
  split
  · split <;> exact hs
  · exact hs

theorem exec_labels (i : Instr) (hs : LabelLaw s) (h : exec i s = .next t) : LabelLaw t := by
  cases i <;> cases h
  case dock h p => exact request_labels hs (dockBody_labels p hs)
  case declare h label depot mass => exact request_labels hs (declareBody_labels label depot mass hs)
  case tipStart h mode => exact request_labels hs (tipStartBody_labels mode hs)
  case tipOff h label depot mass => exact request_labels hs (tipOffBody_labels label depot mass hs)
  case tipEnd h => exact request_labels hs (tipEndBody_labels hs)
  case load h label => exact request_labels hs (loadBody_labels label hs)
  case unloadBack h => exact request_labels hs (unloadBody_labels hs)
  case arrive h label depot mass origin => exact request_labels hs (arriveBody_labels label depot mass origin hs)
  case depart h abandon => exact request_labels hs (departBody_labels abandon hs)
  case withdraw h label => exact request_labels hs (withdrawBody_labels label hs)
  case haltIntake h => exact request_labels hs ((intakeBody_quiet takeHalt_site s).labels hs)
  case resumeIntake h => exact request_labels hs ((intakeBody_quiet takeResume_site s).labels hs)
  case close h => exact request_labels hs ((closeBody_quiet s).labels hs)
  case reopen h => exact request_labels hs ((reopenBody_quiet s).labels hs)
  case setCutoff h cutoff => exact request_labels hs (setCutoffBody_labels cutoff hs)
  case setExpected h expected => exact request_labels hs (setExpectedBody_labels expected hs)
  case setClock h minute => exact request_labels hs (setClockBody_labels minute hs)
  case setNotices h mask mode => exact request_labels hs ((setNoticesBody_quiet mask mode s).labels hs)
  case readDeck h position => exact request_labels hs ((readDeckBody_quiet position s).labels hs)
  case clearBay h => exact request_labels hs List.nodup_nil
  case restartLink h => exact request_labels hs ((restartLinkBody_quiet s).labels hs)
  case readStatus | readNotice | readSummary | readLane | readHolds | readTransfer | readDirectory | readCounters =>
    exact request_labels hs hs
  case beacon key m => exact takeFrame_labels hs ((takeBeacon_shrinks _ m).labelLaw hs)
  case offer key m => exact takeFrame_labels hs (takeOffer_labels m hs)
  case answer key m => exact takeFrame_labels hs (labelLaw_of_site (takeAnswer_site _ m) hs)
  case release key m => exact takeFrame_labels hs ((takeRelease_shrinks _ m).labelLaw hs)
  case receipt key m => exact takeFrame_labels hs ((takeReceipt_shrinks _ m).labelLaw hs)
  case call key m => exact takeFrame_labels hs (labelLaw_of_site (takeCall_site _ m) hs)
  case hold key m => exact takeFrame_labels hs (takeHold_labels m hs)
  case done key m => exact takeFrame_labels hs ((takeDone_shrinks _ m).labelLaw hs)
  case badFrameHeard => exact live_site_labels (by split <;> simp) hs
  case objectedFrameDropped => exact live_site_labels (by split <;> rfl) hs
  case duplicateBay kind => exact live_site_labels (by split <;> simp) hs
  case quietGapStart => exact live_site_labels (startAttempt_site s) hs
  case lostContention heard => exact live_site_labels (contend_site s heard) hs
  case transmitFailure => exact live_site_labels (failAttempt_site s) hs
  case transmitComplete => exact live_site_labels (completeAttempt_site s) hs
  case queueRoomOffered => exact live_site_labels (offerRoom_site s) hs
  case quietTimerExpiry => exact live_site_labels (quietJoin_site s) hs
  case rejoinTimerExpiry => exact live_site_labels (expireRejoin_site s) hs
  case hallClockPulse elapsed => exact live_labels hs (pulseArrives_labels hs)
  case pulseSilence => exact live_labels hs (silencePassed_labels hs)
  case secondBoundary => exact live_labels hs (oscillatorBoundary_labels hs)
  case beaconTimerExpiry => exact live_site_labels (expireBeacon_site s) hs
  case directoryEntryExpiry bay => exact live_site_labels (expireEntry_site s bay) hs
  case unreachableMarkExpiry bay => exact live_site_labels (expireUnreachable_site s bay) hs
  case holdTimerExpiry target => exact live_site_labels (expireHold_site s target) hs
  case answerTimerExpiry target group => exact live_site_labels (expireAnswer_site s target group) hs
  case travelTimerExpiry label => exact live_site_labels (expireTravel_site s label) hs
  case callWindowEnd => exact live_labels hs (expireWindow_labels hs)
  case waitLimitExpiry => exact live_labels hs ((expireWait_shrinks s).labelLaw hs)
  case automaticStart => exact live_site_labels (retryStart_site s) hs
  case shutterClosed => exact live_site_labels (shutterDown_site s) hs
  case shutterOpened => exact live_site_labels (shutterUp_site s) hs
  case powerOn straps shutter => exact List.nodup_nil
  case resetAsserted => exact hs
  case busy seq => exact live_labels hs (by split <;> exact hs)
  case badFrame seq => exact live_labels hs (by split <;> exact hs)
  case unknown seq code => exact live_labels hs (by split <;> exact hs)
  case interByteTimeout seq => exact live_labels hs (by split <;> exact hs)
  case replySent => exact live_labels hs (labelLaw_of_replyDone hs)
  case nonStartByteDiscarded byte => exact hs

/-- Settles O5: a label is counted over deck, lane, holds and table, and no command counts one twice. -/
theorem everyStepKeepsLabelsUnique : Obligations.EveryStepKeepsLabelsUnique := by
  unfold Obligations.EveryStepKeepsLabelsUnique
  intro s t hs h
  exact step_keeps (P := fun s => LabelLaw s) (fun _ _ h => h) (fun i _ _ hs h => exec_labels i hs h) hs h

end Sys2Proof.Machine
end

section
/-! SUPPORT. The commands that are no requests, and what they leave of the view. -/

namespace Sys2Proof.Machine

variable {s t : State}

/-- The events that touch the port, the Time Base or the owing list, with power-on and the reset pin. -/
def Apart : Instr → Bool
  | .busy _ | .badFrame _ | .unknown _ _ | .interByteTimeout _ | .replySent | .beacon _ _ | .offer _ _ | .done _ _
  | .hallClockPulse _ | .pulseSilence | .secondBoundary | .powerOn _ _ | .resetAsserted => true
  | _ => false

theorem live_door {f : State → State} (hf : doorOf (f s) = doorOf s) : doorOf (live f s) = doorOf s :=
  live_keeps (P := fun u => doorOf u = doorOf s) rfl hf

theorem live_site_door {f : State → State} (hf : siteOf (f s) = siteOf s) : doorOf (live f s) = doorOf s :=
  live_door (door_of_site hf)

theorem takeFrame_door {key : Nat} {b : Body} {f : State → State}
    (hf : doorOf (f (lineActive false s)) = doorOf (lineActive false s)) : doorOf (takeFrame key b f s) = doorOf s :=
  takeFrame_keeps (P := fun u => doorOf u = doorOf s) (fun _ _ h hu => (door_of_site h).trans hu) rfl fun _ => hf

/-- Every other event keeps the port, the docking record, deck, lane, run, Time Base and owing list of the view. -/
theorem exec_door (i : Instr) (hq : i.reqHead = none) (ha : Apart i = false) (h : exec i s = .next t) :
    doorOf t = doorOf s := by
  cases i <;> first | (cases hq; done) | (cases ha; done) | cases h
  case answer key m => exact takeFrame_door (door_of_site (takeAnswer_site _ m))
  case release key m => exact takeFrame_door (takeRelease_door _ m)
  case receipt key m => exact takeFrame_door (takeReceipt_door _ m)
  case call key m => exact takeFrame_door (door_of_site (takeCall_site _ m))
  case hold key m => exact takeFrame_door (takeHold_door _ m)
  case badFrameHeard => exact live_site_door (by split <;> simp)
  case objectedFrameDropped => exact live_site_door (by split <;> rfl)
  case duplicateBay kind => exact live_site_door (by split <;> simp)
  case quietGapStart => exact live_site_door (startAttempt_site s)
  case lostContention heard => exact live_site_door (contend_site s heard)
  case transmitFailure => exact live_site_door (failAttempt_site s)
  case transmitComplete => exact live_site_door (completeAttempt_site s)
  case queueRoomOffered => exact live_site_door (offerRoom_site s)
  case quietTimerExpiry => exact live_site_door (quietJoin_site s)
  case rejoinTimerExpiry => exact live_site_door (expireRejoin_site s)
  case beaconTimerExpiry => exact live_site_door (expireBeacon_site s)
  case directoryEntryExpiry bay => exact live_site_door (expireEntry_site s bay)
  case unreachableMarkExpiry bay => exact live_site_door (expireUnreachable_site s bay)
  case holdTimerExpiry target => exact live_site_door (expireHold_site s target)
  case answerTimerExpiry target group => exact live_site_door (expireAnswer_site s target group)
  case travelTimerExpiry label => exact live_site_door (expireTravel_site s label)
  case callWindowEnd => exact live_door (expireWindow_door s)
  case waitLimitExpiry => exact live_door (expireWait_door s)
  case automaticStart => exact live_site_door (retryStart_site s)
  case shutterClosed => exact live_site_door (shutterDown_site s)
  case shutterOpened => exact live_site_door (shutterUp_site s)
  case nonStartByteDiscarded byte => rfl

/-! ## Requests that touch the view in the port alone -/

/-- The requests that may change more of the view than the port. -/
def Loud : Instr → Bool
  | .dock _ _ | .declare _ _ _ _ | .tipStart _ _ | .tipOff _ _ _ _ | .tipEnd _ | .load _ _ | .unloadBack _
  | .arrive _ _ _ _ _ | .depart _ _ | .withdraw _ _ | .setCutoff _ _ | .setExpected _ _ | .setClock _ _
  | .clearBay _ => true
  | _ => false

theorem Quiet.site {r : Result} (h : Quiet s r) : siteOf r.1 = siteOf s := by
  rcases h with h | ⟨rd, t, ht, rfl⟩
  · exact h.site
  · exact ht

/-- The view with the port it will have. -/
def sitePorted (p : Port) (s : State) : Site := { siteOf s with port := p }

theorem request_ported {h : ReqHead} {r : Request} {body : State → Result} (hb : siteOf (body s).1 = siteOf s) :
    siteOf (request h r body s) = sitePorted (request h r body s).port s :=
  request_keeps (P := fun u => siteOf u = sitePorted u.port s) (s := s)
    (fun u p hu => by
      have h := congrArg (fun v : Site => { v with port := p }) hu
      exact h)
    rfl (by rw [hb]; exact congrArg (fun q => { siteOf s with port := q }) (congrArg Site.port hb).symm)

theorem exec_quiet (i : Instr) (hq : i.reqHead ≠ none) (hl : Loud i = false) (h : exec i s = .next t) :
    siteOf t = sitePorted t.port s := by
  cases i <;> first | (cases hl; done) | exact absurd rfl hq | cases h
  case haltIntake h => exact request_ported (intakeBody_quiet takeHalt_site s).site
  case resumeIntake h => exact request_ported (intakeBody_quiet takeResume_site s).site
  case close h => exact request_ported (closeBody_quiet s).site
  case reopen h => exact request_ported (reopenBody_quiet s).site
  case setNotices h mask mode => exact request_ported (setNoticesBody_quiet mask mode s).site
  case readDeck h position => exact request_ported (readDeckBody_quiet position s).site
  case restartLink h => exact request_ported (restartLinkBody_quiet s).site
  case readStatus | readNotice | readSummary | readLane | readHolds | readTransfer | readDirectory | readCounters =>
    exact request_ported rfl

/-! ## The events set apart -/

theorem shell_of_owing {o : List Nat} {k : List KeptNumber} (h : siteOf t = { siteOf s with owing := o, kept := k }) :
    shellOf t = shellOf s :=
  congrArg (fun v : Site => { v with holds := [], cargo := [], time := TimeBase.initial, owing := [], kept := [] }) h

theorem takeBeacon_shell (s : State) (m : BeaconMsg) : shellOf (takeBeacon m s) = shellOf s := by
  rcases takeBeacon_site s m with h | h
  · exact shell_of_site h
  · exact shell_of_owing h

theorem takeOffer_shell (s : State) (m : OfferMsg) : shellOf (takeOffer m s) = shellOf s := by
  rcases takeOffer_door s m with h | ⟨-, h⟩
  · exact shell_of_hall (hall_of_door h)
  · exact congrArg (fun v : Site => { v with time := TimeBase.initial, owing := [], kept := [] }) h

theorem takeFrame_shell {key : Nat} {b : Body} {f : State → State}
    (hf : shellOf (f (lineActive false s)) = shellOf (lineActive false s)) : shellOf (takeFrame key b f s) = shellOf s :=
  takeFrame_keeps (P := fun u => shellOf u = shellOf s) (fun _ _ h hu => (shell_of_site h).trans hu) rfl fun _ => hf

theorem live_hall_shell {f : State → State} (hf : hallOf (f s) = hallOf s) : shellOf (live f s) = shellOf s :=
  live_keeps (P := fun u => shellOf u = shellOf s) rfl (shell_of_hall hf)

/-- A refusal of a frame for its form, or because the port is busy (R154, R155). -/
def RefusedForForm (k : RefusalCode) : Prop := k = .badFrame ∨ k = .unknown ∨ k = .busy

/-- An event of the port changes the port alone, and a reply it begins refuses a frame for its form. -/
def PortAlone (s t : State) : Prop :=
  t = { s with port := t.port } ∧ (s.port.reply = none → ∀ r k d, t.port.reply = some r → r.answer = .refused k d →
    RefusedForForm k)

theorem portAlone_refl (s : State) : PortAlone s s := ⟨rfl, fun h r k d hr => by rw [h] at hr; cases hr⟩

theorem portAlone_live {f : State → State} (hf : PortAlone s (f s)) : PortAlone s (live f s) :=
  live_keeps (P := fun u => PortAlone s u) (portAlone_refl s) hf

theorem portAlone_recordBusy (n : Nat) : PortAlone s (recordBusy n s) :=
  ⟨rfl, fun h r k d hr => by rw [recordBusy, h] at hr; cases hr⟩

theorem portAlone_refuseFrame (n : Nat) {c : RefusalCode} (hc : RefusedForForm c) : PortAlone s (refuseFrame n c s) := by
  refine portAlone_live ?_
  split
  · exact portAlone_recordBusy n
  · refine ⟨rfl, fun _ r k d hr ha => ?_⟩
    simp only [sendReply, Option.some.injEq] at hr
    subst hr
    cases ha
    exact hc

theorem portAlone_replyDone : PortAlone s (replyDone s) := by
  unfold replyDone nextReply
  split
  · split
    · exact ⟨rfl, fun _ r k d hr => nomatch hr⟩
    · refine ⟨rfl, fun _ r k d hr ha => ?_⟩
      simp only [busyReply, Option.some.injEq] at hr
      subst hr
      cases ha
      exact .inr (.inr rfl)
  · exact portAlone_refl s

/-- The events of the port itself. -/
def OfPort : Instr → Bool
  | .busy _ | .badFrame _ | .unknown _ _ | .interByteTimeout _ | .replySent => true
  | _ => false

theorem exec_ofPort (i : Instr) (hp : OfPort i = true) (h : exec i s = .next t) : PortAlone s t := by
  cases i <;> first | (cases hp; done) | cases h
  case busy n =>
    refine portAlone_live ?_
    split
    · exact portAlone_recordBusy n
    · exact portAlone_refl s
  case badFrame n => exact portAlone_refuseFrame _ (.inl rfl)
  case interByteTimeout n => exact portAlone_refuseFrame _ (.inl rfl)
  case unknown n code => exact portAlone_refuseFrame _ (.inr (.inl rfl))
  case replySent => exact portAlone_live portAlone_replyDone

/-- What the events set apart leave: the port alone is touched, or nothing but the Time Base and the owing list. -/
theorem exec_apart (i : Instr) (ha : Apart i = true) (h : exec i s = .next t) :
    (∃ p b, i = .powerOn p b) ∨ i = .resetAsserted ∨ PortAlone s t ∨ shellOf t = shellOf s := by
  refine Decidable.byCases (p := OfPort i = true) (fun hp => .inr (.inr (.inl (exec_ofPort i hp h)))) fun hp => ?_
  cases i <;> first | (cases ha; done) | exact absurd rfl hp | cases h
  case beacon key m => exact .inr (.inr (.inr (takeFrame_shell (takeBeacon_shell _ m))))
  case offer key m => exact .inr (.inr (.inr (takeFrame_shell (takeOffer_shell _ m))))
  case done key m => exact .inr (.inr (.inr (takeFrame_shell (shell_of_owing (takeDone_site _ m)))))
  case hallClockPulse n => exact .inr (.inr (.inr (live_hall_shell ((pulseArrives_hall _).trans (passTime_hall s n)))))
  case pulseSilence => exact .inr (.inr (.inr (live_hall_shell (silencePassed_hall s))))
  case secondBoundary => exact .inr (.inr (.inr (live_hall_shell (oscillatorBoundary_hall s))))
  case powerOn p b => exact .inl ⟨p, b, rfl⟩
  case resetAsserted => exact .inr (.inl rfl)

end Sys2Proof.Machine
end

section
/-! PROOF. The deck unmixed, within C, ranked and in load order (O4): the deck changes by a push, by a pop, by the
exchange of INBOUND entries before a pop, or is emptied. -/

namespace Sys2Proof.Machine

variable {s t : State}

/-! ## The laws of the deck, of a list of entries -/

/-- The laws of the deck (R1, R16, R17) of a list of entries on a deck of a capacity. -/
def DeckOk (capacity : Nat) (es : List DeckEntry) : Prop :=
  ((∀ e ∈ es, e.tag = .inbound) ∨ (∀ e ∈ es, e.tag = .outbound)) ∧ es.length ≤ capacity
    ∧ (∀ e ∈ es, e.tag = .outbound → e.rank.isSome = true)
    ∧ es.Pairwise (fun a b => a.tag = .outbound → b.tag = .outbound → b.rank.getD 0 ≤ a.rank.getD 0)

/-- The capacity of a docking record, 0 while VACANT. -/
def capacityOf (d : Option Docking) : Nat := (d.map (·.capacity)).getD 0

theorem deckOk_unowed (n : Nat) (es : List DeckEntry) : DeckOk n (es.map DeckEntry.unowed) ↔ DeckOk n es := by
  simp only [DeckOk, List.forall_mem_map, List.length_map, List.pairwise_map]
  rfl

theorem deckLaw_iff : DeckLaw s ↔ DeckOk (capacityOf (siteOf s).docking) (siteOf s).deck :=
  (deckOk_unowed (capacityOf s.docking) s.deck.entries).symm

theorem deckLaw_of_eq (hd : (siteOf t).deck = (siteOf s).deck) (hc : (siteOf t).docking = (siteOf s).docking) :
    DeckLaw s → DeckLaw t := by
  rw [deckLaw_iff, deckLaw_iff, hd, hc]
  exact id

theorem deckLaw_of_shell (h : shellOf t = shellOf s) : DeckLaw s → DeckLaw t :=
  deckLaw_of_eq (congrArg Site.deck h :) (congrArg Site.docking h :)

theorem deckLaw_of_door (h : doorOf t = doorOf s) : DeckLaw s → DeckLaw t := deckLaw_of_shell (shell_of_hall (hall_of_door h))

theorem deckLaw_of_site (h : siteOf t = siteOf s) : DeckLaw s → DeckLaw t := deckLaw_of_shell (shell_of_site h)

theorem deckOk_nil (n : Nat) : DeckOk n [] := ⟨.inl nofun, Nat.zero_le _, nofun, .nil⟩

/-- INBOUND entries need only fit. -/
theorem deckOk_of_inbound {n : Nat} {es : List DeckEntry} (hl : es.length ≤ n) (h : ∀ e ∈ es, e.tag = .inbound) :
    DeckOk n es := by
  refine ⟨.inl h, hl, fun e he ho => ?_, List.pairwise_iff_forall_sublist.2 fun {a b} hs ha => ?_⟩
  · rw [h e he] at ho; cases ho
  · rw [h a (hs.subset List.mem_cons_self)] at ha; cases ha

theorem DeckOk.sublist {n : Nat} {es fs : List DeckEntry} (h : DeckOk n es) (hs : fs.Sublist es) : DeckOk n fs := by
  obtain ⟨hu, hl, hr, hp⟩ := h
  exact ⟨hu.imp (fun h e he => h e (hs.subset he)) (fun h e he => h e (hs.subset he)), hs.length_le.trans hl,
    fun e he => hr e (hs.subset he), hp.sublist hs⟩

/-- A rank that the sequence compare does not put behind is at most the rank of every OUTBOUND entry (R12, R17). -/
theorem rank_le_of_compare {es : List DeckEntry} {f : Option FaultDir} {r : Nat}
    (hc : compareRank ⟨es, f⟩ r ≠ .behind) (ho : ∀ e ∈ es, e.tag = .outbound)
    (hr : ∀ e ∈ es, e.tag = .outbound → e.rank.isSome = true)
    (hp : es.Pairwise (fun a b => a.tag = .outbound → b.tag = .outbound → b.rank.getD 0 ≤ a.rank.getD 0)) :
    ∀ e ∈ es, r ≤ e.rank.getD 0 := by
  intro e he
  rcases List.eq_nil_or_concat es with rfl | ⟨init, last, rfl⟩
  · cases he
  rw [List.concat_eq_append] at *
  have hlast : last ∈ init ++ [last] := by simp
  have htag := ho last hlast
  obtain ⟨q, hq⟩ := Option.isSome_iff_exists.1 (hr last hlast htag)
  have hrq : r ≤ q := by
    simp only [compareRank, rearRank, List.getLast?_concat, htag, if_true, hq] at hc
    by_contra hlt
    rw [if_neg (by omega), if_neg (by omega)] at hc
    exact hc rfl
  rcases List.mem_append.1 he with hi | hl
  · have hle := (List.pairwise_append.1 hp).2.2 e hi last (by simp) (ho e he) htag
    rw [hq] at hle
    exact hrq.trans hle
  · obtain rfl := List.mem_singleton.1 hl
    rwa [hq]

/-- A push that the sequence compare admits keeps the deck in load order (R6, R12, R17). -/
theorem deckOk_load {n : Nat} {es : List DeckEntry} {f : Option FaultDir} {e : DeckEntry} {r : Nat} (h : DeckOk n es)
    (he : e.tag = .outbound) (hrank : e.rank = some r) (ho : ∀ x ∈ es, x.tag = .outbound)
    (hc : compareRank ⟨es, f⟩ r ≠ .behind) (hl : es.length < n) : DeckOk n (es ++ [e]) := by
  obtain ⟨-, -, hr, hp⟩ := h
  have hle := rank_le_of_compare hc ho hr hp
  refine ⟨.inr ?_, by simpa using hl, ?_, List.pairwise_append.2 ⟨hp, by simp, ?_⟩⟩
  · simpa [or_imp, forall_and, he] using ho
  · intro x hx hxo
    rcases List.mem_append.1 hx with hx | hx
    · exact hr x hx hxo
    · rw [List.mem_singleton.1 hx, hrank]; rfl
  · intro a ha b hb _ _
    rw [List.mem_singleton.1 hb, hrank]
    exact hle a ha

/-! ## The requests that change the deck or the docking record -/

theorem dockBody_deck (p : DockParams) (hs : DeckLaw s) : DeckLaw (dockBody p s).1 := by
  rcases dockBody_cases p s with h | ⟨d, rd, hn, -, h⟩
  · exact deckLaw_of_site h.site hs
  obtain ⟨w, hw⟩ := takeDock_site s d
  obtain ⟨-, hb, -⟩ := deckLaw_iff.1 hs
  have he : (siteOf s).deck = [] := by
    simpa [siteOf, capacityOf, hn] using hb
  rw [h, deckLaw_iff]
  simp only [accept, hw, he]
  exact deckOk_nil _

theorem declareBody_deck (label depot mass : Nat) (hs : DeckLaw s) : DeckLaw (declareBody label depot mass s).1 := by
  rcases declareBody_cases label depot mass s with h | ⟨d, rd, hd, -, ht, hl, h⟩
  · exact deckLaw_of_site h.site hs
  rw [h]
  refine deckOk_of_inbound (n := capacityOf s.docking) ?_ ?_
  · simpa [accept, pushed, capacityOf, hd] using hl
  · simpa [accept, pushed, or_imp, forall_and, declaredEntry] using ht

theorem countTip_deck (p : Tipped) (hs : DeckLaw s) : DeckLaw (countTip p s) := by
  rcases countTip_site s p with h | ⟨_, h⟩ <;>
    exact deckLaw_of_eq (congrArg Site.deck h :) (congrArg Site.docking h :) hs

/-- A pallet taken off leaves the deck as it was, or INBOUND entries alone (R8, R10, R16). -/
theorem takeOff_deck {p : Tipped} (hp : Tippable p s) (hs : DeckLaw s) : DeckLaw (takeOff p s) := by
  rw [deckLaw_iff, takeOff_site, deckOk_unowed]
  have hs := (deckOk_unowed _ _).1 (deckLaw_iff.1 hs)
  rcases hp with ⟨k, e, rfl, hx, htag⟩ | ⟨hdep, -⟩
  · obtain ⟨-, hlt, he⟩ := examineLabel_some hx
    have hperm := exchangeRear_perm hlt he
    have hsub : ∀ x ∈ (exchangeRear k s.deck.entries).dropLast, x ∈ s.deck.entries := fun x hx =>
      hperm.mem_iff.1 (List.mem_cons_of_mem _ hx)
    obtain ⟨hu, hl, -⟩ := hs
    refine deckOk_of_inbound ?_ fun x hx => ?_
    · have := hperm.length_eq
      rw [List.length_cons] at this
      simp only [deckAfterTip]
      exact le_trans (by omega) hl
    · rcases hu with hu | hu
      · exact hu x (hsub x hx)
      · rw [hu e (hperm.mem_iff.1 List.mem_cons_self)] at htag; cases htag
  · simpa [deckAfterTip, hdep] using hs

theorem tipOffBody_deck (label : Nat) (depot mass : Option Nat) (hs : DeckLaw s) :
    DeckLaw (tipOffBody label depot mass s).1 := by
  rcases tipOffBody_cases label depot mass s with h | ⟨p, hp, -, h⟩
  · exact deckLaw_of_site h.site hs
  rw [h]
  have ht := takeOff_deck hp hs
  rcases tipPallet_cases (tip := true) p s with h | ⟨rd, ⟨r, h⟩ | h⟩
  · exact deckLaw_of_site h.site hs
  · rw [h]
    have hr := routeToLane_site (takeOff p s) p r
    exact countTip_deck p (deckLaw_of_eq (congrArg Site.deck hr :) (congrArg Site.docking hr :) ht)
  · rw [h]
    have hr := routeToTable_site (takeOff p s) p
    exact countTip_deck p (deckLaw_of_eq (congrArg Site.deck hr :) (congrArg Site.docking hr :) ht)

theorem loadBody_deck (label : Nat) (hs : DeckLaw s) : DeckLaw (loadBody label s).1 := by
  rcases loadBody_cases label s with h | ⟨e, rd, -, hc, ho, hl, h⟩
  · exact deckLaw_of_site h.site hs
  rw [h, deckLaw_iff]
  simp only [accept, takeLoad_site, deckOk_unowed]
  exact deckOk_load (f := s.deck.fault) hs rfl rfl ho hc hl

theorem unloadBody_deck (hs : DeckLaw s) : DeckLaw (unloadBody s).1 := by
  rcases unloadBody_cases s with h | ⟨e, rd, -, -, h⟩
  · exact deckLaw_of_site h.site hs
  rw [h, deckLaw_iff]
  simp only [accept, takeUnload_site, deckOk_unowed]
  exact DeckOk.sublist hs (List.dropLast_sublist _)

theorem arriveBody_deck (label depot mass : Nat) (origin : Option Nat) (hs : DeckLaw s) :
    DeckLaw (arriveBody label depot mass origin s).1 := by
  rcases arriveBody_cases label depot mass origin s with h | ⟨rank, -, -, -, ⟨h, -, -, e⟩ | ⟨-, e⟩⟩
  · exact deckLaw_of_site h.site hs
  · obtain ⟨rd, t, ha, hv⟩ := arriveHeld_eq s h depot rank (clampMass mass)
    rw [e, ha]
    exact deckLaw_of_door (holdGone_door t) (deckLaw_of_eq (congrArg Site.deck hv :) (congrArg Site.docking hv :) hs)
  · rw [e]
    rcases arriveUnannounced_cases label depot rank (clampMass mass) origin s with h | ⟨rd, t, hv, h⟩
    · exact deckLaw_of_site h.site hs
    · rw [h]
      exact deckLaw_of_eq (congrArg Site.deck hv :) (congrArg Site.docking hv :) hs

theorem departBody_deck (abandon : Bool) (hs : DeckLaw s) : DeckLaw (departBody abandon s).1 := by
  rcases departBody_cases abandon s with h | ⟨rd, -, h⟩
  · exact deckLaw_of_site h.site hs
  rw [h, deckLaw_iff]
  simp only [accept, takeDepart_site]
  exact deckOk_nil _

theorem withdrawBody_door (label : Nat) (s : State) : doorOf (withdrawBody label s).1 = doorOf s := by
  rcases withdrawBody_cases label s with h | ⟨rd, t, ht, h⟩
  · exact door_of_site h.site
  · rw [h]; exact (removeEntry_door t label).trans (door_of_site ht)

/-- A record bound anew with the capacity it had. -/
theorem setDocking_deck {d d' : Docking} (hd : s.docking = some d) (hc : d'.capacity = d.capacity) (hs : DeckLaw s) :
    DeckLaw { s with docking := some d' } := by
  have h : DeckOk (capacityOf s.docking) s.deck.entries := hs
  simp only [capacityOf, hd, Option.map_some, Option.getD_some, ← hc] at h
  exact h

theorem setCutoffBody_deck (cutoff : Nat) (hs : DeckLaw s) : DeckLaw (setCutoffBody cutoff s).1 := by
  rcases setCutoffBody_cases cutoff s with h | ⟨d, rd, hd, -, h⟩
  · exact deckLaw_of_site h.site hs
  · rw [h]
    exact deckLaw_of_shell (shell_of_hall (recomputeM_hall _)) (setDocking_deck (d' := { d with cutoff := cutoff }) hd rfl hs)

theorem setExpectedBody_deck (expected : Nat) (hs : DeckLaw s) : DeckLaw (setExpectedBody expected s).1 := by
  rcases setExpectedBody_cases expected s with h | ⟨d, rd, hd, h⟩
  · exact deckLaw_of_site h.site hs
  · rw [h]
    exact deckLaw_of_site ((settle_site _).trans (recomputeUrgency_site _))
      (setDocking_deck (d' := { d with expected := min d.capacity expected }) hd rfl hs)

theorem setClockBody_hall (minute : Option Nat) (s : State) : hallOf (setClockBody minute s).1 = hallOf s := by
  rcases setClockBody_cases minute s with h | ⟨k, rd, -, h⟩
  · exact hall_of_site h.site
  · rw [h]; exact (recomputeM_hall _).trans (setTime_hall s _)

theorem tipStartBody_deck (mode : TipModeArg) (hs : DeckLaw s) : DeckLaw (tipStartBody mode s).1 := by
  rcases tipStartBody_cases mode s with h | ⟨rd, -, h | ⟨n, -, h⟩⟩
  · exact deckLaw_of_site h.site hs
  · rw [h]; exact hs
  · rw [h]; exact hs

theorem tipEndBody_deck (hs : DeckLaw s) : DeckLaw (tipEndBody s).1 := by
  rcases tipEndBody_cases s with h | ⟨rd, h⟩
  · exact deckLaw_of_site h.site hs
  · have ht := terminateRun_site s .ended false
    rw [h]
    exact deckLaw_of_eq (congrArg Site.deck ht :) (congrArg Site.docking ht :) hs

/-! ## Every command -/

theorem request_deck {h : ReqHead} {r : Request} {body : State → Result} (hs : DeckLaw s)
    (hb : DeckLaw (body s).1) : DeckLaw (request h r body s) :=
  request_keeps (P := fun s => DeckLaw s) (fun _ _ h => h) hs hb

theorem exec_loud_deck (i : Instr) (hl : Loud i = true) (hs : DeckLaw s) (h : exec i s = .next t) : DeckLaw t := by
  cases i <;> first | (cases hl; done) | cases h
  case dock h p => exact request_deck hs (dockBody_deck p hs)
  case declare h label depot mass => exact request_deck hs (declareBody_deck label depot mass hs)
  case tipStart h mode => exact request_deck hs (tipStartBody_deck mode hs)
  case tipOff h label depot mass => exact request_deck hs (tipOffBody_deck label depot mass hs)
  case tipEnd h => exact request_deck hs (tipEndBody_deck hs)
  case load h label => exact request_deck hs (loadBody_deck label hs)
  case unloadBack h => exact request_deck hs (unloadBody_deck hs)
  case arrive h label depot mass origin => exact request_deck hs (arriveBody_deck label depot mass origin hs)
  case depart h abandon => exact request_deck hs (departBody_deck abandon hs)
  case withdraw h label => exact request_deck hs (deckLaw_of_door (withdrawBody_door label s) hs)
  case setCutoff h cutoff => exact request_deck hs (setCutoffBody_deck cutoff hs)
  case setExpected h expected => exact request_deck hs (setExpectedBody_deck expected hs)
  case setClock h minute => exact request_deck hs (deckLaw_of_shell (shell_of_hall (setClockBody_hall minute s)) hs)
  case clearBay h => exact request_deck hs (deckOk_nil _)

theorem exec_deck (i : Instr) (hs : DeckLaw s) (h : exec i s = .next t) : DeckLaw t := by
  by_cases hq : i.reqHead = none
  · cases ha : Apart i
    · exact deckLaw_of_door (exec_door i hq ha h) hs
    · rcases exec_apart i ha h with ⟨p, b, rfl⟩ | rfl | ⟨ht, -⟩ | ht
      · cases h; exact deckOk_nil _
      · cases h; exact hs
      · rw [ht]; exact hs
      · exact deckLaw_of_shell ht hs
  · cases hl : Loud i
    · have ht := exec_quiet i hq hl h
      exact deckLaw_of_eq (congrArg Site.deck ht :) (congrArg Site.docking ht :) hs
    · exact exec_loud_deck i hl hs h

/-- Settles O4: every push is of the deck's own tag and within C, a LOAD's by the sequence compare, and every other
change takes entries away. -/
theorem everyStepKeepsTheDeckInOrder : Obligations.EveryStepKeepsTheDeckInOrder := by
  unfold Obligations.EveryStepKeepsTheDeckInOrder
  intro s t hs h
  exact step_keeps (P := fun s => DeckLaw s) (fun _ _ h => h) (fun i _ _ hs h => exec_deck i hs h) hs h

end Sys2Proof.Machine
end

section
/-! PROOF. Refusals (O16): no request has an effect before its tests have passed, but for the deck faults of R14. -/

namespace Sys2Proof.Machine

variable {s t : State} {tip : Bool}

/-- What a refusal leaves (R14): the port, and the deck fault with its notice where the refusal records one. -/
def RefusalLeaves (tip : Bool) (s t : State) (k : RefusalCode) : Prop :=
  t = { s with port := t.port, deck := { s.deck with fault := t.deck.fault }, notes := t.notes }
    ∧ (if k = .deckFull then
        t.deck.fault = some .overflow ∧ t.notes = (raise .deckFault 1 s.deck.entries.length s).notes
      else if k = .deckEmpty ∨ (k = .noRun ∧ tip = true ∧ s.deck.entries = []) then
        t.deck.fault = some .underflow ∧ t.notes = (raise .deckFault 2 s.deck.entries.length s).notes
      else t.deck = s.deck ∧ t.notes = s.notes)

/-- A state that differs in the port alone, after a refusal that records no fault. -/
theorem refusalLeaves_port {k : RefusalCode} (h1 : k ≠ .deckFull) (h2 : ¬ Underflows tip s k)
    (h : t = { s with port := t.port }) : RefusalLeaves tip s t k := by
  have hd : t.deck = s.deck := (congrArg State.deck h :)
  have hn : t.notes = s.notes := (congrArg State.notes h :)
  refine ⟨by rw [hd, hn]; exact h, ?_⟩
  rw [if_neg h1, if_neg h2]
  exact ⟨hd, hn⟩

/-- A refused body, with its reply begun, leaves what R14 says. -/
theorem refusalLeaves_of_refused {r : Result} {n : Nat} {a : Answer} {k : RefusalCode} (h : RefusedIn tip s r)
    (hk : r.2 = .error k) : RefusalLeaves tip s (sendReply n a r.1) k := by
  obtain ⟨k', hk', h⟩ := h
  obtain rfl : k' = k := by simpa [hk'] using hk
  rcases h with ⟨rfl, h⟩ | ⟨hu, h⟩ | ⟨h1, h2, h⟩
  · rw [h]
    exact ⟨rfl, rfl, rfl⟩
  · rw [h]
    refine ⟨rfl, ?_⟩
    have hne : k' ≠ .deckFull := by rintro rfl; rcases hu with h | ⟨h, -⟩ <;> cases h
    rw [if_neg hne, if_pos hu]
    exact ⟨rfl, rfl⟩
  · rw [h]
    exact refusalLeaves_port h1 h2 rfl

/-- A request whose body refuses as R14 says, or accepts. -/
theorem request_refusal {h : ReqHead} {r : Request} {body : State → Result} {rep : Reply} {k : RefusalCode}
    {d : ReplyData} (hb : RefusedIn tip s (body s) ∨ ∃ rd u, body s = accept rd u) (hs : s.port.reply = none)
    (hr : (request h r body s).port.reply = some rep) (ha : rep.answer = .refused k d) :
    RefusalLeaves tip s (request h r body s) k := by
  rcases request_cases h r body s with ⟨-, e⟩ | ⟨-, -, e⟩ | ⟨-, -, -, e⟩ | ⟨-, e⟩ <;> rw [e] at hr ⊢
  · rw [hs] at hr; cases hr
  · rw [recordBusy, hs] at hr; cases hr
  · simp only [sendReply, Option.some.injEq] at hr
    subst hr
    cases ha
    exact refusalLeaves_port nofun (fun h => h.elim nofun fun h => nomatch h.1) rfl
  · simp only [sendReply, Option.some.injEq] at hr
    subst hr
    rcases hb with hb | ⟨rd, u, hb⟩
    · have ⟨k', hk', _⟩ := hb
      simp only [answerOf, hk', Answer.refused.injEq] at ha
      exact refusalLeaves_of_refused hb (hk'.trans (congrArg _ ha.1))
    · rw [hb] at ha; cases ha

theorem Quiet.outcome {r : Result} (h : Quiet s r) : RefusedIn false s r ∨ ∃ rd u, r = accept rd u :=
  h.imp_right fun ⟨rd, u, _, h⟩ => ⟨rd, u, h⟩

theorem tipOffBody_outcome (label : Nat) (depot mass : Option Nat) (s : State) :
    RefusedIn true s (tipOffBody label depot mass s) ∨ ∃ rd u, tipOffBody label depot mass s = accept rd u := by
  rcases tipOffBody_cases label depot mass s with h | ⟨p, -, -, h⟩
  · exact .inl h
  rw [h]
  rcases tipPallet_cases (tip := true) p s with h | ⟨rd, ⟨r, h⟩ | h⟩
  · exact .inl h
  · exact .inr ⟨_, _, h⟩
  · exact .inr ⟨_, _, h⟩

theorem tipStartBody_outcome (mode : TipModeArg) (s : State) :
    RefusedIn false s (tipStartBody mode s) ∨ ∃ rd u, tipStartBody mode s = accept rd u := by
  rcases tipStartBody_cases mode s with h | ⟨rd, -, h | ⟨n, -, h⟩⟩
  · exact .inl h
  · exact .inr ⟨_, _, h⟩
  · exact .inr ⟨_, _, h⟩

theorem arriveBody_outcome (label depot mass : Nat) (origin : Option Nat) (s : State) :
    RefusedIn false s (arriveBody label depot mass origin s)
      ∨ ∃ rd u, arriveBody label depot mass origin s = accept rd u := by
  rcases arriveBody_cases label depot mass origin s with h | ⟨rank, -, -, -, ⟨h, -, -, e⟩ | ⟨-, e⟩⟩
  · exact .inl h
  · obtain ⟨rd, t, ha, -⟩ := arriveHeld_eq s h depot rank (clampMass mass)
    exact .inr ⟨_, _, e.trans ha⟩
  · rw [e]
    exact (arriveUnannounced_cases label depot rank (clampMass mass) origin s).imp_right
      fun ⟨rd, t, _, h⟩ => ⟨rd, t, h⟩

/-- A refusal of a request leaves what R14 says. -/
theorem exec_request_refusal {c : Instr} {r : Reply} {k : RefusalCode} {d : ReplyData} (hq : c.reqHead ≠ none)
    (hs : s.port.reply = none) (h : exec c s = .next t) (hr : t.port.reply = some r) (ha : r.answer = .refused k d) :
    RefusalLeaves c.isTipOff s t k := by
  cases c <;> first | exact absurd rfl hq | cases h
  case dock h p =>
    exact request_refusal ((dockBody_cases p s).imp_right fun ⟨_, _, _, _, h⟩ => ⟨_, _, h⟩) hs hr ha
  case declare h label depot mass =>
    exact request_refusal
      ((declareBody_cases label depot mass s).imp_right fun ⟨_, _, _, _, _, _, h⟩ => ⟨_, _, h⟩) hs hr ha
  case tipStart h mode => exact request_refusal (tipStartBody_outcome mode s) hs hr ha
  case tipOff h label depot mass => exact request_refusal (tipOffBody_outcome label depot mass s) hs hr ha
  case tipEnd h => exact request_refusal ((tipEndBody_cases s).imp_right fun ⟨_, h⟩ => ⟨_, _, h⟩) hs hr ha
  case load h label =>
    exact request_refusal ((loadBody_cases label s).imp_right fun ⟨_, _, _, _, _, _, h⟩ => ⟨_, _, h⟩) hs hr ha
  case unloadBack h =>
    exact request_refusal ((unloadBody_cases s).imp_right fun ⟨_, _, _, _, h⟩ => ⟨_, _, h⟩) hs hr ha
  case arrive h label depot mass origin => exact request_refusal (arriveBody_outcome label depot mass origin s) hs hr ha
  case depart h abandon =>
    exact request_refusal ((departBody_cases abandon s).imp_right fun ⟨_, _, h⟩ => ⟨_, _, h⟩) hs hr ha
  case withdraw h label =>
    exact request_refusal ((withdrawBody_cases label s).imp_right fun ⟨_, _, _, h⟩ => ⟨_, _, h⟩) hs hr ha
  case haltIntake h => exact request_refusal (intakeBody_quiet takeHalt_site s).outcome hs hr ha
  case resumeIntake h => exact request_refusal (intakeBody_quiet takeResume_site s).outcome hs hr ha
  case close h => exact request_refusal (closeBody_quiet s).outcome hs hr ha
  case reopen h => exact request_refusal (reopenBody_quiet s).outcome hs hr ha
  case setCutoff h cutoff =>
    exact request_refusal ((setCutoffBody_cases cutoff s).imp_right fun ⟨_, _, _, _, h⟩ => ⟨_, _, h⟩) hs hr ha
  case setExpected h expected =>
    exact request_refusal ((setExpectedBody_cases expected s).imp_right fun ⟨_, _, _, h⟩ => ⟨_, _, h⟩) hs hr ha
  case setClock h minute =>
    exact request_refusal ((setClockBody_cases minute s).imp_right fun ⟨_, _, _, h⟩ => ⟨_, _, h⟩) hs hr ha
  case setNotices h mask mode => exact request_refusal (setNoticesBody_quiet mask mode s).outcome hs hr ha
  case readDeck h position => exact request_refusal (readDeckBody_quiet position s).outcome hs hr ha
  case clearBay h => exact request_refusal (.inr ⟨_, _, rfl⟩) hs hr ha
  case restartLink h => exact request_refusal (restartLinkBody_quiet s).outcome hs hr ha
  case readStatus | readNotice | readSummary | readLane | readHolds | readTransfer | readDirectory | readCounters =>
    exact request_refusal (.inr ⟨_, _, rfl⟩) hs hr ha

/-- An event that is no request begins a refusal only as the port's own (R155), and changes the port alone then. -/
theorem exec_event_refusal {c : Instr} {r : Reply} {k : RefusalCode} {d : ReplyData} (hq : c.reqHead = none)
    (hs : s.port.reply = none) (h : exec c s = .next t) (hr : t.port.reply = some r) (ha : r.answer = .refused k d) :
    RefusalLeaves tip s t k := by
  have noReply : shellOf t = shellOf s → False := by
    intro ht
    have hp : t.port = s.port := (congrArg Site.port ht :)
    rw [hp, hs] at hr
    cases hr
  cases hap : Apart c
  · exact (noReply (shell_of_hall (hall_of_door (exec_door c hq hap h)))).elim
  · rcases exec_apart c hap h with ⟨p, b, rfl⟩ | rfl | ⟨ht, hform⟩ | ht
    · cases h; cases hr
    · cases h; cases hr
    · rcases hform hs r k d hr ha with rfl | rfl | rfl <;>
        exact refusalLeaves_port nofun (fun h => h.elim nofun fun h => nomatch h.1) ht
    · exact (noReply ht).elim

/-- A TIP OFF with no run on an empty deck (R8, R28). -/
theorem tipOffBody_underflow (label : Nat) (depot mass : Option Nat) (hrun : s.run.mode = none)
    (he : s.deck.entries = []) : tipOffBody label depot mass s = refuse .noRun (recordFault .underflow s) := by
  simp [tipOffBody, hrun, he]

/-- Settles O16: each request's tests come before its effect, so a refusal leaves the port changed and, where R14 asks
for it, the deck fault with its notice. -/
theorem refusedRequestsChangeNothing : Obligations.RefusedRequestsChangeNothing := by
  unfold Obligations.RefusedRequestsChangeNothing
  refine ⟨fun c s t r k d hs h hr ha => ?_, fun h label depot mass s hs hrun he => ?_⟩
  · by_cases hq : c.reqHead = none
    · exact exec_event_refusal (tip := c.isTipOff) hq hs h hr ha
    · exact exec_request_refusal hq hs h hr ha
  · refine ⟨_, congrArg Host.Outcome.next (request_taken .tipOff (tipOffBody label depot mass) hs), ?_⟩
    rw [tipOffBody_underflow label depot mass hrun he]
    refine ⟨rfl, ?_, rfl⟩
    show (raise .deckFault 2 s.deck.entries.length s).notes = _
    rw [he]
    rfl

end Sys2Proof.Machine
end

section
/-! PROOF. The ranges of the Time Base, the docking record, the run and the owing list (O13). The Time Base is carried
through the clock's events; the rest is read off the view. -/

namespace Sys2Proof.Machine

variable {s t : State}

/-! ## The laws on the view -/

/-- The Time Base in its ranges, and M held at 0 while VACANT (R44, R54). -/
abbrev ClockLaw (s : State) : Prop := TimeLaw s ∧ VacantMinutes s

/-- The docking record, the deck's limit, the run and the owing list in their ranges (R16, R19, R24, R119). -/
abbrev RecordLaw (s : State) : Prop := DockingLaw s ∧ DeckBounded s ∧ RunLaw s ∧ OwingLaw s

/-- A state with a view, and reset values outside it. -/
def Site.state (v : Site) : State :=
  { State.reset with
    straps := v.straps, docking := v.docking, deck := { entries := v.deck, fault := none }, run := v.run, time := v.time
    store := { holds := v.holds, owing := v.owing, kept := v.kept } }

theorem recordLaw_iff : RecordLaw s ↔ RecordLaw (hallOf s).state := by
  have h : DeckBounded s ↔ DeckBounded (hallOf s).state := by
    simp only [DeckBounded, Site.state, hallOf, doorOf, siteOf, List.length_map]
  exact and_congr Iff.rfl (and_congr h Iff.rfl)

theorem recordLaw_of_hall (h : hallOf t = hallOf s) : RecordLaw s → RecordLaw t := by
  rw [recordLaw_iff, recordLaw_iff (s := t), h]
  exact id

theorem clockLaw_iff : ClockLaw s ↔ ClockLaw (doorOf s).state := Iff.rfl

theorem clockLaw_of_door (h : doorOf t = doorOf s) : ClockLaw s → ClockLaw t := by
  rw [clockLaw_iff, clockLaw_iff (s := t), h]
  exact id

/-- The laws of O13 together. -/
abbrev RangeLaw (s : State) : Prop := ClockLaw s ∧ RecordLaw s

theorem rangeLaw_iff : RangeLaw s ↔ RangeLaw (doorOf s).state := and_congr clockLaw_iff recordLaw_iff

theorem rangeLaw_of_door (h : doorOf t = doorOf s) : RangeLaw s → RangeLaw t := by
  rw [rangeLaw_iff, rangeLaw_iff (s := t), h]
  exact id

theorem rangeLaw_of_site (h : siteOf t = siteOf s) : RangeLaw s → RangeLaw t := rangeLaw_of_door (door_of_site h)

/-! ## M -/

theorem rawMinutes_le (a b : Nat) : rawMinutes a b ≤ 720 := by
  unfold rawMinutes
  dsimp only
  split <;> omega

theorem effectiveMinutes_le (b : TimeBase) (k : Nat) : effectiveMinutes b k ≤ 720 :=
  (Nat.sub_le _ _).trans (rawMinutes_le _ _)

theorem cutoffTests_time (a b : Nat) (s : State) : ∃ w, (cutoffTests a b s).time = { s.time with warned := w } := by
  have step : ∀ t : State, (if t.time.m = 0 ∧ 0 < a then cutoffReached t else t).time = t.time := by
    intro t
    split
    · exact cutoffReached_time t
    · rfl
  unfold cutoffTests
  dsimp only
  rw [step]
  split
  · exact ⟨true, rfl⟩
  · exact ⟨s.time.warned, rfl⟩

/-- A recomputation of M while DOCKED changes M and the warning mark alone of the Time Base (R54, R55). -/
theorem recomputeM_time {d : Docking} (h : s.docking = some d) :
    ∃ w, (recomputeM s).time = { s.time with m := effectiveMinutes s.time d.cutoff, warned := w } := by
  simp only [recomputeM, h]
  obtain ⟨w, hw⟩ := cutoffTests_time s.time.m d.cutoff
    (recomputeUrgency (setTime { s.time with m := effectiveMinutes s.time d.cutoff } s))
  exact ⟨w, by rw [hw, recomputeUrgency_time]; rfl⟩

theorem recomputeM_vacant (h : s.docking = none) : recomputeM s = s := by simp only [recomputeM, h]

/-! ## The clock's events -/

theorem recomputeM_clock (hs : ClockLaw s) : ClockLaw (recomputeM s) := by
  cases hd : s.docking with
  | none => rwa [recomputeM_vacant hd]
  | some d =>
    obtain ⟨w, hw⟩ := recomputeM_time hd
    obtain ⟨⟨h1, h2, h3, h4, h5, -, h7, h8⟩, -⟩ := hs
    refine ⟨?_, fun hv => ?_⟩
    · simp only [TimeLaw, hw]
      exact ⟨h1, h2, h3, h4, h5, effectiveMinutes_le _ _, h7, h8⟩
    · rw [recomputeM_docking, hd] at hv; cases hv

theorem minuteTime_clock (hs : ClockLaw s) : ClockLaw (setTime (minuteTime s.time) s) := by
  obtain ⟨⟨h1, h2, h3, h4, h5, h6, h7, h8⟩, hv⟩ := hs
  refine ⟨⟨h1, h2, h3, ?_, ?_, h6, fun hc => ?_, h8⟩, hv⟩
  · show (if s.time.clockSet then _ else _) ≤ _
    split <;> omega
  · show (if s.time.source = .reference then _ else _) ≤ _
    split <;> omega
  · have hc : s.time.clockSet = false := hc
    simp [minuteTime, hc]

theorem minuteBoundary_clock (hs : ClockLaw s) : ClockLaw (minuteBoundary s) := by
  rw [minuteBoundary_eq]
  exact clockLaw_of_door (door_of_site ((countMinutes_site _).trans (recomputeUrgency_site _)))
    (recomputeM_clock (minuteTime_clock hs))

theorem secondTick_clock (hs : ClockLaw s) : ClockLaw (secondTick s) := by
  have ht : ClockLaw (countSeconds (expireDue s)) :=
    clockLaw_of_door ((door_of_site (countSeconds_site _)).trans (expireDue_door s)) hs
  unfold secondTick
  dsimp only
  generalize countSeconds (expireDue s) = u at ht
  obtain ⟨⟨h1, h2, h3, h4, h5, h6, h7, h8⟩, hv⟩ := ht
  split
  · exact minuteBoundary_clock ⟨⟨h1, h2, Nat.zero_le _, h4, h5, h6, h7, h8⟩, hv⟩
  · exact ⟨⟨h1, h2, show u.time.seconds + 1 ≤ 59 by omega, h4, h5, h6, h7, h8⟩, hv⟩

theorem makeBoundary_clock (b : Bool) (hs : ClockLaw s) : ClockLaw (makeBoundary b s) := by
  unfold makeBoundary
  refine secondTick_clock ?_
  exact hs

theorem alignSecond_clock (hs : ClockLaw s) : ClockLaw (alignSecond s) := by
  unfold alignSecond
  split
  · exact hs
  · exact makeBoundary_clock _ hs

theorem enterFallback_clock (c : FallbackCause) (hs : ClockLaw s) : ClockLaw (enterFallback c s) := by
  obtain ⟨⟨-, -, h3, h4, -, h6, h7, -⟩, hv⟩ := hs
  refine recomputeM_clock ?_
  exact ⟨⟨Nat.zero_le _, Nat.zero_le _, h3, h4, Nat.zero_le _, h6, h7, nofun⟩, hv⟩

theorem enterReference_clock (hs : ClockLaw s) : ClockLaw (enterReference s) := by
  obtain ⟨⟨-, -, h3, h4, h5, h6, h7, -⟩, hv⟩ := hs
  have ha : ClockLaw (alignSecond (setTime
      { s.time with source := .reference, goodRun := Config.goodPulses, badRun := 0 } s)) :=
    alignSecond_clock ⟨⟨le_rfl, Nat.zero_le _, h3, h4, h5, h6, h7, fun _ => rfl⟩, hv⟩
  unfold enterReference
  dsimp only
  generalize alignSecond _ = u at ha
  obtain ⟨⟨h1, h2, h3, h4, -, h6, h7, h8⟩, hv⟩ := ha
  refine recomputeM_clock ?_
  exact ⟨⟨h1, h2, h3, h4, Nat.zero_le _, h6, h7, h8⟩, hv⟩

theorem goodPulse_clock (hs : ClockLaw s) : ClockLaw (goodPulse s) := by
  have ⟨⟨h1, _, h3, h4, h5, h6, h7, h8⟩, hv⟩ := hs
  unfold goodPulse
  split
  · exact alignSecond_clock ⟨⟨h1, Nat.zero_le _, h3, h4, h5, h6, h7, h8⟩, hv⟩
  · exact ⟨⟨show 1 ≤ 64 by decide, hs.1.2.1, h3, h4, h5, h6, h7, nofun⟩, hv⟩
  · next hsrc =>
    split
    · exact enterReference_clock hs
    · next hlt =>
      have hlt : ¬ 64 ≤ s.time.goodRun + 1 := hlt
      refine ⟨⟨show s.time.goodRun + 1 ≤ 64 by omega, hs.1.2.1, h3, h4, h5, h6, h7, fun h => ?_⟩, hv⟩
      have h : s.time.source = .reference := h
      rw [hsrc] at h; cases h

theorem goodRunLost_clock (hsrc : s.time.source = .returning) (hs : ClockLaw s) :
    ClockLaw (setTime { s.time with goodRun := 0 } s) := by
  obtain ⟨⟨-, h2, h3, h4, h5, h6, h7, -⟩, hv⟩ := hs
  refine ⟨⟨Nat.zero_le _, h2, h3, h4, h5, h6, h7, fun h => ?_⟩, hv⟩
  have h : s.time.source = .reference := h
  rw [hsrc] at h; cases h

theorem badPulse_clock (hs : ClockLaw s) : ClockLaw (badPulse s) := by
  unfold badPulse
  split
  · split
    · exact enterFallback_clock _ hs
    · next hlt =>
      obtain ⟨⟨h1, -, h3, h4, h5, h6, h7, h8⟩, hv⟩ := hs
      have hlt : ¬ 3 ≤ s.time.badRun + 1 := hlt
      exact ⟨⟨h1, show s.time.badRun + 1 ≤ 3 by omega, h3, h4, h5, h6, h7, h8⟩, hv⟩
  · exact hs
  · next hsrc => exact goodRunLost_clock hsrc hs

theorem silenceEvent_clock (hs : ClockLaw s) : ClockLaw (silenceEvent s) := by
  unfold silenceEvent
  split
  · exact enterFallback_clock _ hs
  · exact hs
  · next hsrc => exact goodRunLost_clock hsrc hs

theorem silencePassed_clock (hs : ClockLaw s) : ClockLaw (silencePassed s) := by
  unfold silencePassed
  refine silenceEvent_clock ?_
  exact hs

theorem pulseArrives_clock (hs : ClockLaw s) : ClockLaw (pulseArrives s) := by
  unfold pulseArrives
  dsimp only
  split
  · exact hs
  · split
    · exact goodPulse_clock hs
    · exact badPulse_clock hs

theorem oscillatorBoundary_clock (hs : ClockLaw s) : ClockLaw (oscillatorBoundary s) := by
  unfold oscillatorBoundary
  refine makeBoundary_clock _ ?_
  exact hs

/-! ## The owing list -/

/-- A bay put on the owing list keeps it in rising order (R119). -/
theorem mem_addOwing {b x : Nat} {l : List Nat} : x ∈ addOwing b l ↔ x = b ∨ x ∈ l := by
  induction l with
  | nil => simp [addOwing]
  | cons y ys ih =>
    unfold addOwing
    split
    · simp
    · split
      · next h => subst h; simp
      · simp only [List.mem_cons, ih]; tauto

theorem addOwing_sorted {b : Nat} {l : List Nat} (h : l.Pairwise (· < ·)) : (addOwing b l).Pairwise (· < ·) := by
  induction l with
  | nil => simp [addOwing]
  | cons y ys ih =>
    obtain ⟨hy, hys⟩ := List.pairwise_cons.1 h
    unfold addOwing
    split
    · next hlt =>
      refine List.pairwise_cons.2 ⟨fun x hx => ?_, h⟩
      rcases List.mem_cons.1 hx with rfl | hx
      · exact hlt
      · exact hlt.trans (hy x hx)
    · next hge =>
      split
      · exact h
      · next hne =>
        refine List.pairwise_cons.2 ⟨fun x hx => ?_, ih hys⟩
        rcases mem_addOwing.1 hx with rfl | hx
        · omega
        · exact hy x hx

theorem mem_putKept {k x : KeptNumber} {l : List KeptNumber} (h : x ∈ putKept k l) : x = k ∨ x ∈ l := by
  induction l with
  | nil => simpa [putKept] using h
  | cons y ys ih =>
    unfold putKept at h
    split at h
    · simpa using h
    · split at h
      · rcases List.mem_cons.1 h with rfl | h
        · exact .inl rfl
        · exact .inr (List.mem_cons_of_mem _ h)
      · rcases List.mem_cons.1 h with rfl | h
        · exact .inr List.mem_cons_self
        · exact (ih h).imp_right (List.mem_cons_of_mem _)

/-- A view with another owing list and other numbers kept. -/
theorem rangeLaw_of_owing {o : List Nat} {k : List KeptNumber} (h : doorOf t = { doorOf s with owing := o, kept := k })
    (ho : OwingLaw { s with store := { s.store with owing := o, kept := k } }) : RangeLaw s → RangeLaw t := by
  rw [rangeLaw_iff, rangeLaw_iff (s := t), h]
  exact fun ⟨hc, hd, hb, hr, _⟩ => ⟨hc, hd, hb, hr, ho⟩

theorem owingLaw_filter (bay : Nat) (hs : OwingLaw s) : OwingLaw { s with store := { s.store with
    owing := s.store.owing.filter (fun b => b != bay), kept := s.store.kept.filter (fun k => k.bay != bay) } } := by
  obtain ⟨h1, h2, h3, h4⟩ := hs
  refine ⟨h1.sublist List.filter_sublist, fun b hb => h2 b (List.mem_filter.1 hb).1,
    fun k hk => h3 k (List.mem_filter.1 hk).1, fun hd => ?_⟩
  obtain ⟨ho, hk⟩ := h4 hd
  exact ⟨by rw [ho]; rfl, by rw [hk]; rfl⟩

/-- An origin of 1..60 other than the own bay that has sent an OFFER to a docked door (R119). -/
theorem owingLaw_offer {bay : Nat} (full : Prop) [Decidable full] (number : Nat)
    (hb : 1 ≤ bay ∧ bay ≤ 60 ∧ bay ≠ s.straps.bay) (hd : s.docking ≠ none) (hs : OwingLaw s) :
    OwingLaw { s with store := { s.store with
      owing := if full then addOwing bay s.store.owing else s.store.owing.filter (fun b => b != bay)
      kept := putKept { bay := bay, number := number } s.store.kept } } := by
  obtain ⟨h1, h2, h3, -⟩ := hs
  refine ⟨?_, fun b hmem => ?_, fun k hk => ?_, fun hn => absurd hn hd⟩
  · show (if full then _ else _ : List Nat).Pairwise _
    split
    · exact addOwing_sorted h1
    · exact h1.sublist List.filter_sublist
  · have hmem : b ∈ (if full then addOwing bay s.store.owing else s.store.owing.filter (fun b => b != bay)) := hmem
    split at hmem
    · rcases mem_addOwing.1 hmem with rfl | hmem
      · exact hb
      · exact h2 b hmem
    · exact h2 b (List.mem_filter.1 hmem).1
  · rcases mem_putKept hk with rfl | hk
    · exact hb
    · exact h3 k hk

theorem takeFrame_range {key : Nat} {b : Body} {f : State → State} (hs : RangeLaw s)
    (hf : 1 ≤ b.sender ∧ b.sender ≤ 60 ∧ b.sender ≠ s.straps.bay → RangeLaw (f (lineActive false s))) :
    RangeLaw (takeFrame key b f s) :=
  takeFrame_keeps (P := fun s => RangeLaw s) (fun _ _ h => rangeLaw_of_site h) hs hf

theorem takeBeacon_range (m : BeaconMsg) (hs : RangeLaw s) : RangeLaw (takeBeacon m s) := by
  rcases takeBeacon_site s m with h | h
  · exact rangeLaw_of_site h hs
  · exact rangeLaw_of_owing (congrArg (fun v : Site => { v with holds := [], cargo := [] }) h :)
      (owingLaw_filter m.bay hs.2.2.2.2) hs

theorem takeDone_range (m : DoneMsg) (hs : RangeLaw s) : RangeLaw (takeDone m s) :=
  rangeLaw_of_owing (congrArg (fun v : Site => { v with holds := [], cargo := [] }) (takeDone_site s m) :)
    (owingLaw_filter m.bay hs.2.2.2.2) hs

theorem takeOffer_range (m : OfferMsg) (hb : 1 ≤ m.origin ∧ m.origin ≤ 60 ∧ m.origin ≠ s.straps.bay)
    (hs : RangeLaw s) : RangeLaw (takeOffer m s) := by
  rcases takeOffer_door s m with h | ⟨hd, h⟩
  · exact rangeLaw_of_door h hs
  · exact rangeLaw_of_owing h (owingLaw_offer _ m.group hb hd hs.2.2.2.2) hs

/-! ## Requests -/

/-- A run carried on by a tipped pallet (R24, R32). -/
theorem runLaw_tipped (hs : RunLaw s) : RunLaw { s with run := tippedRun s.run } := by
  obtain ⟨h1, h2, h3, h4, -⟩ := hs
  refine ⟨h1, fun hc => ?_, fun ho => ?_, fun n hn => ?_, min_le_left _ _⟩
  · have hc : s.run.mode = some .counted := hc
    simpa [tippedRun, hc] using h2 hc
  · have ho : s.run.mode = some .openEnded := ho
    simpa [tippedRun, ho] using h3 ho
  · have hn : (if s.run.mode = some .counted then s.run.remaining.map (· - 1) else s.run.remaining) = some n := hn
    split at hn
    · obtain ⟨k, hk, rfl⟩ := Option.map_eq_some_iff.1 hn
      exact (Nat.sub_le _ _).trans (h4 k hk)
    · exact h4 n hn

/-- A run that has ended keeps its counts (R24, R27). -/
theorem runLaw_ended (reason : TipReason) (hs : RunLaw s) :
    RunLaw { s with run := { s.run with mode := none, lastReason := reason } } :=
  ⟨nofun, nofun, nofun, hs.2.2.2.1, hs.2.2.2.2⟩

theorem dockBody_range (p : DockParams) (hs : RangeLaw s) : RangeLaw (dockBody p s).1 := by
  rcases dockBody_cases p s with h | ⟨d, rd, hn, hok, h⟩
  · exact rangeLaw_of_site h.site hs
  obtain ⟨w, hw⟩ := takeDock_site s d
  obtain ⟨⟨⟨h1, h2, h3, h4, h5, -, h7, h8⟩, -⟩, -, hb, ⟨-, r2, r3, r4, r5⟩, o1, o2, o3, -⟩ := hs
  have he : s.deck.entries = [] := by simpa [DeckBounded, hn] using hb
  rw [h, rangeLaw_iff, doorOf, accept, hw]
  refine ⟨⟨⟨h1, h2, h3, h4, h5, effectiveMinutes_le _ _, h7, h8⟩, nofun⟩, ?_, ?_, ⟨fun _ => rfl, r2, r3, r4, r5⟩,
    o1, o2, o3, nofun⟩
  · rintro _ ⟨⟩; exact hok
  · simp [DeckBounded, Site.state, siteOf, he]

theorem declareBody_range (label depot mass : Nat) (hs : RangeLaw s) : RangeLaw (declareBody label depot mass s).1 := by
  rcases declareBody_cases label depot mass s with h | ⟨d, rd, hd, -, -, hl, h⟩
  · exact rangeLaw_of_site h.site hs
  obtain ⟨hc, hdock, -, hr, ho⟩ := hs
  rw [h]
  refine ⟨hc, hdock, ?_, hr, ho⟩
  simpa [DeckBounded, accept, pushed, hd] using hl

/-- The deck holds at most 52 entries (R1, R16, R19). -/
theorem deck_length_le (hd : DockingLaw s) (hb : DeckBounded s) : s.deck.entries.length ≤ 52 := by
  cases h : s.docking with
  | none => simp [DeckBounded, h] at hb; simp [hb]
  | some d =>
    obtain ⟨-, -, hc, -⟩ := hd d h
    simp only [DeckBounded, h, Option.map_some, Option.getD_some] at hb
    exact hb.trans hc

theorem tipStartBody_range (mode : TipModeArg) (hs : RangeLaw s) : RangeLaw (tipStartBody mode s).1 := by
  rcases tipStartBody_cases mode s with h | ⟨rd, hd, h⟩
  · exact rangeLaw_of_site h.site hs
  have hlen := deck_length_le hs.2.1 hs.2.2.1
  obtain ⟨hc, hdock, hb, -, ho⟩ := hs
  rcases h with h | ⟨n, hn, h⟩ <;> rw [h]
  · exact ⟨hc, hdock, hb, ⟨fun _ => hd, nofun, fun _ => rfl, nofun, Nat.zero_le _⟩, ho⟩
  · refine ⟨hc, hdock, hb, ⟨fun _ => hd, fun _ => rfl, nofun, ?_, Nat.zero_le _⟩, ho⟩
    rintro _ ⟨⟩
    omega

theorem tipEndBody_range (hs : RangeLaw s) : RangeLaw (tipEndBody s).1 := by
  rcases tipEndBody_cases s with h | ⟨rd, h⟩
  · exact rangeLaw_of_site h.site hs
  rw [h, rangeLaw_iff, doorOf, accept, terminateRun_site]
  obtain ⟨hc, hdock, hb, hr, ho⟩ := rangeLaw_iff.1 hs
  exact ⟨hc, hdock, hb, runLaw_ended .ended hr, ho⟩

theorem countTip_range (p : Tipped) (hs : RangeLaw s) : RangeLaw (countTip p s) := by
  obtain ⟨hc, hdock, hb, hr, ho⟩ := rangeLaw_iff.1 hs
  rw [rangeLaw_iff, doorOf]
  rcases countTip_site s p with h | ⟨reason, h⟩ <;> rw [h]
  · exact ⟨hc, hdock, hb, runLaw_tipped hr, ho⟩
  · exact ⟨hc, hdock, hb, runLaw_ended reason (runLaw_tipped hr), ho⟩

/-- Entries taken off the deck leave it within C. -/
theorem takeOff_range {p : Tipped} (hp : Tippable p s) (hs : RangeLaw s) : RangeLaw (takeOff p s) := by
  have hle : (deckAfterTip p s.deck.entries).length ≤ s.deck.entries.length := by
    rcases hp with ⟨k, e, rfl, hx, -⟩ | ⟨hdep, -⟩
    · obtain ⟨-, hlt, he⟩ := examineLabel_some hx
      have := (exchangeRear_perm hlt he).length_eq
      rw [List.length_cons] at this
      exact le_trans (Nat.le_succ _) this.le
    · simp [deckAfterTip, hdep]
  obtain ⟨hc, hdock, hb, hr, ho⟩ := hs
  rw [rangeLaw_iff, doorOf, takeOff_site]
  refine ⟨hc, hdock, ?_, hr, ho⟩
  simp only [DeckBounded, Site.state, List.length_map]
  exact hle.trans hb

theorem tipOffBody_range (label : Nat) (depot mass : Option Nat) (hs : RangeLaw s) :
    RangeLaw (tipOffBody label depot mass s).1 := by
  rcases tipOffBody_cases label depot mass s with h | ⟨p, hp, -, h⟩
  · exact rangeLaw_of_site h.site hs
  rw [h]
  have ht := rangeLaw_iff.1 (takeOff_range hp hs)
  rcases tipPallet_cases (tip := true) p s with h | ⟨rd, ⟨r, h⟩ | h⟩
  · exact rangeLaw_of_site h.site hs
  · rw [h]
    refine countTip_range p (rangeLaw_iff.2 ?_)
    rw [doorOf, routeToLane_site]
    exact ht
  · rw [h]
    refine countTip_range p (rangeLaw_iff.2 ?_)
    rw [doorOf, routeToTable_site]
    exact ht

theorem loadBody_range (label : Nat) (hs : RangeLaw s) : RangeLaw (loadBody label s).1 := by
  rcases loadBody_cases label s with h | ⟨e, rd, -, -, -, hl, h⟩
  · exact rangeLaw_of_site h.site hs
  obtain ⟨hc, hdock, -, hr, ho⟩ := hs
  rw [h, rangeLaw_iff, doorOf, accept, takeLoad_site]
  refine ⟨hc, hdock, ?_, hr, ho⟩
  simpa [DeckBounded, Site.state, siteOf] using hl

theorem unloadBody_range (hs : RangeLaw s) : RangeLaw (unloadBody s).1 := by
  rcases unloadBody_cases s with h | ⟨e, rd, -, -, h⟩
  · exact rangeLaw_of_site h.site hs
  obtain ⟨hc, hdock, hb, hr, ho⟩ := hs
  rw [h, rangeLaw_iff, doorOf, accept, takeUnload_site]
  refine ⟨hc, hdock, ?_, hr, ho⟩
  simp only [DeckBounded, Site.state, List.length_map, List.length_dropLast]
  exact (Nat.sub_le _ _).trans hb

theorem arriveBody_range (label depot mass : Nat) (origin : Option Nat) (hs : RangeLaw s) :
    RangeLaw (arriveBody label depot mass origin s).1 := by
  have hv := rangeLaw_iff.1 hs
  rcases arriveBody_cases label depot mass origin s with h | ⟨rank, -, -, -, ⟨h, -, -, e⟩ | ⟨-, e⟩⟩
  · exact rangeLaw_of_site h.site hs
  · obtain ⟨rd, t, ha, ht⟩ := arriveHeld_eq s h depot rank (clampMass mass)
    rw [e, ha]
    refine rangeLaw_of_door (holdGone_door t) (rangeLaw_iff.2 ?_)
    rw [doorOf, ht]
    exact hv
  · rw [e]
    rcases arriveUnannounced_cases label depot rank (clampMass mass) origin s with h | ⟨rd, t, ht, h⟩
    · exact rangeLaw_of_site h.site hs
    · rw [h]
      refine rangeLaw_iff.2 ?_
      rw [doorOf, accept, ht]
      exact hv

theorem departBody_range (abandon : Bool) (hs : RangeLaw s) : RangeLaw (departBody abandon s).1 := by
  rcases departBody_cases abandon s with h | ⟨rd, -, h⟩
  · exact rangeLaw_of_site h.site hs
  obtain ⟨⟨⟨h1, h2, h3, h4, h5, -, h7, h8⟩, -⟩, -, -, hr, -⟩ := hs
  rw [h, rangeLaw_iff, doorOf, accept, takeDepart_site]
  refine ⟨⟨⟨h1, h2, h3, h4, h5, Nat.zero_le _, h7, h8⟩, fun _ => rfl⟩, nofun, Nat.zero_le _, ?_,
    .nil, nofun, nofun, fun _ => ⟨rfl, rfl⟩⟩
  obtain ⟨-, -, -, r4, r5⟩ := hr
  simp only [RunLaw, Site.state, departedRun]
  cases hm : s.run.mode with
  | none => exact ⟨by simp [hm], by simp [hm], by simp [hm], r4, r5⟩
  | some m => exact ⟨nofun, nofun, nofun, r4, r5⟩

/-- The docking record bound anew in its ranges with the capacity it had, and M recomputed. -/
theorem setDocking_range {d d' : Docking} (hd : s.docking = some d) (hc : d'.capacity = d.capacity) (hok : d'.ok)
    (hs : RangeLaw s) : RangeLaw { s with docking := some d' } := by
  obtain ⟨⟨ht, -⟩, -, hb, ⟨-, r⟩, o1, o2, o3, -⟩ := hs
  refine ⟨⟨ht, nofun⟩, ?_, ?_, ⟨fun _ => rfl, r⟩, o1, o2, o3, nofun⟩
  · rintro _ ⟨⟩; exact hok
  · simpa [DeckBounded, hd, hc] using hb

theorem recomputeM_range (hs : RangeLaw s) : RangeLaw (recomputeM s) :=
  ⟨recomputeM_clock hs.1, recordLaw_of_hall (recomputeM_hall s) hs.2⟩

theorem setCutoffBody_range (cutoff : Nat) (hs : RangeLaw s) : RangeLaw (setCutoffBody cutoff s).1 := by
  rcases setCutoffBody_cases cutoff s with h | ⟨d, rd, hd, hk, h⟩
  · exact rangeLaw_of_site h.site hs
  rw [h]
  obtain ⟨h1, h2, h3, h4, h5, h6, h7, h8, -⟩ := hs.2.1 d hd
  exact recomputeM_range
    (setDocking_range (d' := { d with cutoff := cutoff }) hd rfl ⟨h1, h2, h3, h4, h5, h6, h7, h8, hk⟩ hs)

theorem setExpectedBody_range (expected : Nat) (hs : RangeLaw s) : RangeLaw (setExpectedBody expected s).1 := by
  rcases setExpectedBody_cases expected s with h | ⟨d, rd, hd, h⟩
  · exact rangeLaw_of_site h.site hs
  rw [h]
  obtain ⟨h1, h2, h3, h4, h5, h6, h7, -, h9⟩ := hs.2.1 d hd
  exact rangeLaw_of_site ((settle_site _).trans (recomputeUrgency_site _))
    (setDocking_range (d' := { d with expected := min d.capacity expected }) hd rfl
      ⟨h1, h2, h3, h4, h5, h6, h7, min_le_left _ _, h9⟩ hs)

theorem setClockBody_range (minute : Option Nat) (hs : RangeLaw s) : RangeLaw (setClockBody minute s).1 := by
  rcases setClockBody_cases minute s with h | ⟨k, rd, hk, h⟩
  · exact rangeLaw_of_site h.site hs
  rw [h]
  obtain ⟨⟨⟨h1, h2, -, -, h5, h6, -, h8⟩, hv⟩, hr⟩ := hs
  refine recomputeM_range ?_
  exact ⟨⟨⟨h1, h2, Nat.zero_le _, hk, h5, h6, nofun, h8⟩, hv⟩, hr⟩

theorem clearBay_range (hs : RangeLaw s) : RangeLaw (clearBay s) := by
  obtain ⟨⟨⟨h1, h2, h3, h4, h5, -, h7, h8⟩, -⟩, -⟩ := hs
  refine ⟨⟨⟨h1, h2, h3, h4, h5, Nat.zero_le _, h7, h8⟩, fun _ => rfl⟩, nofun, Nat.zero_le _,
    ⟨nofun, nofun, nofun, ?_, Nat.zero_le _⟩, .nil, nofun, nofun, fun _ => ⟨rfl, rfl⟩⟩
  rintro _ ⟨⟩
  decide

theorem powerOn_range (p : Straps) (b : Bool) (l : List Instr) : RangeLaw (State.powerOn p b l) := by
  have ht : TimeLaw State.reset := by decide
  refine ⟨⟨ht, fun _ => rfl⟩, nofun, Nat.zero_le _, ⟨nofun, nofun, nofun, ?_, Nat.zero_le _⟩, .nil, nofun, nofun,
    fun _ => ⟨rfl, rfl⟩⟩
  rintro _ ⟨⟩
  decide

/-! ## Every command -/

theorem request_range {h : ReqHead} {r : Request} {body : State → Result} (hs : RangeLaw s)
    (hb : RangeLaw (body s).1) : RangeLaw (request h r body s) :=
  request_keeps (P := fun s => RangeLaw s) (fun _ _ h => h) hs hb

theorem exec_loud_range (i : Instr) (hl : Loud i = true) (hs : RangeLaw s) (h : exec i s = .next t) : RangeLaw t := by
  cases i <;> first | (cases hl; done) | cases h
  case dock h p => exact request_range hs (dockBody_range p hs)
  case declare h label depot mass => exact request_range hs (declareBody_range label depot mass hs)
  case tipStart h mode => exact request_range hs (tipStartBody_range mode hs)
  case tipOff h label depot mass => exact request_range hs (tipOffBody_range label depot mass hs)
  case tipEnd h => exact request_range hs (tipEndBody_range hs)
  case load h label => exact request_range hs (loadBody_range label hs)
  case unloadBack h => exact request_range hs (unloadBody_range hs)
  case arrive h label depot mass origin => exact request_range hs (arriveBody_range label depot mass origin hs)
  case depart h abandon => exact request_range hs (departBody_range abandon hs)
  case withdraw h label => exact request_range hs (rangeLaw_of_door (withdrawBody_door label s) hs)
  case setCutoff h cutoff => exact request_range hs (setCutoffBody_range cutoff hs)
  case setExpected h expected => exact request_range hs (setExpectedBody_range expected hs)
  case setClock h minute => exact request_range hs (setClockBody_range minute hs)
  case clearBay h => exact request_range hs (clearBay_range hs)

/-- A clock event keeps the record's laws with its view, and the Time Base by its own lemmas. -/
theorem live_clock_range {f : State → State} (hf : hallOf (f s) = hallOf s) (hc : ClockLaw (f s)) (hs : RangeLaw s) :
    RangeLaw (live f s) :=
  live_keeps (P := fun s => RangeLaw s) hs ⟨hc, recordLaw_of_hall hf hs.2⟩

theorem exec_apart_range (i : Instr) (ha : Apart i = true) (hs : RangeLaw s) (h : exec i s = .next t) : RangeLaw t := by
  refine Decidable.byCases (p := OfPort i = true) (fun hp => (exec_ofPort i hp h).1 ▸ hs) fun hp => ?_
  cases i <;> first | (cases ha; done) | exact absurd rfl hp | cases h
  case beacon key m => exact takeFrame_range hs fun _ => takeBeacon_range m hs
  case offer key m => exact takeFrame_range hs fun hb => takeOffer_range m hb hs
  case done key m => exact takeFrame_range hs fun _ => takeDone_range m hs
  case hallClockPulse n =>
    exact live_clock_range ((pulseArrives_hall _).trans (passTime_hall s n)) (pulseArrives_clock hs.1) hs
  case pulseSilence => exact live_clock_range (silencePassed_hall s) (silencePassed_clock hs.1) hs
  case secondBoundary => exact live_clock_range (oscillatorBoundary_hall s) (oscillatorBoundary_clock hs.1) hs
  case powerOn p b => exact powerOn_range p b s.pending
  case resetAsserted => exact hs

theorem exec_range (i : Instr) (hs : RangeLaw s) (h : exec i s = .next t) : RangeLaw t := by
  by_cases hq : i.reqHead = none
  · cases ha : Apart i
    · exact rangeLaw_of_door (exec_door i hq ha h) hs
    · exact exec_apart_range i ha hs h
  · cases hl : Loud i
    · have ht := exec_quiet i hq hl h
      have hd : doorOf t = { doorOf s with port := t.port } :=
        (congrArg (fun v : Site => { v with holds := [], cargo := [] }) ht :)
      rw [rangeLaw_iff, hd]
      exact rangeLaw_iff.1 hs
    · exact exec_loud_range i hl hs h

/-- Settles O13: the clock's events keep the Time Base in its ranges, a DOCK binds its record in them, a run stands
only where a record does, and the framing of R63 names only bays that may stand on the owing list. -/
theorem everyStepKeepsTimeRunAndRecord : Obligations.EveryStepKeepsTimeRunAndRecord := by
  unfold Obligations.EveryStepKeepsTimeRunAndRecord
  rintro s t ⟨htime, hdock, hdeck, hrun, hvac, howe⟩ h
  obtain ⟨⟨htime, hvac⟩, hdock, hdeck, hrun, howe⟩ :=
    step_keeps (P := fun s => RangeLaw s) (fun _ _ h => h) (fun i _ _ hs h => exec_range i hs h)
      ⟨⟨htime, hvac⟩, hdock, hdeck, hrun, howe⟩ h
  exact ⟨htime, hdock, hdeck, hrun, hvac, howe⟩

end Sys2Proof.Machine
end

section
/-! PROOF. The state after reset, DECLARE and CLEAR BAY (O2, O24, O43). -/

namespace Sys2Proof.Machine

variable {s : State}

/-- Settles O2: reset is one state, and each law is decided on it. -/
theorem resetSatisfiesTheLaws : Obligations.ResetSatisfiesTheLaws := by
  unfold Obligations.ResetSatisfiesTheLaws
  refine ⟨⟨by decide, by decide, by decide, by decide⟩, ⟨by decide, by decide, by decide, by decide⟩,
    ⟨by decide, by decide, by decide, by decide⟩, ⟨by decide, by decide, by decide, by decide⟩,
    ⟨by decide, by decide, by decide, by decide⟩, ⟨by decide, by decide, by decide, by decide⟩⟩

/-- Without OUTBOUND entries every entry is INBOUND (R2, R5). -/
theorem outboundCount_eq_zero {d : Deck} : outboundCount d = 0 ↔ ∀ x ∈ d.entries, x.tag = .inbound := by
  simp only [outboundCount, List.length_eq_zero_iff, List.filter_eq_nil_iff, beq_iff_eq]
  refine forall₂_congr fun x _ => ?_
  cases x.tag <;> decide

theorem inboundCount_eq_zero {d : Deck} : inboundCount d = 0 ↔ ∀ x ∈ d.entries, x.tag = .outbound := by
  simp only [inboundCount, List.length_eq_zero_iff, List.filter_eq_nil_iff, beq_iff_eq]
  refine forall₂_congr fun x _ => ?_
  cases x.tag <;> decide

/-- A DECLARE whose tests before the push have passed is decided by the push (R23). -/
theorem declareBody_push {label depot mass : Nat} {d : Docking} (hd : s.docking = some d) (hrun : s.run.mode = none)
    (ho : outboundCount s.deck = 0) (hl : label ≠ 0) (hdep : depotOk depot = true) (hm : mass ≠ 0)
    (hk : labelKnown s label = false) : declareBody label depot mass s =
      if d.capacity ≤ s.deck.entries.length then refuse .deckFull (recordFault .overflow s)
      else accept (.depth (s.deck.entries.length + 1)) (pushed (declaredEntry label depot mass) s) := by
  have htag := outboundCount_eq_zero.1 ho
  simp only [declareBody, hd, hrun, ho, hl, hdep, hm, hk]
  rcases pushDeck_cases d.capacity (declaredEntry label depot mass) s.deck with
    ⟨⟨x, hx, hne⟩, -⟩ | ⟨-, hc, h⟩ | ⟨-, hc, h⟩
  · exact absurd (htag x hx) hne
  · rw [declaredEntry] at h
    simp [h, hc]
  · rw [declaredEntry] at h
    simp [h, Nat.not_le.2 hc, pushed, declaredEntry, hd]

/-- Settles O24: with all tests passed the deck's capacity alone decides between the push and DECK FULL. -/
theorem declarePushesAnInboundEntry : Obligations.DeclarePushesAnInboundEntry := by
  unfold Obligations.DeclarePushesAnInboundEntry
  refine ⟨fun h label depot mass s d ht hd hrun ho hl hdep hm hk hc => ?_,
    fun h label depot mass s d ht hd hrun ho hl hdep hm hk hc => ?_⟩
  · refine congrArg Host.Outcome.next ?_
    rw [request_taken .declare _ ht, declareBody_push hd hrun ho hl hdep hm hk, if_neg (Nat.not_le.2 hc)]
    rfl
  · refine ⟨_, congrArg Host.Outcome.next (request_taken .declare (declareBody label depot mass) ht), ?_⟩
    rw [declareBody_push hd hrun ho hl hdep hm hk, if_pos hc]
    exact ⟨rfl, rfl, rfl, rfl⟩

theorem strapValid_ite {α : Type} (p : Straps) (a b : α) :
    (if strapValid p = true then a else b) = if 1 ≤ p.bay ∧ p.bay ≤ 60 then a else b := by
  simp only [strapValid, decide_eq_true_eq]

/-- Settles O43: CLEAR BAY replaces every block by its cleared state (R165). -/
theorem clearBayRestartsTheBay : Obligations.ClearBayRestartsTheBay := by
  unfold Obligations.ClearBayRestartsTheBay
  intro h s ht
  refine congrArg Host.Outcome.next ?_
  have hreason : (if s.run.mode.isSome then .abort else s.run.lastReason : TipReason)
      = if s.run.mode = none then s.run.lastReason else .abort := by
    cases s.run.mode <;> rfl
  rw [request_taken .clearBay clearBayBody ht]
  simp only [clearBayBody, clearBay, accept, answerOf, sendReply, Link.initial, strapValid_ite, hreason]
  rfl

end Sys2Proof.Machine
end

section
/-! SUPPORT. States told apart field by field, what raising a notice does to the summary word, READY worked out, and a
beaconed change in the words of the statements. -/

namespace Sys2Proof.Machine

variable {s t u v : State}

/-! ## States field by field -/

/-- Two states with the same blocks are the same. -/
theorem state_eq (h1 : t.pins = u.pins) (h2 : t.straps = u.straps) (h3 : t.port = u.port) (h4 : t.notes = u.notes)
    (h5 : t.docking = u.docking) (h6 : t.deck = u.deck) (h7 : t.lane = u.lane) (h8 : t.run = u.run)
    (h9 : t.time = u.time) (h10 : t.urgency = u.urgency) (h11 : t.link = u.link) (h12 : t.dir = u.dir)
    (h13 : t.table = u.table) (h14 : t.asm = u.asm) (h15 : t.store = u.store) (h16 : t.dep = u.dep)
    (h17 : t.pending = u.pending) : t = u := by
  cases t
  cases u
  simp_all

/-! ## Notices -/

/-- A notice depends on the notices and the time alone. -/
theorem raise_notes_congr (k : NoticeKind) (a b : Nat) (hn : u.notes = v.notes) (ht : u.time = v.time) :
    (raise k a b u).notes = (raise k a b v).notes := by
  simp only [raise, hn, ht]

/-- A flag of a word stays in a word with more flags. -/
theorem hasFlag_or (w x : FlagWord) (k : NoticeKind) :
    hasFlag (w ||| x) k = true ↔ hasFlag w k = true ∨ hasFlag x k = true := by
  simp only [hasFlag, bne_iff_ne, ne_eq]
  rw [show (w ||| x) &&& k.flag = (w &&& k.flag) ||| (x &&& k.flag) by
    ext i hi
    simp [Bool.and_or_distrib_right], ← not_and_or, not_iff_not]
  exact BitVec.or_eq_zero_iff

/-- Raising a notice latches its flag and clears none (R158). -/
theorem raise_summary (k : NoticeKind) (a b : Nat) (s : State) :
    ∃ x, (raise k a b s).notes.summary = s.notes.summary ||| k.flag ||| x := by
  unfold raise
  dsimp only
  split
  · rcases place_cases (s.notes.latch k)
      { kind := k, minute := s.time.minute, second := s.time.seconds, param1 := a, param2 := b } with
      ⟨-, h⟩ | ⟨-, -, h⟩ | ⟨-, h⟩ <;> rw [h]
    · exact ⟨0, by simp [Notices.latch]⟩
    · exact ⟨_, rfl⟩
    · exact ⟨0, by simp [Notices.latch]⟩
  · exact ⟨0, by simp [Notices.latch]⟩

theorem hasFlag_raise (k : NoticeKind) (a b : Nat) (s : State) : hasFlag (raise k a b s).notes.summary k = true := by
  obtain ⟨x, hx⟩ := raise_summary k a b s
  rw [hx, hasFlag_or, hasFlag_or]
  exact .inl (.inr (by cases k <;> decide))

theorem hasFlag_raise_of {j : NoticeKind} (k : NoticeKind) (a b : Nat) (h : hasFlag s.notes.summary j = true) :
    hasFlag (raise k a b s).notes.summary j = true := by
  obtain ⟨x, hx⟩ := raise_summary k a b s
  rw [hx, hasFlag_or, hasFlag_or]
  exact .inl (.inl h)

/-! ## READY -/

/-- READY worked out changes READY and the notices alone (R139). -/
theorem checkReady_eq (s : State) : checkReady s = { s with
    dep := { s.dep with ready := readyNow s }
    notes := if readyNow s && !s.dep.ready then (raise .ready (outboundCount s.deck) (expectedLoad s) s).notes
      else s.notes } := by
  unfold checkReady
  dsimp only
  split <;> rfl

/-- The AUTOCLOSE READY condition worked out, where it cannot start a call (R141). -/
theorem checkAutoclose_eq (h : NoAutoclose s) :
    checkAutoclose s = setDep { s.dep with autoWas := autocloseNow s } s := by
  unfold checkAutoclose
  dsimp only
  rw [if_neg]
  rcases h with h | h <;> simp [h]

/-- What follows a change where no call can start by AUTOCLOSE: READY, the condition of R141 and the notice (R139). -/
theorem settle_eq (h : NoAutoclose s) : settle s = { s with
    dep := { s.dep with
      ready := readyNow s, autoWas := readyNow s && decide (expectedLoad s ≤ outboundCount s.deck) }
    notes := if readyNow s && !s.dep.ready then (raise .ready (outboundCount s.deck) (expectedLoad s) s).notes
      else s.notes } := by
  have hr : NoAutoclose (checkReady s) := by rw [checkReady_eq]; exact h
  rw [settle, checkAutoclose_eq hr, checkReady_eq]
  rfl

/-- With a lane that is not empty the bay is not READY, and no call starts by AUTOCLOSE (R139, R141). -/
theorem settle_not_ready (h : readyNow s = false) :
    settle s = setDep { s.dep with ready := false, autoWas := false } s := by
  unfold settle checkAutoclose autocloseNow
  rw [checkReady_eq]
  simp only [h, Bool.false_and, Bool.and_false]
  rfl

theorem readyNow_of_lane (h : s.lane ≠ []) : readyNow s = false := by
  simp [readyNow, h]

/-! ## The own beacon -/

/-- The beaconed values of `t` are those of `u`. -/
structure BeaconAlike (u t : State) : Prop where
  straps : t.straps = u.straps
  docking : t.docking = u.docking
  content : contentNow t = contentNow u
  minutes : t.time.m = u.time.m
  urgency : t.urgency = u.urgency

/-- The beaconed values hang on these blocks alone (R84). -/
theorem contentNow_congr (h1 : t.docking = u.docking) (h2 : t.dep.state = u.dep.state) (h3 : t.dep.halt = u.dep.halt)
    (h4 : outboundCount t.deck = outboundCount u.deck) (h5 : t.lane.length = u.lane.length)
    (h6 : t.store.holds = u.store.holds) (h7 : t.urgency = u.urgency) : contentNow t = contentNow u := by
  simp only [contentNow, beaconedFree, freeSpaces, usedSpaces, h1, h2, h3, h4, h5, h6, h7]

/-- The state in which a beaconed change hands the beacon over (R85). -/
def withInterval (s : State) : State := { s with dir := { s.dir with interval := 4 } }

theorem beaconedChange_dir (u : State) : (beaconedChange u).dir = { u.dir with
    interval := 4, timer := if u.link.line = .joined then some 4 else none
    last := if beaconRoom u then contentNow u else u.dir.last } := by
  unfold beaconedChange placeBeacon beaconRoom
  cases hf : u.link.queue.find? isBeacon with
  | some f =>
    have hany : u.link.queue.any isBeacon = true :=
      List.any_eq_true.2 ⟨f, List.mem_of_find?_eq_some hf, List.find?_some hf⟩
    simp only [hany, Bool.true_or, if_true]
    split <;> rfl
  | none =>
    have hany : u.link.queue.any isBeacon = false := by
      simpa using List.find?_eq_none.1 hf
    simp only [hany, Bool.false_or]
    split <;> rfl

theorem beaconedChange_link (ht : buildBeacon t = buildBeacon (withInterval u)) (hs : t.straps = u.straps)
    (hu : t.urgency = u.urgency) : (beaconedChange u).link = linkWithBeacon u t := by
  unfold beaconedChange placeBeacon linkWithBeacon framed
  rw [ht, hs, hu]
  cases u.link.queue.find? isBeacon with
  | some f => dsimp only; split <;> rfl
  | none => dsimp only; split <;> rfl

/-- A beaconed change is what the statements call one, seen from any state with its link and directory before, and any
state with its link and directory and the beaconed values after. -/
theorem beaconSent_of (hl : s.link = u.link) (hd : s.dir = u.dir) (tl : t.link = (beaconedChange u).link)
    (td : t.dir = (beaconedChange u).dir) (h : BeaconAlike u t) : BeaconSent s t := by
  have hi : t.dir.interval = 4 := by rw [td, beaconedChange_dir]
  have hb : buildBeacon t = buildBeacon (withInterval u) := by
    have hc : contentNow t = contentNow (withInterval u) := h.content
    simp only [buildBeacon, hc, h.straps, h.docking, h.minutes, hi]
    rfl
  refine ⟨?_, ?_⟩
  · rw [tl, beaconedChange_link hb h.straps h.urgency]
    simp only [linkWithBeacon, hl]
  · have hroom : beaconRoom s = beaconRoom u := by simp only [beaconRoom, hl]
    rw [td, beaconedChange_dir, h.content, hl, hd, hroom]

/-- A beaconed change is one seen from any state with the same link and directory. -/
theorem BeaconSent.seenFrom (h : BeaconSent u t) (hl : s.link = u.link) (hd : s.dir = u.dir) : BeaconSent s t := by
  obtain ⟨hlink, hdir⟩ := h
  refine ⟨?_, ?_⟩
  · rw [hlink]; simp only [linkWithBeacon, hl]
  · have hroom : beaconRoom s = beaconRoom u := by simp only [beaconRoom, hl]
    rw [hdir, hroom, hl, hd]

/-- A frame that is no BEACON stays in the queue when the own beacon is handed over (R79). -/
theorem mem_queue_beaconedChange {f : Queued} (hf : f ∈ u.link.queue) (hb : isBeacon f = false) :
    f ∈ (beaconedChange u).link.queue := by
  rw [beaconedChange_link (t := withInterval u) rfl rfl rfl]
  unfold linkWithBeacon
  split
  · split
    · exact hf
    · simp [hf, hb]
  · split
    · simp [hf]
    · exact hf

end Sys2Proof.Machine
end

section
/-! PROOF. The single lines (O60): the shutter starts a call or abandons it, and power-on and the reset pin. -/

namespace Sys2Proof.Machine

variable {s : State}

/-! ## The start of a call -/

theorem startCall_notes (s : State) : (startCall s).notes = s.notes := by simp [startCall, setDepState]

theorem startCall_dep (s : State) : (startCall s).dep = calledDep s := by simp [startCall, setDepState, calledDep]

/-- With room for a frame of class 0 the CALL stands in the queue (R142). -/
theorem call_mem_startCall (h : hasRoom 0 s.link.queue = true) :
    framed (.call { bay := s.straps.bay, number := (s.dep.callNumber + 1) % 256 }) s ∈ (startCall s).link.queue := by
  unfold startCall setDepState
  dsimp only
  rw [setDep_link]
  refine mem_queue_beaconedChange ?_ rfl
  rcases handFrame_cases (.call { bay := s.straps.bay, number := (s.dep.callNumber + 1) % 256 })
    (setDep { s.dep with callNumber := (s.dep.callNumber + 1) % 256 } s) with ⟨hr, -⟩ | ⟨-, e⟩
  · exact absurd (h.symm.trans hr) (by decide)
  · simp only [setDep_link, handOrDrop, e, Option.getD_some]
    exact mem_insertQueued.2 (.inl rfl)

theorem canStart_iff : canStart s = true ↔ s.run.mode = none ∧ hasRoom 0 s.link.queue = true
    ∧ (s.link.line = .joined ∨ s.time.m = 0) := by
  simp [canStart, and_assoc]

/-- The shutter closing in OPEN makes an automatic start (R141). -/
theorem exec_shutterClosed (hr : s.pins.resetHeld = false) (hp : s.pins.shutter = false)
    (hd : s.dep.state = some .openBay) : exec .shutterClosed s = .next (autoStart .shutter (setShutter true s)) := by
  refine congrArg Host.Outcome.next ?_
  rw [live_free _ hr]
  simp [shutterDown, hp, hd]

/-! ## A call abandoned -/

/-- The shutter opening, in the states that close nothing (R141, R149, R150). -/
theorem exec_shutterOpened (hr : s.pins.resetHeld = false) (hp : s.pins.shutter = true) :
    exec .shutterOpened s = .next (match s.dep.state with
      | some .calling => abandonCall .shutter (dropShutter (setShutter false s))
      | some .waiting => abandonCall .shutter (dropShutter (setShutter false s))
      | some .closed => raise .closed CloseCause.shutterOpened.code s.dep.callNumber (dropShutter (setShutter false s))
      | _ => dropShutter (setShutter false s)) := by
  refine congrArg Host.Outcome.next ?_
  rw [live_free _ hr, shutterUp, if_pos hp]
  rfl

/-- Departure Control as a call abandoned leaves it but for READY (R150). -/
def reopenedDep (s : State) : Departure :=
  { s.dep with state := some .openBay, window := none, allowance := none, named := [] }

theorem returnToOpen_eq (s : State) : returnToOpen s = beaconedChange (setDep (reopenedDep s) s) := rfl

theorem settleReturn_eq (s : State) : settleReturn s = { s with
    dep := { s.dep with
      ready := readyNow s, autoWas := readyNow s && decide (expectedLoad s ≤ outboundCount s.deck) }
    notes := if readyNow s && !s.dep.ready then (raise .ready (outboundCount s.deck) (expectedLoad s) s).notes
      else s.notes } := by
  rw [settleReturn, checkReady_eq]
  rfl

theorem hasFlag_settleReturn {k : NoticeKind} (h : hasFlag s.notes.summary k = true) :
    hasFlag (settleReturn s).notes.summary k = true := by
  rw [settleReturn_eq]
  dsimp only
  split
  · exact hasFlag_raise_of _ _ _ h
  · exact h

/-- READY and the AUTOCLOSE READY condition stand as they are worked out (R139, R141). -/
theorem settleReturn_dep (s : State) : (settleReturn s).dep =
    { s.dep with ready := readyNow (settleReturn s), autoWas := autocloseNow (settleReturn s) } := by
  rw [settleReturn_eq]
  rfl

theorem settleReturn_link (s : State) : (settleReturn s).link = s.link := by rw [settleReturn_eq]
theorem settleReturn_dir (s : State) : (settleReturn s).dir = s.dir := by rw [settleReturn_eq]

theorem abandonCall_dep (c : AbandonCause) (s : State) : (abandonCall c s).dep =
    { reopenedDep s with ready := readyNow (abandonCall c s), autoWas := autocloseNow (abandonCall c s) } := by
  have hd : (raise .callAbandoned c.code (returnToOpen s).dep.callNumber (returnToOpen s)).dep = reopenedDep s := by
    rw [raise_dep, returnToOpen_eq, beaconedChange_dep, setDep_dep]
  unfold abandonCall
  dsimp only
  rw [settleReturn_dep, hd]

/-- A call abandoned is a beaconed change (R138, R150). -/
theorem abandonCall_beacon (c : AbandonCause) (s : State) : BeaconSent s (abandonCall c s) := by
  refine beaconSent_of (u := setDep (reopenedDep s) s) rfl rfl ?_ ?_ ⟨?_, ?_, ?_, ?_, ?_⟩
  · rw [abandonCall, settleReturn_link, raise_link, returnToOpen_eq]
  · rw [abandonCall, settleReturn_dir, raise_dir, returnToOpen_eq]
  · exact abandonCall_straps s c
  · exact abandonCall_docking s c
  · refine contentNow_congr (abandonCall_docking s c) ?_ ?_ ?_ ?_ ?_ (abandonCall_urgency s c)
    · rw [abandonCall_dep]; rfl
    · rw [abandonCall_dep]; rfl
    · rw [abandonCall_deck]; rfl
    · rw [abandonCall_lane]; rfl
    · rw [abandonCall_store]; rfl
  · rw [abandonCall_time]; rfl
  · exact abandonCall_urgency s c

/-- What a call abandoned leaves as it is (R150). -/
theorem abandonCall_changes (c : AbandonCause) (s : State) : abandonCall c s = { s with
    dep := (abandonCall c s).dep, notes := (abandonCall c s).notes, link := (abandonCall c s).link
    dir := (abandonCall c s).dir } := by
  apply state_eq <;> simp

theorem hasFlag_abandonCall (c : AbandonCause) (s : State) :
    hasFlag (abandonCall c s).notes.summary .callAbandoned = true := hasFlag_settleReturn (hasFlag_raise _ _ _ _)

/-- Settles O60: what a start and an abandoned call do is read off `startCall` and `abandonCall`, and the rest is what
the lines' commands say by definition. -/
theorem linesStartAndAbandonCalls : Obligations.LinesStartAndAbandonCalls := by
  unfold Obligations.LinesStartAndAbandonCalls
  refine ⟨fun s hr hp hd hrun hroom hline => ?_, fun s hr hp hd hno => ?_, fun s hr hp hd => ?_,
    fun s hr hp hc hw => ?_, fun p shutter s => ⟨?_, rfl⟩⟩
  · have hcan : canStart (setShutter true s) = true := canStart_iff.2 ⟨hrun, hroom, hline⟩
    refine ⟨startCall (setShutter true s), ?_, ?_, ?_, ?_, ?_⟩
    · rw [exec_shutterClosed hr hp hd, autoStart, if_pos hcan]
    · rw [startCall_pins]; rfl
    · rw [startCall_dep]; rfl
    · exact call_mem_startCall (s := setShutter true s) hroom
    · apply state_eq <;> simp [startCall_notes]
  · have hcan : canStart (setShutter true s) = false := by
      rw [Bool.eq_false_iff, Ne, canStart_iff]
      rintro ⟨h1, h2, h3⟩
      rcases hno with h | h | ⟨h, hm⟩
      · exact h h1
      · exact absurd (h2.symm.trans h) (by decide)
      · rcases h3 with h3 | h3
        · exact h h3
        · exact absurd h3 (Nat.pos_iff_ne_zero.1 hm)
    rw [exec_shutterClosed hr hp hd, autoStart, if_neg (by simp [hcan])]
    refine congrArg Host.Outcome.next ?_
    by_cases hmem : StartCause.shutter ∈ s.dep.startPending
    · rw [if_pos (by simpa using hmem), if_pos hmem]; rfl
    · rw [if_neg (by simpa using hmem), if_neg hmem]; rfl
  · have hexec : exec .shutterOpened s = .next (abandonCall .shutter (dropShutter (setShutter false s))) := by
      rw [exec_shutterOpened hr hp]
      rcases hd with h | h <;> rw [h]
    have hpins := abandonCall_pins (dropShutter (setShutter false s)) .shutter
    have hdep := abandonCall_dep .shutter (dropShutter (setShutter false s))
    have hstore := abandonCall_store (dropShutter (setShutter false s)) .shutter
    have hflag := hasFlag_abandonCall .shutter (dropShutter (setShutter false s))
    have hbeacon := (abandonCall_beacon .shutter (dropShutter (setShutter false s))).seenFrom (s := s) rfl rfl
    have hkeep := abandonCall_changes .shutter (dropShutter (setShutter false s))
    generalize abandonCall .shutter (dropShutter (setShutter false s)) = t at *
    exact ⟨t, hexec, hpins, hdep, hflag, hstore, hbeacon, hkeep.trans (by rw [hpins]; rfl)⟩
  · rw [exec_shutterOpened hr hp]
    refine congrArg Host.Outcome.next ?_
    cases hs : s.dep.state with
    | none => rfl
    | some x =>
      cases x with
      | openBay => rfl
      | calling => exact absurd hs hc
      | waiting => exact absurd hs hw
      | closed => rfl
  · refine congrArg Host.Outcome.next ?_
    simp only [State.powerOn, Link.initial, strapValid_ite]
    rfl

end Sys2Proof.Machine
end

section
/-! PROOF. LOAD and UNLOAD BACK (O29, O31): both recompute U and work READY out after they have moved a pallet. -/

namespace Sys2Proof.Machine

variable {s t x : State}

/-- A request accepted leaves the state its body made, with the reply on the port. -/
theorem request_accepted {h : ReqHead} {r : Request} {body : State → Result} {rd : ReplyData} (ht : Taken h s)
    (hb : body s = accept rd x) (hp : x.port = s.port) :
    request h r body s = { x with port := replyPort h (.ok r rd) s x } := by
  rw [request_taken r body ht, hb]
  simp only [accept, sendReply, answerOf, replyPort, hp]

/-! ## U recomputed -/

/-- The state with U worked out (R57). -/
def withUrgency (s : State) : State := { s with urgency := urgencyNow s }

theorem recomputeUrgency_eq (s : State) : recomputeUrgency s =
    if significant (urgencyNow s) s.dir.last.urgency then beaconedChange (withUrgency s) else withUrgency s := rfl

theorem recomputeUrgency_urgency (s : State) : (recomputeUrgency s).urgency = urgencyNow s := by
  rw [recomputeUrgency_eq]
  split
  · rw [beaconedChange_urgency]; rfl
  · rfl

/-- U recomputed is a beaconed change where U moved significantly (R58), in the words of the statements. -/
theorem recomputeUrgency_beacon (hl : s.link = x.link) (hd : s.dir = x.dir) (tl : t.link = (recomputeUrgency x).link)
    (td : t.dir = (recomputeUrgency x).dir) (h : BeaconAlike (withUrgency x) t) :
    BeaconIf (significant t.urgency s.dir.last.urgency) s t := by
  have hu : t.urgency = urgencyNow x := h.urgency
  rw [recomputeUrgency_eq] at tl td
  rw [BeaconIf, hu, hd]
  split
  next hsig =>
    rw [if_pos hsig] at tl td
    exact beaconSent_of (u := withUrgency x) hl hd tl td h
  next hsig =>
    rw [if_neg hsig] at tl td
    exact ⟨tl.trans hl.symm, td.trans rfl⟩

/-- A state whose beaconed values are those of `x` but for U, which is worked out. -/
theorem beaconAlike_withUrgency (h1 : t.straps = x.straps) (h2 : t.docking = x.docking)
    (h3 : t.dep.state = x.dep.state) (h4 : t.dep.halt = x.dep.halt) (h5 : t.deck = x.deck) (h6 : t.lane = x.lane)
    (h7 : t.store = x.store) (h8 : t.time = x.time) (h9 : t.urgency = urgencyNow x) :
    BeaconAlike (withUrgency x) t :=
  ⟨h1, h2, contentNow_congr h2 h3 h4 (congrArg outboundCount h5) (congrArg List.length h6) (congrArg (fun b => b.holds) h7) h9,
    congrArg (fun b => b.m) h8, h9⟩

/-! ## UNLOAD BACK -/

/-- The deck and the lane after an UNLOAD BACK (R9, R39). -/
def unloaded (e : DeckEntry) (s : State) : State :=
  { s with lane := s.lane ++ [unloadedEntry e], deck := { s.deck with entries := s.deck.entries.dropLast } }

/-- An UNLOAD BACK recomputes U, and the bay is not READY with a pallet in the lane. -/
theorem takeUnload_eq (e : DeckEntry) (s : State) : takeUnload e s =
    setDep { s.dep with ready := false, autoWas := false } (recomputeUrgency (unloaded e s)) := by
  have hlane : (recomputeUrgency (unloaded e s)).lane ≠ [] := by simp [unloaded]
  have hdep : (recomputeUrgency (unloaded e s)).dep = s.dep := by rw [recomputeUrgency_dep]; rfl
  rw [← hdep]
  exact settle_not_ready (readyNow_of_lane hlane)

theorem unloadBody_outbound {e : DeckEntry} (he : s.deck.entries.getLast? = some e) (ht : e.tag = .outbound) :
    unloadBody s = accept (.unloadBack e.label (s.deck.entries.length - 1) (takeUnload e s).urgency)
      (takeUnload e s) := by
  have hdeck : (takeUnload e s).deck.entries.length = s.deck.entries.length - 1 := by
    rw [takeUnload_eq, setDep_deck, recomputeUrgency_deck]
    exact List.length_dropLast
  simp only [unloadBody, he, ht, if_true, hdeck]

theorem unloadBody_empty (h : outboundCount s.deck = 0) : unloadBody s = refuse .deckEmpty (recordFault .underflow s) := by
  unfold unloadBody
  split
  · rfl
  next e he =>
    have ht := outboundCount_eq_zero.1 h e (List.mem_of_getLast? he)
    rw [if_neg (by rw [ht]; decide)]

/-- Settles O31: the rear entry's tag decides between the move and DECK EMPTY; U is recomputed before READY is worked
out. -/
theorem unloadBackReturnsTheRearPallet : Obligations.UnloadBackReturnsTheRearPallet := by
  unfold Obligations.UnloadBackReturnsTheRearPallet
  refine ⟨fun h s e rank ht he htag hrank => ?_, fun h s ht hcount => ?_⟩
  · have hu : urgencyNow (unloaded e s) = urgencyNow (takeUnload e s) := by
      simp only [urgencyNow, takeUnload_eq, setDep_docking, setDep_time, setDep_deck, recomputeUrgency_docking,
        recomputeUrgency_time, recomputeUrgency_deck]
    have hback := takeUnload_eq e s
    have hport : (takeUnload e s).port = s.port := by rw [hback]; exact recomputeUrgency_port _
    have hexec := request_accepted (r := .unloadBack) ht (unloadBody_outbound he htag) hport
    refine ⟨_, congrArg Host.Outcome.next hexec, ?_⟩
    generalize takeUnload e s = y at *
    subst hback
    refine ⟨?_, ?_, ?_, ?_, rfl, rfl, ?_⟩
    · exact recomputeUrgency_deck _
    · exact (recomputeUrgency_lane _).trans (by simp [unloaded, unloadedEntry, hrank])
    · exact (recomputeUrgency_urgency _).trans hu
    · refine recomputeUrgency_beacon (x := unloaded e s) rfl rfl rfl rfl (beaconAlike_withUrgency
        (recomputeUrgency_straps _) (recomputeUrgency_docking _) rfl rfl (recomputeUrgency_deck _)
        (recomputeUrgency_lane _) (recomputeUrgency_store _) (recomputeUrgency_time _) (recomputeUrgency_urgency _))
    · apply state_eq <;> simp [unloaded]
  · refine ⟨_, congrArg Host.Outcome.next (request_taken .unloadBack unloadBody ht), ?_⟩
    rw [unloadBody_empty hcount]
    exact ⟨rfl, rfl, rfl, rfl⟩

/-! ## LOAD -/

/-- The deck and the lane after a LOAD (R6, R38). -/
def loaded (e : LaneEntry) (label : Nat) (s : State) : State :=
  { s with lane := s.lane.filter (fun x => x.label != label)
           deck := { s.deck with entries := s.deck.entries ++ [loadedEntry e] } }

theorem outboundCount_loaded (e : LaneEntry) (label : Nat) (s : State) :
    outboundCount (loaded e label s).deck = outboundCount s.deck + 1 := by
  simp [outboundCount, loaded, loadedEntry]

theorem takeLoad_eq (e : LaneEntry) (label : Nat) (s : State) :
    takeLoad label { s.deck with entries := s.deck.entries ++ [loadedEntry e] } s
      = settle (recomputeUrgency (loaded e label s)) := rfl

/-- A LOAD that passes R38's tests moves its pallet. -/
theorem loadBody_push {label : Nat} {d : Docking} {e : LaneEntry} (hd : s.docking = some d)
    (he : s.lane.find? (fun x => x.label == label) = some e) (hin : inboundCount s.deck = 0)
    (hc : compareRank s.deck e.rank ≠ .behind) (hl : s.deck.entries.length < d.capacity) :
    loadBody label s = accept (.load (compareRank s.deck e.rank) (s.deck.entries.length + 1)
        (urgencyNow (loaded e label s))) (settle (recomputeUrgency (loaded e label s))) := by
  simp only [loadBody, he, hin, hc, hd]
  rcases pushDeck_cases d.capacity (loadedEntry e) s.deck with ⟨⟨x, hx, hne⟩, -⟩ | ⟨-, hfull, -⟩ | ⟨-, -, h⟩
  · exact absurd (inboundCount_eq_zero.1 hin x hx) hne
  · omega
  · simp [h, takeLoad_eq, recomputeUrgency_urgency]

/-- Settles O29: U is recomputed on the new deck, then READY is worked out, which can start no call. -/
theorem loadMovesAPalletOntoTheDeck : Obligations.LoadMovesAPalletOntoTheDeck := by
  unfold Obligations.LoadMovesAPalletOntoTheDeck
  intro h label s d e ht hd he hin hc hl hauto
  have hu : urgencyNow (loaded e label s) = urgencyFor s.time.m d.expected (outboundCount s.deck + 1) d.handling := by
    rw [← outboundCount_loaded e label s, urgencyNow, show (loaded e label s).docking = some d from hd]
    rfl
  have hbody := loadBody_push hd he hin hc hl
  rw [settle_eq (s := recomputeUrgency (loaded e label s)) (by simpa [NoAutoclose, loaded] using hauto)] at hbody
  refine ⟨_, congrArg Host.Outcome.next (request_accepted (r := .load) ht hbody (recomputeUrgency_port _)), ?_⟩
  have hlabel : e.label = label := by simpa using List.find?_some he
  have hdep : (recomputeUrgency (loaded e label s)).dep = s.dep := recomputeUrgency_dep _
  have hstate : (recomputeUrgency (loaded e label s)).dep.state = s.dep.state := by rw [hdep]
  have hhalt : (recomputeUrgency (loaded e label s)).dep.halt = s.dep.halt := by rw [hdep]
  have hready : (recomputeUrgency (loaded e label s)).dep.ready = s.dep.ready := by rw [hdep]
  have hnotes : (recomputeUrgency (loaded e label s)).notes = s.notes := recomputeUrgency_notes _
  refine ⟨?_, recomputeUrgency_lane _, (recomputeUrgency_urgency _).trans hu, ?_, ⟨rfl, rfl, ?_⟩, ?_, ?_, ?_⟩
  · exact (recomputeUrgency_deck _).trans (by simp [loaded, loadedEntry, hlabel])
  · refine recomputeUrgency_beacon (x := loaded e label s) rfl rfl rfl rfl (beaconAlike_withUrgency
      (recomputeUrgency_straps _) (recomputeUrgency_docking _) hstate hhalt (recomputeUrgency_deck _)
      (recomputeUrgency_lane _) (recomputeUrgency_store _) (recomputeUrgency_time _) (recomputeUrgency_urgency _))
  · dsimp only
    rw [raise_notes_congr _ _ _ hnotes (recomputeUrgency_time _), hnotes, hready]
    rfl
  · dsimp only
    rw [hdep]
  · dsimp only
    rw [recomputeUrgency_urgency]
    rfl
  · apply state_eq <;> simp [loaded]

end Sys2Proof.Machine
end

section
/-! PROOF. TIP OFF to the lane (O26). -/

namespace Sys2Proof.Machine

variable {s t x y : State}

/-! ## The deck and the beacon after a pallet is taken off -/

/-- The exchange of R10 and the pop of R9 in one: the rear entry takes the pallet's place. -/
theorem exchangeRear_dropLast {es : List DeckEntry} {k : Nat} (hk : k < es.length) :
    (exchangeRear k es).dropLast = (match es.getLast? with
      | some rear => (es.set (es.length - 1 - k) rear).dropLast
      | none => []) := by
  have hx : exchangeRear k es = (es.set (es.length - 1) es[es.length - 1 - k]).set (es.length - 1 - k)
      es[es.length - 1] := by
    simp [exchangeRear, List.getElem?_eq_getElem (show es.length - 1 < es.length by omega),
      List.getElem?_eq_getElem (show es.length - 1 - k < es.length by omega)]
  have hlast : es.getLast? = some es[es.length - 1] := by
    rw [List.getLast?_eq_getElem?, List.getElem?_eq_getElem]
  rw [hx, hlast]
  refine List.ext_getElem (by simp) fun i hi _ => ?_
  have hi : es.length - 1 ≠ i := by simp at hi; omega
  simp [List.getElem_set, hi]

/-- An INBOUND entry taken from the deck lowers the INBOUND count (R5). -/
theorem inboundCount_of_perm {d d' : Deck} {e : DeckEntry} (h : (e :: d'.entries).Perm d.entries)
    (ht : e.tag = .inbound) : inboundCount d = inboundCount d' + 1 := by
  have h := (h.filter (fun x => x.tag == .inbound)).length_eq
  simpa [inboundCount, ht] using h.symm

theorem outboundCount_of_perm {d d' : Deck} {e : DeckEntry} (h : (e :: d'.entries).Perm d.entries)
    (ht : e.tag = .inbound) : outboundCount d' = outboundCount d := by
  have h := (h.filter (fun x => x.tag == .outbound)).length_eq
  simpa [outboundCount, ht] using h

/-- The pallet taken off changes the deck and the notices alone. -/
theorem takeOff_eq (p : Tipped) (s : State) :
    takeOff p s = { s with deck := (takeOff p s).deck, notes := (takeOff p s).notes } := by
  obtain ⟨label, depot, mass, depth⟩ := p
  cases depth with
  | none => rfl
  | some k =>
    unfold takeOff
    dsimp only
    split <;> rfl

/-- Beaconed contents of one docking record and departure state differ in the free spaces and U alone, so only the free
spaces are handed over (R85). -/
theorem newsOf_free (hd : y.docking = x.docking) (hs : y.dep.state = x.dep.state) (last : BeaconContent) :
    newsOf (contentNow y) (contentNow x) last =
      ((contentNow x).free != (contentNow y).free && (contentNow x).free != last.free) := by
  unfold newsOf contentNow
  rw [hd, hs]
  cases x.docking <;> simp

/-- Free spaces that changed are handed over, in the words of the statements (R85). -/
theorem announce_beacon (hd : y.docking = x.docking) (hs : y.dep.state = x.dep.state)
    (hy : contentNow y = contentNow s) (hl : s.link = x.link) (hdir : s.dir = x.dir)
    (tl : t.link = (announce y x).link) (td : t.dir = (announce y x).dir) (h : BeaconAlike x t) :
    BeaconIf ((contentNow t).free != (contentNow s).free && (contentNow t).free != s.dir.last.free) s t := by
  rw [announce, newsOf_free hd hs, hy] at tl td
  rw [BeaconIf, h.content, hdir]
  split
  next hnews =>
    rw [if_pos hnews] at tl td
    exact beaconSent_of hl hdir tl td h
  next hnews =>
    rw [if_neg hnews] at tl td
    exact ⟨tl.trans hl.symm, td⟩

/-! ## A run that goes on -/

/-- The run's remaining count, where it has one, does not end by the next pallet (R32). -/
abbrev CountGoesOn (s : State) : Prop :=
  s.run.mode = some .counted → s.run.remaining ≠ some 1 ∧ s.run.remaining ≠ some 0

/-- A pallet counted in a run that goes on changes the counts alone (R32). -/
theorem countTip_goesOn {p : Tipped} (hr : CountGoesOn s) (he : p.depth.isSome = true → inboundCount s.deck ≠ 0) :
    countTip p s = tipCounted s := by
  have hcount : ¬ ((tippedRun s.run).mode = some .counted ∧ (tippedRun s.run).remaining = some 0) := by
    rintro ⟨hm, h0⟩
    have hm : s.run.mode = some .counted := hm
    obtain ⟨h1, h2⟩ := hr hm
    simp only [tippedRun, hm, if_true, Option.map_eq_some_iff] at h0
    obtain ⟨n, hn, hn0⟩ := h0
    rw [hn] at h1 h2
    simp only [ne_eq, Option.some.injEq] at h1 h2
    omega
  have hempty : tipEmptied p s = false := by
    rw [tipEmptied, Bool.and_eq_false_imp]
    simpa using he
  rw [countTip_eq, if_neg hcount, hempty]
  rfl

/-! ## The route to the lane -/

/-- The lane entry made of a tipped pallet (R31). -/
def tippedEntry (p : Tipped) (rank : Nat) : LaneEntry :=
  { label := p.label, depot := p.depot, rank := rank, mass := p.mass, origin := 0, unannounced := false, owed := false }

/-- The state with a tipped pallet at the end of the lane (R31). -/
def laned (p : Tipped) (rank : Nat) (s : State) : State := { s with lane := s.lane ++ [tippedEntry p rank] }

theorem routeToLane_eq (p : Tipped) (r : Nat) (s : State) : routeToLane p r s =
    setDep { s.dep with ready := false, autoWas := false } (announce s (laned p r s)) := by
  have hlane : (announce s (laned p r s)).lane ≠ [] := by simp [laned]
  have hdep : (announce s (laned p r s)).dep = s.dep := announce_dep _ _
  rw [← hdep]
  exact settle_not_ready (readyNow_of_lane hlane)

/-- A TIP OFF whose pallet routes to the lane, in a run that goes on: what is taken off decides the deck and the
notices, and the rest is one for declared and undeclared pallets. -/
theorem tipOff_to_lane {h : ReqHead} {label : Nat} {depot mass : Option Nat} {p : Tipped} {rank : Nat} (ht : Taken h s)
    (hrun : s.run.mode ≠ none) (hr : CountGoesOn s) (hbody : tipOffBody label depot mass s = tipPallet p s)
    (hrank : rankOf (dropList s) p.depot = some rank) (hadm : admission p.mass s = .admitted)
    (hin : p.depth.isSome = true → inboundCount (takeOff p s).deck ≠ 0)
    (hout : outboundCount (takeOff p s).deck = outboundCount s.deck) :
    ∃ t, exec (.tipOff h label depot mass) s = .next t
      ∧ t.lane = s.lane ++ [tippedEntry p rank] ∧ t.deck = (takeOff p s).deck ∧ t.run = tippedRun s.run
      ∧ t.dep = { s.dep with ready := false, autoWas := false } ∧ t.notes = (takeOff p s).notes
      ∧ BeaconIf ((contentNow t).free != (contentNow s).free && (contentNow t).free != s.dir.last.free) s t
      ∧ t.port = replyPort h (.ok .tipOff (.tipOff true none true t.run.remaining t.run.tipped)) s t
      ∧ t = { s with
          deck := t.deck, lane := t.lane, run := t.run, dep := t.dep, notes := t.notes, link := t.link,
          dir := t.dir, port := t.port } := by
  have hoff := takeOff_eq p s
  have hroute := routeToLane_eq p rank (takeOff p s)
  have hpallet : tipPallet p s =
      accept (.tipOff true none (countTip p (routeToLane p rank (takeOff p s))).run.mode.isSome
        (countTip p (routeToLane p rank (takeOff p s))).run.remaining
        (countTip p (routeToLane p rank (takeOff p s))).run.tipped) (countTip p (routeToLane p rank (takeOff p s))) := by
    simp only [tipPallet, laneRank, hrank, hadm, if_true]
  generalize takeOff p s = y at *
  generalize y.deck = deck, y.notes = notes at *
  subst hoff
  have hzrun : (routeToLane p rank { s with deck := deck, notes := notes }).run = s.run := by
    rw [hroute]; exact announce_run _ _
  have hzdeck : (routeToLane p rank { s with deck := deck, notes := notes }).deck = deck := by
    rw [hroute]; exact announce_deck _ _
  rw [countTip_goesOn (by rw [CountGoesOn, hzrun]; exact hr) (by rw [hzdeck]; exact hin), hroute] at hpallet
  have hmode : s.run.mode.isSome = true := Option.isSome_iff_ne_none.2 hrun
  refine ⟨_, congrArg Host.Outcome.next
    (request_accepted (r := .tipOff) ht (hbody.trans hpallet) (announce_port _ _)), ?_⟩
  have hdock : (announce { s with deck := deck, notes := notes }
      (laned p rank { s with deck := deck, notes := notes })).docking = s.docking := announce_docking _ _
  refine ⟨announce_lane _ _, announce_deck _ _, congrArg tippedRun (announce_run _ _), rfl, announce_notes _ _,
    ?_, ?_, ?_⟩
  · refine announce_beacon (y := { s with deck := deck, notes := notes })
      (x := laned p rank { s with deck := deck, notes := notes }) rfl rfl ?_ rfl rfl rfl rfl ⟨?_, hdock, ?_, ?_, ?_⟩
    · exact contentNow_congr rfl rfl rfl hout rfl rfl rfl
    · exact announce_straps _ _
    · refine contentNow_congr hdock rfl rfl ?_ ?_ ?_ ?_
      · exact congrArg outboundCount (announce_deck _ _)
      · exact congrArg List.length (announce_lane _ _)
      · exact congrArg (fun b => b.holds) (announce_store (laned p rank { s with deck := deck, notes := notes }) _)
      · exact announce_urgency _ _
    · exact congrArg (fun b => b.m) (announce_time (laned p rank { s with deck := deck, notes := notes }) _)
    · exact announce_urgency _ _
  · have hz : (tipCounted (setDep { s.dep with ready := false, autoWas := false }
        (announce { s with deck := deck, notes := notes } (laned p rank { s with deck := deck, notes := notes })))).run.mode
          = s.run.mode := congrArg (fun b => b.mode) (announce_run (laned p rank { s with deck := deck, notes := notes }) _)
    dsimp only
    rw [hz, hmode]
    rfl
  · apply state_eq <;> simp [laned, tipCounted]

/-- Settles O26: both kinds of pallet go through the one route to the lane. -/
theorem tipOffMovesAPalletToTheLane : Obligations.TipOffMovesAPalletToTheLane := by
  unfold Obligations.TipOffMovesAPalletToTheLane
  refine ⟨fun h label depot mass s k rank e ht hl hdepot hmass hrun hr hx htag hk hin hrank hadm => ?_,
    fun h label depot mass rank s ht hl hdepot hmass hrun hr hknown hrank hadm => ?_⟩
  · obtain ⟨hlabel, hlt, he⟩ := examineLabel_some hx
    have hbody : tipOffBody label depot mass s =
        tipPallet { label := label, depot := e.depot, mass := e.mass, depth := some k } s := by
      have hbad : depot.any (fun d => !depotOk d) = false := by
        cases depot <;> simp_all
      have hmassb : (mass == some 0) = false := by simpa using hmass
      simp [tipOffBody, hx, hlabel, hl, hbad, hmassb, hrun, htag, Nat.not_le.2 hk]
    have hperm : (e :: (Deck.entries { s.deck with entries := (exchangeRear k s.deck.entries).dropLast })).Perm
        s.deck.entries := exchangeRear_perm hlt he
    have hdeck := exchangeRear_dropLast hlt
    have hoffDeck : (takeOff { label := label, depot := e.depot, mass := e.mass, depth := some k } s).deck =
        { s.deck with entries := (exchangeRear k s.deck.entries).dropLast } := by
      unfold takeOff
      dsimp only
      split <;> rfl
    have hoffNotes : (takeOff { label := label, depot := e.depot, mass := e.mass, depth := some k } s).notes =
        if k = 0 then s.notes else (raise .orderCorrected label k s).notes := by
      unfold takeOff
      dsimp only
      split
      · rfl
      · exact raise_notes_congr _ _ _ rfl rfl
    have hinAfter := inboundCount_of_perm hperm htag
    have houtAfter := outboundCount_of_perm hperm htag
    rw [← hoffDeck] at hinAfter houtAfter
    obtain ⟨t, hexec, h1, h2, h3, h4, h5, h6, h7, h8⟩ :=
      tipOff_to_lane (rank := rank) ht hrun hr hbody hrank hadm (fun _ => by omega) houtAfter
    rw [hoffDeck] at h2
    exact ⟨t, hexec, h1, by rw [h2], by rw [h2]; exact hdeck, h3, h4, h5.trans hoffNotes, h6, h7, h8⟩
  · have hbody : tipOffBody label (some depot) (some mass) s =
        tipPallet { label := label, depot := depot, mass := min mass 120, depth := none } s := by
      simp only [labelKnown, Bool.or_eq_false_iff] at hknown
      obtain ⟨⟨⟨hdeck, hlane⟩, hholds⟩, htable⟩ := hknown
      simp [tipOffBody, examineLabel_none.2 hdeck, hl, hdepot, hmass, hrun, hlane, hholds, htable, clampMass,
        Config.greatestMass]
    obtain ⟨t, hexec, h1, h2, h3, h4, h5, h6, h7, h8⟩ := tipOff_to_lane (rank := rank) ht hrun hr hbody hrank hadm
      nofun rfl
    exact ⟨t, hexec, h1, h2, h3, h4, h5, h6, h7, h8.trans (by rw [h2]; rfl)⟩

end Sys2Proof.Machine
end

section
/-! PROOF. TIP OFF to the Transfer Table, with target selection (O27). -/

namespace Sys2Proof.Machine

variable {s t u : State}

/-! ## The choice of a candidate -/

theorem chooseBay_eq_none {ds : List DirEntry} : chooseBay ds = none ↔ ds = [] := by
  cases ds with
  | nil => simp [chooseBay]
  | cons d ds =>
    unfold chooseBay
    split <;> simp

/-- The order in which candidates are preferred (R94). -/
def NoLater (a b : DirEntry) : Prop := a.minutes < b.minutes ∨ (a.minutes = b.minutes ∧ a.bay ≤ b.bay)

theorem NoLater.refl (a : DirEntry) : NoLater a a := .inr ⟨rfl, le_rfl⟩

theorem NoLater.trans {a b c : DirEntry} (h1 : NoLater a b) (h2 : NoLater b c) : NoLater a c := by
  unfold NoLater at *
  omega

theorem better_cases (a b : DirEntry) :
    better a b = a ∧ NoLater a b ∨ better a b = b ∧ NoLater b a := by
  unfold better
  split
  next h => exact .inl ⟨rfl, h⟩
  next h => exact .inr ⟨rfl, by unfold NoLater; omega⟩

/-- The candidate chosen is one of them, and none is preferred to it (R94). -/
theorem chooseBay_some {ds : List DirEntry} {b : DirEntry} (h : chooseBay ds = some b) :
    b ∈ ds ∧ ∀ d ∈ ds, NoLater b d := by
  induction ds generalizing b with
  | nil => cases h
  | cons d ds ih =>
    unfold chooseBay at h
    split at h
    next hn =>
      rw [chooseBay_eq_none] at hn
      subst hn
      cases h
      simp [NoLater.refl]
    next c hc =>
      obtain ⟨hmem, hleast⟩ := ih hc
      cases h
      rcases better_cases d c with ⟨he, hle⟩ | ⟨he, hle⟩ <;> rw [he]
      · refine ⟨List.mem_cons_self, fun x hx => ?_⟩
        rcases List.mem_cons.1 hx with rfl | hx
        · exact NoLater.refl _
        · exact hle.trans (hleast x hx)
      · refine ⟨List.mem_cons_of_mem _ hmem, fun x hx => ?_⟩
        rcases List.mem_cons.1 hx with rfl | hx
        · exact hle
        · exact hleast x hx

/-! ## A new entry and its selection -/

/-- The state with an entry at the end of the Transfer Table. -/
def tabled (e : TransferEntry) (s : State) : State := setTable (s.table ++ [e]) s

theorem entryOf_tabled {e : TransferEntry} (h : inTable s e.label = false) : entryOf (tabled e s) e.label = some e := by
  have hno : s.table.find? (fun x => x.label == e.label) = none := by
    simpa [inTable, List.find?_eq_none] using h
  simp [entryOf, tabled, setTable, hno]

theorem setTransferState_tabled {e : TransferEntry} (h : inTable s e.label = false) (st : TransferState) :
    setTransferState e.label st (tabled e s) = tabled { e with state := st } s := by
  have hmap : s.table.map (fun x => if x.label = e.label then { x with state := st } else x) = s.table := by
    refine (List.map_congr_left fun x hx => ?_).trans (List.map_id _)
    have hne : x.label ≠ e.label := by
      simp only [inTable, List.any_eq_false, beq_iff_eq] at h
      exact h x hx
    simp [hne]
  simp only [setTransferState, tabled, setTable, List.map_append, hmap]
  simp

/-- An entry that is PARKED takes no place at any candidate (R93). -/
theorem candidate_tabled {e x : TransferEntry} (he : e.state = .parked) (d : DirEntry) :
    candidate (tabled e s) x d = candidate s x d := by
  have hp : pledged (tabled e s) d.bay = pledged s d.bay := by
    simp [pledged, tabled, setTable, queuedTo, offeredTo, he]
  simp only [candidate, hp]
  rfl

/-- A new entry is QUEUED toward the candidate chosen, and handed to the Offer Assembler (R94). -/
theorem selectTarget_chosen {e : TransferEntry} {d : DirEntry} (h : inTable s e.label = false) (he : e.state = .parked)
    (hd : chooseBay (s.dir.entries.filter (candidate s e)) = some d) : selectTarget true e.label (tabled e s) =
      tidyGroups (joinGroup e.label d.bay (tabled { e with state := .queued d.bay } s)) := by
  have hc : chooseBay ((tabled e s).dir.entries.filter (candidate (tabled e s) e)) = some d := by
    rw [show candidate (tabled e s) e = candidate s e from funext fun d => candidate_tabled he d]
    exact hd
  simp only [selectTarget, entryOf_tabled h, hc, setTransferState_tabled h]

/-- A new entry without a candidate stays PARKED, with the notice (R98). -/
theorem selectTarget_parked {e : TransferEntry} (h : inTable s e.label = false) (he : e.state = .parked)
    (hd : chooseBay (s.dir.entries.filter (candidate s e)) = none) :
    selectTarget true e.label (tabled e s) = raise .parked e.label e.depot (tabled e s) := by
  have hc : chooseBay ((tabled e s).dir.entries.filter (candidate (tabled e s) e)) = none := by
    rw [show candidate (tabled e s) e = candidate s e from funext fun d => candidate_tabled he d]
    exact hd
  simp only [selectTarget, entryOf_tabled h, hc, setTransferState_tabled h, ← he, if_true]

/-- What changes in the groups leaves everything but the Offer Assembler and the transmit queue. -/
theorem eq_of_keepGroups (h : keepGroups t = keepGroups u) :
    t = { u with asm := t.asm, link := { u.link with queue := t.link.queue } } := by
  have hlink : { t.link with queue := [] } = { u.link with queue := [] } := congrArg State.link h
  apply state_eq
  case h11 =>
    calc t.link = { ({ t.link with queue := [] } : Link) with queue := t.link.queue } := rfl
      _ = _ := by rw [hlink]
  case h14 => rfl
  exacts [pins_of_keepGroups h, straps_of_keepGroups h, port_of_keepGroups h, notes_of_keepGroups h,
    docking_of_keepGroups h, deck_of_keepGroups h, lane_of_keepGroups h, run_of_keepGroups h, time_of_keepGroups h,
    urgency_of_keepGroups h, dir_of_keepGroups h, table_of_keepGroups h, store_of_keepGroups h, dep_of_keepGroups h,
    pending_of_keepGroups h]

/-! ## The route to the table -/

/-- The state with the rear pallet taken off (R9). -/
def popped (s : State) : State := { s with deck := { s.deck with entries := s.deck.entries.dropLast } }

/-- The transfer entry made of a tipped deck entry (R31). -/
def transferOf (label : Nat) (e : DeckEntry) : TransferEntry :=
  { label := label, depot := e.depot, mass := e.mass, state := .parked, astray := false, declined := [] }

/-- A TIP OFF of the rear pallet for another depot, in a run that goes on: the pallet leaves the deck, joins the table
and is selected at once (R31, R32). -/
theorem exec_tipOff_to_table {h : ReqHead} {label : Nat} {e : DeckEntry} (ht : Taken h s) (hl : label ≠ 0)
    (hrun : s.run.mode ≠ none) (hr : CountGoesOn s) (hx : examineLabel s.deck label = some (0, e))
    (htag : e.tag = .inbound) (hin : 1 < inboundCount s.deck) (hrank : rankOf (dropList s) e.depot = none)
    (hroom : s.table.length < 96) (hz : selectTarget true label (tabled (transferOf label e) (popped s)) = u)
    {target : Option Nat} (htarget : (entryOf u label).bind (·.state.target) = target) :
    exec (.tipOff h label none none) s = .next { tipCounted u with
      port := replyPort h (.ok .tipOff (.tipOff false target true
        (tippedRun s.run).remaining (tippedRun s.run).tipped)) s u } := by
  obtain ⟨hlabel, hlt, he⟩ := examineLabel_some hx
  have hrunU : u.run = s.run := by rw [← hz]; exact selectTarget_run _ _ _
  have hdeckU : u.deck = (popped s).deck := by rw [← hz]; exact selectTarget_deck _ _ _
  have hportU : u.port = s.port := by rw [← hz]; exact selectTarget_port _ _ _
  have hoff : takeOff ⟨e.label, e.depot, e.mass, some 0⟩ s = popped s := by
    simp only [takeOff, exchangeRear_zero, if_true, popped]
  have hroute : routeToTable ⟨e.label, e.depot, e.mass, some 0⟩ (popped s) = u := by
    rw [← hz, ← hlabel]
    rfl
  have hperm : (e :: (popped s).deck.entries).Perm s.deck.entries := by
    have := exchangeRear_perm hlt he
    rwa [exchangeRear_zero] at this
  have hleft := inboundCount_of_perm hperm htag
  have hcount : countTip ⟨e.label, e.depot, e.mass, some 0⟩ u = tipCounted u := by
    refine countTip_goesOn (by rw [CountGoesOn, hrunU]; exact hr) fun _ => ?_
    rw [hdeckU]
    omega
  have hmode : (tipCounted u).run.mode.isSome = true := by
    change u.run.mode.isSome = true
    rw [hrunU]
    exact Option.isSome_iff_ne_none.2 hrun
  have hbody : tipOffBody label none none s = accept (.tipOff false target true
      (tippedRun s.run).remaining (tippedRun s.run).tipped) (tipCounted u) := by
    have hcounts : (tipCounted u).run = tippedRun s.run := congrArg tippedRun hrunU
    have hpallet : tipPallet ⟨e.label, e.depot, e.mass, some 0⟩ s =
        accept (.tipOff false ((entryOf (tipCounted u) e.label).bind (·.state.target)) (tipCounted u).run.mode.isSome
          (tipCounted u).run.remaining (tipCounted u).run.tipped) (tipCounted u) := by
      simp only [tipPallet, laneRank, hrank, Nat.not_le.2 hroom, hoff, hroute, hcount, Config.tableSlots, if_false]
    rw [hmode, hcounts, hlabel, show entryOf (tipCounted u) label = entryOf u label from rfl, htarget] at hpallet
    refine Eq.trans ?_ hpallet
    simp [tipOffBody, hx, hl, hrun, htag, hlabel]
  exact congrArg Host.Outcome.next (request_accepted (r := .tipOff) ht hbody hportU)

/-- Settles O27: the candidates decide between PARKED and QUEUED toward the one chosen. -/
theorem tipOffOffersAPalletElsewhere : Obligations.TipOffOffersAPalletElsewhere := by
  unfold Obligations.TipOffOffersAPalletElsewhere
  refine ⟨fun h label s e ht hl hrun hr hx htag hin hrank hroom hno hcand => ?_,
    fun h label s e ht hl hrun hr hx htag hin hrank hroom hno hcand => ?_⟩
  · have hchoose : chooseBay ((popped s).dir.entries.filter (candidate (popped s) (transferOf label e))) = none := by
      rw [chooseBay_eq_none, List.filter_eq_nil_iff]
      exact fun d hd => (Bool.eq_false_iff.1 (hcand d hd) :)
    have hz : selectTarget true label (tabled (transferOf label e) (popped s)) =
        raise .parked label e.depot (tabled (transferOf label e) (popped s)) := selectTarget_parked hno rfl hchoose
    have hnotes : (raise .parked label e.depot (tabled (transferOf label e) (popped s))).notes =
        (raise .parked label e.depot s).notes := raise_notes_congr _ _ _ rfl rfl
    have hkeep : raise .parked label e.depot (tabled (transferOf label e) (popped s)) =
        { tabled (transferOf label e) (popped s) with
          notes := (raise .parked label e.depot (tabled (transferOf label e) (popped s))).notes } := by
      apply state_eq <;> simp
    rw [hnotes] at hkeep
    rw [hkeep] at hz
    exact ⟨_, exec_tipOff_to_table ht hl hrun hr hx htag hin hrank hroom hz
      (congrArg (·.bind (·.state.target)) (entryOf_tabled (s := popped s) (e := transferOf label e) hno) :),
      rfl, rfl, rfl, rfl, rfl, rfl⟩
  · obtain ⟨d, hd, hcd⟩ := hcand
    have hne : chooseBay ((popped s).dir.entries.filter (candidate (popped s) (transferOf label e))) ≠ none := by
      rw [Ne, chooseBay_eq_none, List.filter_eq_nil_iff]
      exact fun hn => hn d hd hcd
    obtain ⟨b, hb⟩ := Option.ne_none_iff_exists'.1 hne
    obtain ⟨hmem, hleast⟩ := chooseBay_some hb
    obtain ⟨hbdir, hbc⟩ := List.mem_filter.1 hmem
    have hz : selectTarget true label (tabled (transferOf label e) (popped s)) =
        tidyGroups (joinGroup label b.bay (tabled { transferOf label e with state := .queued b.bay } (popped s))) :=
      selectTarget_chosen hno rfl hb
    have hkeep := (tidyGroups_keep (joinGroup label b.bay
      (tabled { transferOf label e with state := .queued b.bay } (popped s)))).trans
        (congrArg keepQueue (joinGroup_keep label b.bay _) :)
    rw [eq_of_keepGroups hkeep] at hz
    refine ⟨_, exec_tipOff_to_table ht hl hrun hr hx htag hin hrank hroom hz (congrArg (·.bind (·.state.target))
      (entryOf_tabled (s := popped s) (e := { transferOf label e with state := .queued b.bay }) hno) :),
      ⟨b, hbdir, hbc, fun x hx hxc => hleast x (List.mem_filter.2 ⟨hx, hxc⟩), rfl, rfl⟩, rfl, rfl, rfl, rfl⟩

end Sys2Proof.Machine
end

section
/-! SUPPORT. Open groups followed until they stand closed in the send list, and why the closing of all open groups leaves
none (R101, R102). A tip run is active throughout: no empty final group follows a full one at once (R103). -/

namespace Sys2Proof.Machine

variable {s : State} {a : Assembler} {t n size : Nat} {Q : List Nat → Prop}

/-! ## A target's counter -/

theorem targetRecord_bay (a : Assembler) (t : Nat) : (targetRecord a t).bay = t := by
  unfold targetRecord
  cases h : a.targets.find? (fun r => r.bay == t) with
  | none => rfl
  | some r => simpa using List.find?_some h

/-- A record put in leaves the other targets' records. -/
theorem find_putTarget_ne {r : TargetRecord} (h : r.bay ≠ t) (l : List TargetRecord) :
    (putTarget r l).find? (fun x => x.bay == t) = l.find? (fun x => x.bay == t) := by
  induction l with
  | nil => simp [putTarget, h]
  | cons x xs ih =>
    unfold putTarget
    split
    · simp [h]
    · split
      next hx => simp [h, hx ▸ h]
      next => simp only [List.find?_cons, ih]

theorem targetRecord_closeNumbered_ne {target : Nat} {members : List Nat} {kind : GroupKind} (h : target ≠ t) :
    targetRecord (closeNumbered target members kind a) t = targetRecord a t := by
  have hbay := targetRecord_bay a target
  unfold targetRecord closeNumbered
  dsimp only
  rw [find_putTarget_ne]
  rw [targetRecord] at hbay
  exact fun e => h (hbay.symm.trans e)

/-! ## Groups followed -/

/-- Every open group of a target has members of the form given, there is one, and its number would be `n` (R99). -/
def OpenFor (a : Assembler) (t n : Nat) (Q : List Nat → Prop) : Prop :=
  (∃ g ∈ a.openGroups, g.target = t) ∧ (∀ g ∈ a.openGroups, g.target = t → Q g.members) ∧ (targetRecord a t).next = n

/-- A closed group of a target, with number `n` and members of the form given, full or short by their number (R102). -/
def SentFor (size : Nat) (a : Assembler) (t n : Nat) (Q : List Nat → Prop) : Prop :=
  ∃ x ∈ a.sendList, x.target = t ∧ x.number = some n ∧ x.resend = false ∧ Q x.members
    ∧ x.kind = if x.members.length = size then .full else .short

/-- A group is open, or stands closed with the number it would have taken. -/
def Tracks (size : Nat) (a : Assembler) (t n : Nat) (Q : List Nat → Prop) : Prop :=
  OpenFor a t n Q ∨ SentFor size a t n Q

/-- A closed group stays while the send list grows. -/
theorem SentFor.mono {b : Assembler} (h : SentFor size a t n Q) (hsub : a.sendList ⊆ b.sendList) : SentFor size b t n Q := by
  obtain ⟨x, hx, hrest⟩ := h
  exact ⟨x, hsub hx, hrest⟩

/-- A group closing, open or just filled, is followed into the send list; the other targets' groups stay (R102). -/
theorem closeOpen_tracks {g : OpenGroup} (h : Tracks (groupSize s.straps) s.asm t n Q)
    (hg : OpenFor s.asm t n Q → g.target = t → Q g.members) : Tracks (groupSize s.straps) (closeOpen g s).asm t n Q := by
  rcases h with h | h
  · obtain ⟨⟨x, hx, hxt⟩, hall, hn⟩ := id h
    by_cases ht : g.target = t
    · refine .inr ⟨_, List.mem_append_right _ (List.mem_singleton_self _), ht, congrArg some ?_, rfl, hg h ht, rfl⟩
      rw [ht]
      exact hn
    · refine .inl ⟨⟨x, ?_, hxt⟩, fun y hy => hall y (List.mem_filter.1 hy).1, ?_⟩
      · exact List.mem_filter.2 ⟨hx, by simpa [hxt] using Ne.symm ht⟩
      · refine (congrArg TargetRecord.next (targetRecord_closeNumbered_ne ht)).trans hn
  · exact .inr (h.mono (List.subset_append_left _ _))

/-- While a run is active a group that closes full is followed by nothing (R103). -/
theorem closeFull_active (hrun : s.run.mode ≠ none) (g : OpenGroup) : closeFull g s = closeOpen g s := by
  simp [closeFull, hrun]

/-- Everything the joining of a group can do while a run is active (R100): nothing, where all places are taken; the
target's group grows, or closes; or a group opens, or closes at once. -/
theorem joinGroup_cases (hrun : s.run.mode ≠ none) (label target : Nat) :
    joinGroup label target s = s
      ∨ (∃ g ∈ s.asm.openGroups, g.target = target
          ∧ (joinGroup label target s = closeOpen { g with members := g.members ++ [label] } s
            ∨ joinGroup label target s = setAsm { s.asm with openGroups := s.asm.openGroups.map (fun x =>
                if x.target = target then { g with members := g.members ++ [label] } else x) } s))
      ∨ ((∀ g ∈ s.asm.openGroups, g.target ≠ target)
          ∧ (joinGroup label target s = closeOpen { target := target, members := [label], timer := 0 } s
            ∨ joinGroup label target s = setAsm { s.asm with openGroups := s.asm.openGroups ++
                [{ target := target, members := [label], timer := 0 }] } s)) := by
  unfold joinGroup
  split
  next g hg =>
    refine .inr (.inl ⟨g, List.mem_of_find?_eq_some hg, by simpa using List.find?_some hg, ?_⟩)
    dsimp only
    split
    · exact .inl (closeFull_active hrun _)
    · exact .inr rfl
  next hg =>
    split
    · refine .inr (.inr ⟨fun g hmem => by simpa using List.find?_eq_none.1 hg g hmem, ?_⟩)
      dsimp only
      split
      · exact .inl (closeFull_active hrun _)
      · exact .inr rfl
    · exact .inl rfl

/-- Joining a group keeps the groups followed, whose members may grow (R100). -/
theorem joinGroup_tracks (hrun : s.run.mode ≠ none) (hQ : ∀ m l, Q m → Q (m ++ [l])) (label target : Nat)
    (h : Tracks (groupSize s.straps) s.asm t n Q) :
    Tracks (groupSize s.straps) (joinGroup label target s).asm t n Q := by
  rcases joinGroup_cases hrun label target with e | ⟨g, hg, hgt, e | e⟩ | ⟨hno, e | e⟩ <;> rw [e]
  · exact h
  · exact closeOpen_tracks h fun ho ht => hQ _ _ (ho.2.1 g hg ht)
  · rcases h with ⟨⟨x, hx, hxt⟩, hall, hn⟩ | h
    · refine .inl ⟨⟨_, List.mem_map_of_mem hx, ?_⟩, fun y hy hyt => ?_, hn⟩
      · split
        next hxt' => exact hgt.trans (hxt'.symm.trans hxt)
        next => exact hxt
      · obtain ⟨z, hz, rfl⟩ := List.mem_map.1 hy
        split
        next hzt =>
          rw [if_pos hzt] at hyt
          exact hQ _ _ (hall g hg hyt)
        next hzt =>
          rw [if_neg hzt] at hyt
          exact hall z hz hyt
    · exact .inr (h.mono (List.Subset.refl _))
  · refine closeOpen_tracks h fun ho ht => ?_
    obtain ⟨⟨x, hx, hxt⟩, -⟩ := ho
    exact absurd (hxt.trans ht.symm) (hno x hx)
  · rcases h with ⟨⟨x, hx, hxt⟩, hall, hn⟩ | h
    · refine .inl ⟨⟨x, List.mem_append_left _ hx, hxt⟩, fun y hy hyt => ?_, hn⟩
      rcases List.mem_append.1 hy with hy | hy
      · exact hall y hy hyt
      · rw [List.mem_singleton.1 hy] at hyt
        exact absurd (hxt.trans hyt.symm) (hno x hx)
    · exact .inr (h.mono (List.Subset.refl _))

/-- A label is a member of every open group of some target, or of a group that was closed with a number: it stays so. -/
def Anchored (size : Nat) (a : Assembler) (label : Nat) : Prop := ∃ t n, Tracks size a t n (label ∈ ·)

/-- An entry whose label is so placed does not wait (R99). -/
theorem Anchored.grouped {label : Nat} (h : Anchored size a label) : grouped a label = true := by
  obtain ⟨t, n, ⟨⟨g, hg, hgt⟩, hall, -⟩ | ⟨x, hx, -, -, -, hmem, -⟩⟩ := h
  · simp only [Machine.grouped, Bool.or_eq_true, List.any_eq_true]
    exact .inl ⟨g, hg, by simpa using hall g hg hgt⟩
  · simp only [Machine.grouped, Bool.or_eq_true, List.any_eq_true]
    exact .inr ⟨x, hx, by simpa using hmem⟩

/-- Joining a group places the label for good, and opens one group at most (R100). -/
theorem joinGroup_anchors (hrun : s.run.mode ≠ none) (label target : Nat) :
    joinGroup label target s = s ∨ (Anchored (groupSize s.straps) (joinGroup label target s).asm label
      ∧ (joinGroup label target s).asm.openGroups.length ≤ s.asm.openGroups.length + 1) := by
  have hclose (g : OpenGroup) (hmem : label ∈ g.members) : Anchored (groupSize s.straps) (closeOpen g s).asm label
      ∧ (closeOpen g s).asm.openGroups.length ≤ s.asm.openGroups.length + 1 := by
    refine ⟨⟨g.target, _, .inr
      ⟨_, List.mem_append_right _ (List.mem_singleton_self _), rfl, rfl, rfl, hmem, rfl⟩⟩, ?_⟩
    exact (List.length_filter_le _ _).trans (Nat.le_succ _)
  rcases joinGroup_cases hrun label target with e | ⟨g, hg, hgt, e | e⟩ | ⟨hno, e | e⟩ <;> rw [e]
  · exact .inl rfl
  · exact .inr (hclose _ (by simp))
  · refine .inr ⟨⟨target, _, .inl ⟨⟨_, List.mem_map_of_mem hg, ?_⟩, fun y hy hyt => ?_, rfl⟩⟩, ?_⟩
    · rw [if_pos hgt]; exact hgt
    · obtain ⟨z, hz, rfl⟩ := List.mem_map.1 hy
      split
      next => simp
      next hzt => rw [if_neg hzt] at hyt; exact absurd hyt hzt
    · simp [setAsm]
  · exact .inr (hclose _ (by simp))
  · refine .inr ⟨⟨target, _, .inl ⟨⟨_, List.mem_append_right _ (List.mem_singleton_self _), rfl⟩,
      fun y hy hyt => ?_, rfl⟩⟩, ?_⟩
    · rcases List.mem_append.1 hy with hy | hy
      · exact absurd hyt (hno y hy)
      · rw [List.mem_singleton.1 hy]; simp
    · simp [setAsm]

end Sys2Proof.Machine
end

section
/-! SUPPORT. The waiting entries served and all open groups closed while a tip run is active (R101, R102): each pass
opens no more groups than it places entries for good, so the closing comes to an end. -/

namespace Sys2Proof.Machine

variable {s t : State} {n k size : Nat} {Q : List Nat → Prop}

/-- A tip run is active, and a group is full at `size` members. -/
def Active (size : Nat) (s : State) : Prop := groupSize s.straps = size ∧ s.run.mode ≠ none

theorem Active.of_keepAsm (h : Active size s) (hk : keepAsm t = keepAsm s) : Active size t := by
  obtain ⟨hsize, hrun⟩ := h
  exact ⟨by rw [straps_of_keepAsm hk]; exact hsize, by rw [run_of_keepAsm hk]; exact hrun⟩

/-! ## Groups followed through the serving -/

/-- An entry served alone joins a group, or is not QUEUED. -/
theorem servePass_singleton (e : TransferEntry) (s : State) :
    servePass [e] s = s ∨ ∃ target, servePass [e] s = joinGroup e.label target s := by
  cases h : e.state with
  | queued target => exact .inr ⟨target, by simp [servePass, h]⟩
  | parked => exact .inl (by simp [servePass, h])
  | offered => exact .inl (by simp [servePass, h])
  | accepted => exact .inl (by simp [servePass, h])

theorem servePass_cons (e : TransferEntry) (es : List TransferEntry) (s : State) :
    servePass (e :: es) s = servePass es (servePass [e] s) := rfl

theorem servePass_tracks (hQ : ∀ m l, Q m → Q (m ++ [l])) (es : List TransferEntry) (hs : Active size s)
    (h : Tracks size s.asm k n Q) : Tracks size (servePass es s).asm k n Q := by
  induction es generalizing s with
  | nil => exact h
  | cons e es ih =>
    rw [servePass_cons]
    refine ih (hs.of_keepAsm (servePass_keep _ _)) ?_
    rcases servePass_singleton e s with he | ⟨target, he⟩ <;> rw [he]
    · exact h
    · obtain ⟨rfl, hrun⟩ := hs
      exact joinGroup_tracks hrun hQ _ _ h

theorem serveLoop_tracks (hQ : ∀ m l, Q m → Q (m ++ [l])) (fuel : Nat) (hs : Active size s)
    (h : Tracks size s.asm k n Q) : Tracks size (serveLoop fuel s).asm k n Q := by
  induction fuel generalizing s with
  | zero => exact h
  | succ fuel ih =>
    have hpass := servePass_tracks hQ (waitingEntries s) hs h
    unfold serveLoop
    dsimp only
    split
    · exact ih (hs.of_keepAsm (servePass_keep _ _)) hpass
    · exact hpass

/-- A label placed for good stays so while the waiting entries are served. -/
theorem servePass_anchored (es : List TransferEntry) (hs : Active size s) {label : Nat}
    (h : Anchored size s.asm label) : Anchored size (servePass es s).asm label := by
  obtain ⟨k, n, h⟩ := h
  exact ⟨k, n, servePass_tracks (Q := (label ∈ ·)) (fun m l hm => List.mem_append_left _ hm) es hs h⟩

/-! ## The count that falls -/

open Classical in
/-- How many entries of a list are not placed for good. -/
noncomputable def unanchored (size : Nat) (a : Assembler) (es : List TransferEntry) : Nat :=
  es.countP (fun e => decide (¬ Anchored size a e.label))

theorem unanchored_mono {a b : Assembler} (h : ∀ label, Anchored size a label → Anchored size b label)
    (es : List TransferEntry) : unanchored size b es ≤ unanchored size a es := by
  refine List.countP_mono_left fun e _ he => ?_
  simp only [decide_eq_true_eq] at he ⊢
  exact fun ha => he (h _ ha)

theorem unanchored_cons_le {a : Assembler} (e : TransferEntry) (es : List TransferEntry) :
    unanchored size a (e :: es) ≤ unanchored size a es + 1 := by
  unfold unanchored
  rw [List.countP_cons]
  split <;> omega

theorem unanchored_cons_of {a : Assembler} {e : TransferEntry} (h : Anchored size a e.label) (es : List TransferEntry) :
    unanchored size a (e :: es) = unanchored size a es := by
  unfold unanchored
  exact List.countP_cons_of_neg (by simpa using h)

/-- The open groups and the entries that may yet open one. -/
noncomputable def openable (size : Nat) (s : State) : Nat :=
  s.asm.openGroups.length + unanchored size s.asm s.table

/-- A pass opens no more groups than it places entries for good. -/
theorem servePass_openable (es : List TransferEntry) (hs : Active size s) :
    (servePass es s).asm.openGroups.length + unanchored size (servePass es s).asm es
      ≤ s.asm.openGroups.length + es.length := by
  induction es generalizing s with
  | nil => exact le_rfl
  | cons e es ih =>
    have hs' : Active size (servePass [e] s) := hs.of_keepAsm (servePass_keep _ _)
    have hrest := ih hs'
    rw [servePass_cons, List.length_cons]
    rcases servePass_singleton e s with he | ⟨target, he⟩
    · rw [he] at hrest ⊢
      have := unanchored_cons_le (size := size) (a := (servePass es s).asm) e es
      omega
    · obtain ⟨rfl, hrun⟩ := id hs
      rcases joinGroup_anchors hrun e.label target with hj | ⟨hanch, hlen⟩
      · rw [he, hj] at hrest ⊢
        have := unanchored_cons_le (size := groupSize s.straps) (a := (servePass es s).asm) e es
        omega
      · rw [← he] at hanch hlen
        rw [unanchored_cons_of (servePass_anchored es hs' hanch)]
        omega

theorem not_grouped_of_waiting {e : TransferEntry} (h : e ∈ waitingEntries s) : grouped s.asm e.label = false := by
  have h := (List.mem_filter.1 h).2
  split at h
  · simpa using h
  · cases h

/-- No waiting entry is placed. -/
theorem unanchored_waiting (s : State) : unanchored size s.asm (waitingEntries s) = (waitingEntries s).length := by
  refine List.countP_eq_length.2 fun e he => ?_
  have hno : ¬ Anchored size s.asm e.label := fun ha =>
    absurd (ha.grouped.symm.trans (not_grouped_of_waiting he)) (by decide)
  simpa using hno

/-- The table is the waiting entries and the rest. -/
theorem exists_waiting_rest (s : State) : ∃ rest, ∀ size a,
    unanchored size a s.table = unanchored size a (waitingEntries s) + unanchored size a rest :=
  ⟨_, fun _ _ => List.countP_eq_countP_filter_add _ _ _⟩

/-- Serving the waiting entries raises the count of what may be open no further (R101). -/
theorem servePass_waiting_openable (hs : Active size s) :
    openable size (servePass (waitingEntries s) s) ≤ openable size s := by
  have htable : (servePass (waitingEntries s) s).table = s.table := table_of_keepAsm (servePass_keep _ s)
  have hpass := servePass_openable (waitingEntries s) hs
  have hwait := unanchored_waiting (size := size) s
  have hanch := unanchored_mono (fun label hl => servePass_anchored (label := label) (waitingEntries s) hs hl)
  obtain ⟨rest, hrest⟩ := exists_waiting_rest s
  have hrest := hrest size
  have hlater := hanch rest
  simp only [openable, htable, hrest]
  omega

theorem serveLoop_openable (fuel : Nat) (hs : Active size s) : openable size (serveLoop fuel s) ≤ openable size s := by
  induction fuel generalizing s with
  | zero => exact le_rfl
  | succ fuel ih =>
    have hpass := servePass_waiting_openable hs
    unfold serveLoop
    dsimp only
    split
    · exact (ih (hs.of_keepAsm (servePass_keep _ _))).trans hpass
    · exact hpass

/-- The group opened first closing lowers the count of what may be open (R102). -/
theorem closeOpen_openable {g : OpenGroup} {gs : List OpenGroup} (h : s.asm.openGroups = g :: gs)
    (hs : Active size s) : openable size (closeOpen g s) + 1 ≤ openable size s := by
  obtain ⟨rfl, -⟩ := hs
  have hopen : (closeOpen g s).asm.openGroups.length + 1 ≤ s.asm.openGroups.length := by
    change (s.asm.openGroups.filter _).length + 1 ≤ _
    rw [h]
    simpa using List.length_filter_le _ gs
  have hanch := unanchored_mono (size := groupSize s.straps) (a := s.asm) (b := (closeOpen g s).asm)
    (fun label ⟨k, n, hl⟩ => ⟨k, n, closeOpen_tracks hl fun ho ht => ho.2.1 g (by rw [h]; simp) ht⟩) s.table
  change _ + unanchored _ _ s.table + 1 ≤ _ + unanchored _ _ s.table
  omega

/-! ## All open groups closed -/

/-- With fuel for all that may be open no group stays open (R27, R106). -/
theorem closeLoop_openGroups (fuel : Nat) (hs : Active size s) (h : openable size s ≤ fuel) :
    (closeLoop closeOpen fuel s).asm.openGroups = [] := by
  induction fuel generalizing s with
  | zero =>
    unfold openable at h
    exact List.length_eq_zero_iff.1 (by omega : s.asm.openGroups.length = 0)
  | succ fuel ih =>
    unfold closeLoop
    split
    next he => exact he
    next g gs he =>
      have hclosed : Active size (closeOpen g s) := hs.of_keepAsm (closeOpen_keep _ _)
      have h1 := closeOpen_openable he hs
      have h2 := serveLoop_openable (closeOpen g s).table.length hclosed
      exact ih (hclosed.of_keepAsm (serveWaiting_keep _)) (by rw [serveWaiting]; omega)

theorem closeAll_openGroups (hrun : s.run.mode ≠ none) : (closeAll closeOpen s).asm.openGroups = [] := by
  refine closeLoop_openGroups (size := groupSize s.straps) _ ⟨rfl, hrun⟩ ?_
  exact Nat.add_le_add_left List.countP_le_length _

/-- The groups followed through the closing of all, where the form of their members outlasts further members. -/
theorem closeLoop_tracks (hQ : ∀ m l, Q m → Q (m ++ [l])) (fuel : Nat) (hs : Active size s)
    (h : Tracks size s.asm k n Q) : Tracks size (closeLoop closeOpen fuel s).asm k n Q := by
  induction fuel generalizing s with
  | zero => exact h
  | succ fuel ih =>
    unfold closeLoop
    split
    next => exact h
    next g gs he =>
      have hclosed : Active size (closeOpen g s) := hs.of_keepAsm (closeOpen_keep _ _)
      refine ih (hclosed.of_keepAsm (serveWaiting_keep _)) (serveLoop_tracks hQ _ hclosed ?_)
      obtain ⟨rfl, -⟩ := hs
      exact closeOpen_tracks h fun ho ht => ho.2.1 g (by rw [he]; simp) ht

end Sys2Proof.Machine
end

section
/-! SUPPORT. The groups at the end of a tip run (R27, R103): every open group stands closed in the send list, and where
no entry waited for a place, as it was. -/

namespace Sys2Proof.Machine

variable {s t : State} {a b : Assembler} {n k size : Nat} {Q : List Nat → Prop}

/-! ## No entry waits -/

theorem serveLoop_nil (fuel : Nat) (h : waitingEntries s = []) : serveLoop fuel s = s := by
  cases fuel with
  | zero => rfl
  | succ fuel =>
    unfold serveLoop
    rw [h]
    dsimp only
    rw [if_neg (by simp)]
    rfl

theorem mem_waitingEntries {e : TransferEntry} : e ∈ waitingEntries s ↔
    e ∈ s.table ∧ (∃ target, e.state = .queued target) ∧ grouped s.asm e.label = false := by
  unfold waitingEntries
  rw [List.mem_filter]
  cases e.state <;> simp

/-- No entry waits, and each target has one open group at most (R99). -/
def Unserved (s : State) : Prop := waitingEntries s = [] ∧ (s.asm.openGroups.map (·.target)).Nodup

/-- The members of the group that closes and of the other groups stay grouped. -/
theorem grouped_closeOpen {g : OpenGroup} {gs : List OpenGroup} (h : s.asm.openGroups = g :: gs)
    (hnd : (s.asm.openGroups.map (·.target)).Nodup) {label : Nat} (hl : grouped s.asm label = true) :
    grouped (closeOpen g s).asm label = true := by
  rw [h, List.map_cons, List.nodup_cons] at hnd
  obtain ⟨hg, -⟩ := hnd
  simp only [grouped, Bool.or_eq_true, List.any_eq_true] at hl ⊢
  rcases hl with ⟨x, hx, hmem⟩ | ⟨x, hx, hmem⟩
  · rw [h] at hx
    rcases List.mem_cons.1 hx with rfl | hx'
    · exact .inr ⟨_, List.mem_append_right _ (List.mem_singleton_self _), hmem⟩
    · have hne : x.target ≠ g.target := fun e => hg (e ▸ List.mem_map_of_mem hx')
      exact .inl ⟨x, List.mem_filter.2 ⟨h ▸ hx, by simpa using hne⟩, hmem⟩
  · exact .inr ⟨x, List.mem_append_left _ hx, hmem⟩

theorem Unserved.closeOpen {g : OpenGroup} {gs : List OpenGroup} (h : s.asm.openGroups = g :: gs) (hs : Unserved s) :
    Unserved (closeOpen g s) := by
  obtain ⟨hwait, hnd⟩ := hs
  refine ⟨List.eq_nil_iff_forall_not_mem.2 fun e he => ?_, hnd.sublist (List.filter_sublist.map _)⟩
  obtain ⟨hmem, hq, hno⟩ := mem_waitingEntries.1 he
  have hno' : grouped s.asm e.label = false := by
    rw [Bool.eq_false_iff]
    exact fun hg => absurd ((grouped_closeOpen h hnd hg).symm.trans hno) (by decide)
  have : e ∈ waitingEntries s := mem_waitingEntries.2 ⟨hmem, hq, hno'⟩
  rw [hwait] at this
  cases this

/-- Where no entry waits the groups close as they are. -/
theorem closeLoop_tracks_unserved (fuel : Nat) (hs : Unserved s) (h : Tracks (groupSize s.straps) s.asm k n Q) :
    Tracks (groupSize s.straps) (closeLoop closeOpen fuel s).asm k n Q := by
  induction fuel generalizing s with
  | zero => exact h
  | succ fuel ih =>
    unfold closeLoop
    split
    next => exact h
    next g gs he =>
      have hclosed := hs.closeOpen he
      rw [serveWaiting, serveLoop_nil _ hclosed.1]
      exact ih hclosed (closeOpen_tracks h fun ho ht => ho.2.1 g (by rw [he]; simp) ht)

/-! ## What follows the closing -/

/-- The closed groups of a list stand in another, though perhaps in the queue. -/
def StandIn (l m : List ClosedGroup) : Prop := ∀ x ∈ l, x ∈ m ∨ { x with inQueue := true } ∈ m

theorem buildList_standIn (s : State) (before l : List ClosedGroup) : StandIn (before ++ l) (buildList s before l).2 := by
  induction l generalizing s before with
  | nil => exact fun x hx => .inl (by simpa [buildList] using hx)
  | cons g l ih =>
    have hkeep (u : State) : StandIn (before ++ g :: l) (buildList u (before ++ [g]) l).2 := by
      simpa using ih u (before ++ [g])
    unfold buildList
    split
    · split
      next u hu =>
        intro x hx
        rcases List.mem_append.1 hx with hx | hx
        · exact ih _ _ x (by simp [hx])
        rcases List.mem_cons.1 hx with rfl | hx
        · rcases ih u (before ++ [{ x with inQueue := true }]) { x with inQueue := true } (by simp) with h | h
          · exact .inr h
          · exact .inr h
        · exact ih _ _ x (by simp [hx])
      next => exact hkeep s
    · exact hkeep s

theorem buildReady_openGroups (s : State) : (buildReady s).asm.openGroups = s.asm.openGroups := by
  have h := asm_of_keepQueue (buildList_keep s [] s.asm.sendList)
  exact congrArg (fun a => a.openGroups) h

theorem buildReady_sent (h : SentFor size s.asm k n Q) : SentFor size (buildReady s).asm k n Q := by
  obtain ⟨x, hx, hrest⟩ := h
  rcases buildList_standIn s [] s.asm.sendList x hx with hm | hm
  · exact ⟨x, hm, hrest⟩
  · exact ⟨_, hm, hrest⟩

/-- The empty final groups close no open group, and are added to the send list (R103). -/
theorem closeEmpty_foldl (bays : List Nat) (s : State) :
    (bays.foldl (fun u bay => closeEmpty bay u) s).asm.openGroups = s.asm.openGroups
      ∧ s.asm.sendList ⊆ (bays.foldl (fun u bay => closeEmpty bay u) s).asm.sendList := by
  induction bays generalizing s with
  | nil => exact ⟨rfl, List.Subset.refl _⟩
  | cons bay bays ih =>
    obtain ⟨hopen, hsend⟩ := ih (closeEmpty bay s)
    exact ⟨hopen, List.Subset.trans (List.subset_append_left _ _) hsend⟩

/-! ## The end of the run -/

theorem endRunGroups_openGroups (hrun : s.run.mode ≠ none) : (endRunGroups s).asm.openGroups = [] := by
  unfold endRunGroups
  dsimp only
  rw [buildReady_openGroups]
  split
  · exact closeAll_openGroups hrun
  · rw [(closeEmpty_foldl _ _).1]
    exact closeAll_openGroups hrun

/-- A group that is followed to the closing of all stands closed at the end of the run. -/
theorem endRunGroups_sent (hrun : s.run.mode ≠ none) (h : Tracks size (closeAll closeOpen s).asm k n Q) :
    SentFor size (endRunGroups s).asm k n Q := by
  have hsent : SentFor size (closeAll closeOpen s).asm k n Q := by
    rcases h with ⟨⟨g, hg, -⟩, -⟩ | h
    · rw [closeAll_openGroups hrun] at hg
      cases hg
    · exact h
  unfold endRunGroups
  dsimp only
  refine buildReady_sent ?_
  split
  · exact hsent
  · exact hsent.mono (closeEmpty_foldl _ _).2

/-- A group open at the end of the run stands in the send list, with the members it had first (R27, R102). -/
theorem endRunGroups_groupsSent (hrun : s.run.mode ≠ none) (hs : GroupLaw s) : GroupsSent s (endRunGroups s) := by
  obtain ⟨-, hnd, hsize⟩ := hs
  intro g hg
  have hopen {Q : List Nat → Prop} (hQ : Q g.members) :
      Tracks (groupSize s.straps) s.asm g.target (targetRecord s.asm g.target).next Q := by
    refine .inl ⟨⟨g, hg, rfl⟩, fun x hx hxt => ?_, rfl⟩
    rw [List.inj_on_of_nodup_map hnd hx hg hxt]
    exact hQ
  by_cases hwait : waitingEntries s = []
  · obtain ⟨x, hx, ht, hn, hr, hm, hk⟩ := endRunGroups_sent hrun
      (closeLoop_tracks_unserved _ ⟨hwait, hnd⟩ (hopen (Q := (· = g.members)) rfl))
    refine ⟨x, hx, ht, hn, hr, by rw [hm, List.take_length], fun _ => ⟨hm, ?_⟩⟩
    rw [hk, hm, if_neg (Nat.ne_of_lt (hsize g hg).2)]
  · have hgrow (m : List Nat) (l : Nat) (h : m.take g.members.length = g.members) :
        (m ++ [l]).take g.members.length = g.members := by
      have hlen := congrArg List.length h
      rw [List.length_take] at hlen
      rw [List.take_append_of_le_length (by omega)]
      exact h
    obtain ⟨x, hx, ht, hn, hr, hm, -⟩ := endRunGroups_sent hrun
      (closeLoop_tracks (Q := fun m => m.take g.members.length = g.members) hgrow _ ⟨rfl, hrun⟩
        (hopen (List.take_length)))
    exact ⟨x, hx, ht, hn, hr, hm, fun h => absurd h hwait⟩

end Sys2Proof.Machine
end

section
/-! PROOF. DEPART (O34). -/

namespace Sys2Proof.Machine

variable {s t : State}

/-! ## What a DEPART leaves -/

/-- The abandoned lane joins the table alone (R41). -/
theorem abandonLane_keep (lane : List LaneEntry) (s : State) : keepTable (abandonLane lane s) = keepTable s :=
  foldl_keep keepTable (fun t (e : LaneEntry) => addEntry e.label e.depot e.mass t) (fun t _ => addEntry_keep _ _ _ t) lane s

/-- The run as a DEPART ends it (R27, R42). -/
def runEnded (s : State) : State := if s.run.mode.isSome then terminateRun .ended false s else s

/-- The lane a DEPART abandons (R41). -/
def abandoned (abandon : Bool) (s : State) : List LaneEntry := if abandon then s.lane else []

/-- But for the table, the groups, the queue and the notices a DEPART leaves what the end of the docking leaves. -/
theorem takeDepart_keep (abandon : Bool) (s : State) : keepTable (takeDepart abandon s) =
    keepTable (beaconedChange (endDocking (abandonLane (abandoned abandon s) (runEnded s)))) :=
  foldl_keep keepTable (fun t (e : LaneEntry) => selectTarget true e.label t) (fun t e => selectTarget_keep true e.label t) _ _

theorem takeDepart_urgency (abandon : Bool) (s : State) : (takeDepart abandon s).urgency = 0 :=
  (urgency_of_keepTable (takeDepart_keep abandon s)).trans (beaconedChange_urgency _)

/-- A DEPART that may go is taken (R40). -/
theorem departBody_taken {abandon : Bool} (hd : s.docking.isSome = true)
    (hs : s.dep.state = some .closed ∨ (s.dep.state = some .openBay ∧ dropList s = [] ∧ s.deck.entries = []))
    (hl : s.lane = [] ∨ (abandon = true ∧ s.lane.length + s.table.length ≤ 96)) :
    departBody abandon s = accept (.depart (abandoned abandon s).length 0) (takeDepart abandon s) := by
  have hmay : mayDepart s = true := by
    rcases hs with h | ⟨h, hdrops, hdeck⟩
    · simp [mayDepart, h]
    · simp [mayDepart, h, hdrops, hdeck]
  have hdock : s.docking.isNone = false := by simpa using hd
  unfold departBody
  dsimp only
  rw [takeDepart_urgency, hdock, hmay]
  rcases hl with h | ⟨h, hroom⟩
  · simp [h, abandoned]
  · simp [h, abandoned, Config.tableSlots, show ¬ 96 - s.table.length < s.lane.length by omega]

/-- The door after a DEPART taken: empty, VACANT and at rest (R18, R42, R61, R137). -/
theorem takeDepart_door (abandon : Bool) (s : State) :
    (takeDepart abandon s).docking = none ∧ (takeDepart abandon s).lane = []
      ∧ (takeDepart abandon s).deck.entries = [] ∧ (takeDepart abandon s).store.holds = []
      ∧ (takeDepart abandon s).dep.state = none := by
  have hkeep := takeDepart_keep abandon s
  generalize takeDepart abandon s = t at *
  generalize abandonLane (abandoned abandon s) (runEnded s) = u at *
  rw [docking_of_keepTable hkeep, lane_of_keepTable hkeep, deck_of_keepTable hkeep, store_of_keepTable hkeep,
    dep_of_keepTable hkeep, beaconedChange_docking, beaconedChange_lane, beaconedChange_deck, beaconedChange_store,
    beaconedChange_dep]
  exact ⟨rfl, rfl, rfl, rfl, rfl⟩

theorem runEnded_port (s : State) : (runEnded s).port = s.port := by
  unfold runEnded
  split
  · unfold terminateRun
    dsimp only
    rw [raise_port, endRunGroups_port]
  · rfl

theorem takeDepart_port (abandon : Bool) (s : State) : (takeDepart abandon s).port = s.port := by
  rw [port_of_keepTable (takeDepart_keep abandon s), beaconedChange_port]
  exact (port_of_keepTable (abandonLane_keep _ _)).trans (runEnded_port s)

/-- The end of an active run raises TIP_DONE with END and makes it IDLE; groups apart, nothing else changes (R27). -/
theorem terminateRun_ended (s : State) : terminateRun .ended false s = { endRunGroups s with
    notes := (raise .tipDone 512 s.run.tipped s).notes
    run := { s.run with mode := none, lastReason := .ended } } := by
  unfold terminateRun
  dsimp only
  apply state_eq <;> simp
  exact raise_notes_congr _ _ _ (endRunGroups_notes _) (endRunGroups_time _)

/-- Settles O34: a DEPART is the end of the docking with its beacon, before it the run's end, and after it target
selection for the abandoned lane, which touches the table and the groups alone. -/
theorem departEndsTheDocking : Obligations.DepartEndsTheDocking := by
  unfold Obligations.DepartEndsTheDocking
  refine ⟨fun h s ht hd hs hrun hl => ?_, fun h s ht hd hs hrun hroom => ?_, fun h s ht hd hs hrun hl => ?_⟩
  · have hexec := request_accepted (r := .depart) ht (departBody_taken (abandon := false) hd hs (.inl hl))
      (takeDepart_port _ _)
    have hdepart : takeDepart false s = beaconedChange (endDocking s) := by
      simp [takeDepart, hrun, abandonLane]
    rw [hdepart] at hexec
    refine ⟨_, congrArg Host.Outcome.next hexec, beaconedChange_docking _, beaconedChange_deck _,
      beaconedChange_store _, beaconedChange_time _, beaconedChange_urgency _, beaconedChange_dep _, ?_, rfl, ?_⟩
    · refine beaconSent_of (u := endDocking s) rfl rfl rfl rfl ⟨beaconedChange_straps _, beaconedChange_docking _, ?_,
        congrArg (fun b => b.m) (beaconedChange_time _), beaconedChange_urgency _⟩
      exact contentNow_congr (beaconedChange_docking _) (congrArg (fun b => b.state) (beaconedChange_dep _))
        (congrArg (fun b => b.halt) (beaconedChange_dep _)) (congrArg outboundCount (beaconedChange_deck _))
        (congrArg List.length (beaconedChange_lane _)) (congrArg (fun b => b.holds) (beaconedChange_store _))
        (beaconedChange_urgency _)
    · apply state_eq <;> simp [endDocking, hl]
  · have hexec := request_accepted (r := .depart) ht (departBody_taken (abandon := true) hd hs (.inr ⟨rfl, hroom⟩))
      (takeDepart_port _ _)
    obtain ⟨hdock, hlane, hdeck, hholds, hdep⟩ := takeDepart_door true s
    exact ⟨_, congrArg Host.Outcome.next hexec, hdock, hlane, hdeck, hholds, hdep,
      (congrArg Site.cargo (takeDepart_site s true) :), rfl⟩
  · have hexec := request_accepted (r := .depart) ht (departBody_taken (abandon := false) hd (.inl hs) (.inl hl))
      (takeDepart_port _ _)
    obtain ⟨hdock, -, hdeck, hholds, hdep⟩ := takeDepart_door false s
    have hdepart : takeDepart false s = beaconedChange (endDocking (terminateRun .ended false s)) := by
      simp [takeDepart, Option.isSome_iff_ne_none.2 hrun, abandonLane]
    have hasm : (takeDepart false s).asm = (endRunGroups s).asm := by
      rw [hdepart, beaconedChange_asm, terminateRun_ended]
      rfl
    have hnotes : (takeDepart false s).notes = (raise .tipDone 512 s.run.tipped s).notes := by
      rw [hdepart, beaconedChange_notes, terminateRun_ended]
      rfl
    have hrun' : (takeDepart false s).run = { s.run with mode := none, lastReason := .ended } := by
      rw [hdepart, beaconedChange_run, terminateRun_ended]
      rfl
    have htable : (takeDepart false s).table = s.table := by
      rw [hdepart, beaconedChange_table, terminateRun_ended]
      exact endRunGroups_table _
    have hopen := endRunGroups_openGroups hrun
    have hsent := endRunGroups_groupsSent (s := s) hrun
    rw [GroupsSent, ← hasm] at hsent
    rw [← hasm] at hopen
    exact ⟨_, congrArg Host.Outcome.next hexec, hdock, hdeck, hholds, hdep, takeDepart_urgency _ _, hrun', hnotes, hopen,
      hsent, htable, rfl⟩

end Sys2Proof.Machine
end

section
/-! PROOF. TIP START and the reads that change nothing (O25, O41). -/

namespace Sys2Proof.Machine

variable {s : State}

/-- A request refused with no effect changes the port alone (R154, R155). -/
theorem request_refused {h : ReqHead} {r : Request} {body : State → Result} {c : RefusalCode} (ht : Taken h s)
    (hb : body s = refuse c s) : request h r body s = { s with port := replyPort h (.refused c .none) s s } := by
  rw [request_taken r body ht, hb]
  rfl

/-! ## TIP START -/

/-- A TIP START of a docked bay with no run is decided by its mode (R25). -/
theorem tipStartBody_idle (hd : s.docking.isSome = true) (hrun : s.run.mode = none) (mode : TipModeArg) :
    tipStartBody mode s = match mode with
      | .neither => refuse .badValue s
      | .openEnded => accept (.tipStart .openEnded none) (beginRun .openEnded none s)
      | .counted n =>
        if 52 < n ∨ (n = 0 ∧ inboundCount s.deck = 0) then refuse .badValue s
        else accept (.tipStart .counted (some (if n = 0 then inboundCount s.deck else n)))
          (beginRun .counted (some (if n = 0 then inboundCount s.deck else n)) s) := by
  have hd : s.docking.isNone = false := by simpa using hd
  have hrun : s.run.mode.isSome = false := by simp [hrun]
  unfold tipStartBody
  rw [hd, hrun]
  cases mode <;> rfl

/-- Settles O25: the tests in their order, then the mode decides. -/
theorem tipStartBeginsARun : Obligations.TipStartBeginsARun := by
  unfold Obligations.TipStartBeginsARun
  refine ⟨fun h s ht hd hrun => ?_, fun h n s r ht hd hrun hn hr hr0 => ?_, fun h mode s ht hd => ?_,
    fun h mode s ht hd hrun => ?_, fun h mode n s ht hd hrun hbad => ?_⟩
  · refine congrArg Host.Outcome.next ((request_accepted ht (tipStartBody_idle hd hrun _) ?_).trans ?_) <;> rfl
  · have hok : ¬ (52 < n ∨ (n = 0 ∧ inboundCount s.deck = 0)) := by
      rintro (h52 | ⟨h0, hin⟩)
      · omega
      · rw [if_pos h0] at hr; exact hr0 (hr.trans hin)
    have hbody := tipStartBody_idle hd hrun (.counted n)
    dsimp only at hbody
    rw [if_neg hok, ← hr] at hbody
    refine congrArg Host.Outcome.next ((request_accepted ht hbody ?_).trans ?_) <;> rfl
  · exact congrArg Host.Outcome.next (request_refused ht (by simp [tipStartBody, hd]))
  · have hdock : s.docking ≠ none := Option.isSome_iff_ne_none.1 hd
    exact congrArg Host.Outcome.next (request_refused ht (by simp [tipStartBody, hdock, hrun]))
  · refine congrArg Host.Outcome.next (request_refused ht ((tipStartBody_idle hd hrun mode).trans ?_))
    rcases hbad with rfl | ⟨rfl, hbad⟩
    · rfl
    · exact if_pos hbad

/-! ## The reads -/

theorem mem_of_advised {l : List LaneEntry} {a : LaneEntry} (h : advised l = some a) : a ∈ l := by
  induction l with
  | nil => cases h
  | cons x xs ih =>
    unfold advised at h
    split at h
    next => cases h; simp
    next b hb =>
      split at h
      next => cases h; simp
      next => cases h; exact List.mem_cons_of_mem x (ih hb)

/-- The advised pallet has the highest rank, and is the oldest of that rank (R36). -/
theorem advised_eq_some {older newer : List LaneEntry} {e : LaneEntry} (ho : ∀ x ∈ older, x.rank < e.rank)
    (hn : ∀ x ∈ newer, x.rank ≤ e.rank) : advised (older ++ e :: newer) = some e := by
  induction older with
  | nil =>
    show advised (e :: newer) = some e
    unfold advised
    split
    next => rfl
    next a ha => exact if_pos (hn a (mem_of_advised ha))
  | cons x older ih =>
    have hx : x.rank < e.rank := ho x (by simp)
    show advised (x :: (older ++ e :: newer)) = some e
    rw [advised, ih fun y hy => ho y (List.mem_cons_of_mem x hy)]
    exact if_neg (Nat.not_le.2 hx)

/-- Settles O41: each read hands out what its block holds, and the advice is the one of R36. -/
theorem readsThatChangeNothing : Obligations.ReadsThatChangeNothing := by
  unfold Obligations.ReadsThatChangeNothing
  refine ⟨fun h s ht => ⟨?_, ?_, ?_, ?_⟩, fun h s older newer e ht hl ho hn => ?_, fun h s ht hl => ?_⟩
  · exact congrArg Host.Outcome.next (request_accepted (r := .readStatus) ht rfl rfl)
  · exact congrArg Host.Outcome.next (request_accepted (r := .readHolds) ht rfl rfl)
  · exact congrArg Host.Outcome.next (request_accepted (r := .readTransfer) ht rfl rfl)
  · exact congrArg Host.Outcome.next (request_accepted (r := .readDirectory) ht rfl rfl)
  · have hadv : advised s.lane = some e := hl ▸ advised_eq_some ho hn
    exact congrArg Host.Outcome.next (request_accepted (r := .readLane) ht (by rw [hadv]) rfl)
  · exact congrArg Host.Outcome.next (request_accepted (r := .readLane) ht (by rw [hl]; rfl) rfl)

end Sys2Proof.Machine
end

section
/-! PROOF. LOAD that starts the call (O30), with what the beacon leaves of the transmit queue's room and what follows
where a call starts at once. -/

namespace Sys2Proof.Machine

variable {s x : State}

/-! ## The room of the queue after a beacon -/

theorem beaconedChange_line (s : State) : (beaconedChange s).link.line = s.link.line := by
  have h := congrArg (fun y : State => y.link.line) (beaconedChange_keep s)
  exact h

/-- The own beacon takes one slot of the queue at most (R79). -/
theorem beaconedChange_queue_length (s : State) :
    (beaconedChange s).link.queue.length ≤ s.link.queue.length + 1 := by
  rw [beaconedChange_link (t := withInterval s) rfl rfl rfl]
  unfold linkWithBeacon
  split
  · split
    · exact Nat.le_succ _
    · rw [insertQueued_length]
      exact Nat.succ_le_succ (List.length_filter_le _ _)
  · split
    · rw [insertQueued_length]
    · exact Nat.le_succ _

theorem recomputeUrgency_line (s : State) : (recomputeUrgency s).link.line = s.link.line := by
  rw [recomputeUrgency_eq]
  split
  · exact beaconedChange_line _
  · rfl

theorem recomputeUrgency_queue_length (s : State) :
    (recomputeUrgency s).link.queue.length ≤ s.link.queue.length + 1 := by
  rw [recomputeUrgency_eq]
  split
  · exact beaconedChange_queue_length _
  · exact Nat.le_succ _

/-- With two free slots there is room for the CALL after the beacon (R79). -/
theorem hasRoom_call {q r : List Queued} (hq : q.length < 15) (hr : r.length ≤ q.length + 1) : hasRoom 0 r = true :=
  (hasRoom_iff 0 r).2 ⟨by omega, .inl (by decide)⟩

/-! ## A call that starts at once -/

/-- The start of a call changes Departure Control, the queue and the own beacon alone (R142). -/
theorem startCall_changes (s : State) : startCall s =
    { s with dep := calledDep s, link := (startCall s).link, dir := (startCall s).dir } := by
  apply state_eq <;> simp [startCall_notes, startCall_dep]

/-- The CALL started from a state with the door's bay and call number (R142). -/
theorem exists_call_startCall (hroom : hasRoom 0 x.link.queue = true) (hs : x.straps = s.straps)
    (hn : x.dep.callNumber = s.dep.callNumber) : ∃ f ∈ (startCall x).link.queue,
      f.body = .call { bay := s.straps.bay, number := (s.dep.callNumber + 1) % 256 } :=
  ⟨_, call_mem_startCall hroom, by rw [hs, hn]; rfl⟩

/-- AUTOCLOSE READY becoming true where a call can start (R141). -/
theorem checkAutoclose_start (hauto : s.straps.autoClose = true) (hc : autocloseNow s = true)
    (hwas : s.dep.autoWas = false) (hs : s.dep.state = some .openBay) :
    checkAutoclose s = autoStart .autocloseReady (setDep { s.dep with autoWas := true } s) := by
  simp [checkAutoclose, hauto, hc, hwas, hs]

/-- READY and the AUTOCLOSE READY condition worked out true, before the call starts (R139, R141). -/
def readied (s : State) : State :=
  { s with dep := { s.dep with ready := true, autoWas := true }, notes := (checkReady s).notes }

/-- A door that comes to be READY with O at E or above calls at once where it can (R141). -/
theorem settle_starts (hauto : s.straps.autoClose = true) (hready : readyNow s = true)
    (hE : expectedLoad s ≤ outboundCount s.deck) (hwas : s.dep.autoWas = false) (hcan : canStart s = true) :
    settle s = startCall (readied s) := by
  have hopen : s.dep.state = some .openBay := by
    simp only [readyNow, Bool.and_eq_true, beq_iff_eq] at hready
    exact hready.1.1.1
  have hcheck : setDep { (checkReady s).dep with autoWas := true } (checkReady s) = readied s := by
    rw [readied, checkReady_eq, hready]
    rfl
  have hnow : autocloseNow (checkReady s) = true := by
    rw [checkReady_eq, hready]
    exact decide_eq_true hE
  rw [settle, checkAutoclose_start (by rw [checkReady_straps, hauto]) hnow (by rw [checkReady_eq]; exact hwas)
    (by rw [checkReady_eq]; exact hopen), hcheck, autoStart, if_pos]
  exact canStart_iff.2 (canStart_iff.1 hcan)

/-- READY that becomes true is noticed ahead of the call (R139). -/
theorem hasFlag_readied (hready : readyNow s = true) (hnot : s.dep.ready = false) :
    hasFlag (readied s).notes.summary .ready = true := by
  rw [readied, checkReady_eq, hready, hnot]
  exact hasFlag_raise _ _ _ _

/-- Settles O30: with the lane empty the bay is READY, and the beacon that U may bring leaves room for the CALL. -/
theorem loadMayStartTheCall : Obligations.LoadMayStartTheCall := by
  unfold Obligations.LoadMayStartTheCall
  intro h s d e ht hd hlane hin hc hl hauto hopen hwas hrun howing hholds hE hline hq
  have hbody := loadBody_push (label := e.label) hd (by simp [hlane]) hin hc hl
  have hdep : (recomputeUrgency (loaded e e.label s)).dep = s.dep := recomputeUrgency_dep _
  have hstraps : (recomputeUrgency (loaded e e.label s)).straps = s.straps := recomputeUrgency_straps _
  have hport : (recomputeUrgency (loaded e e.label s)).port = s.port := recomputeUrgency_port _
  have hlaneAfter : (recomputeUrgency (loaded e e.label s)).lane = [] := by simp [loaded, hlane]
  have hdeck : (recomputeUrgency (loaded e e.label s)).deck.entries.length = s.deck.entries.length + 1 := by
    simp [loaded]
  have hroom : hasRoom 0 (recomputeUrgency (loaded e e.label s)).link.queue = true :=
    hasRoom_call (q := s.link.queue) hq (recomputeUrgency_queue_length _)
  have hready : readyNow (recomputeUrgency (loaded e e.label s)) = true := by
    simp [readyNow, loaded, hlane, hopen, howing, hholds]
  have hcan : canStart (recomputeUrgency (loaded e e.label s)) = true := by
    rw [canStart_iff, recomputeUrgency_line, recomputeUrgency_time, recomputeUrgency_run]
    exact ⟨hrun, hroom, hline⟩
  have hreached : expectedLoad (recomputeUrgency (loaded e e.label s))
      ≤ outboundCount (recomputeUrgency (loaded e e.label s)).deck := by
    rw [recomputeUrgency_deck, outboundCount_loaded, expectedLoad, recomputeUrgency_docking]
    simpa [loaded, hd] using hE
  generalize recomputeUrgency (loaded e e.label s) = y at *
  rw [settle_starts (by rw [hstraps, hauto]) hready hreached (by rw [hdep, hwas]) hcan] at hbody
  refine ⟨_, congrArg Host.Outcome.next (request_accepted (r := .load) ht hbody ?_), ?_, ?_, ?_, ?_, fun hnot => ?_⟩
  · exact (startCall_port _).trans hport
  · rw [startCall_dep]
    simp only [calledDep, readied, hdep]
  · exact exists_call_startCall hroom hstraps (by rw [← hdep]; rfl)
  · exact (startCall_lane _).trans hlaneAfter
  · rw [startCall_deck]
    exact hdeck
  · rw [startCall_notes]
    exact hasFlag_readied hready (by rw [hdep, hnot])

end Sys2Proof.Machine
end

section
/-! SUPPORT. The cutoff tests of a recomputation of M told apart (R55, R56): the warning, and then the cutoff-reached
event. -/

namespace Sys2Proof.Machine

variable {s u v : State}

/-- A notice carries T and the seconds, and nothing else of the time. -/
theorem raise_notes_clock (k : NoticeKind) (a b : Nat) (hn : u.notes = v.notes) (hm : u.time.minute = v.time.minute)
    (hs : u.time.seconds = v.time.seconds) : (raise k a b u).notes = (raise k a b v).notes := by
  simp only [raise, hn, hm, hs]

/-- The cutoff warning (R55): where M is 15 or less the mark is set, with CUTOFF_NEAR where it was clear. -/
def warnCutoff (cutoff : Nat) (s : State) : State :=
  { s with
    time := { s.time with warned := s.time.warned || decide (s.time.m ≤ 15) }
    notes := if s.time.m ≤ 15 ∧ s.time.warned = false then (raise .cutoffNear s.time.m cutoff s).notes else s.notes }

theorem cutoffTests_eq (before cutoff : Nat) (s : State) : cutoffTests before cutoff s =
    if s.time.m = 0 ∧ 0 < before then cutoffReached (warnCutoff cutoff s) else warnCutoff cutoff s := by
  have hwarn : (if s.time.m ≤ 15 ∧ s.time.warned = false then
      raise .cutoffNear s.time.m cutoff (setTime { s.time with warned := true } s) else s) = warnCutoff cutoff s := by
    unfold warnCutoff
    split
    next h => simp only [h, decide_true, Bool.or_true]; rfl
    next h =>
      have hw : (s.time.warned || decide (s.time.m ≤ 15)) = s.time.warned := by
        cases hs : s.time.warned
        · simpa [hs] using h
        · rfl
      rw [hw]
  unfold cutoffTests
  dsimp only
  rw [hwarn]
  rfl

end Sys2Proof.Machine
end

section
/-! PROOF. DOCK (O23): the bay opened, M and U worked out, the beacon and the cutoff warning, and after them the
AUTOCLOSE READY condition, which decides between a call, a pending start and neither. -/

namespace Sys2Proof.Machine

variable {s t : State} {d : Docking}

/-! ## The bay opened -/

/-- The record bound and Departure Control in OPEN, before READY is worked out (R21). -/
def docked (d : Docking) (s : State) : State :=
  { s with
    docking := some d
    dep := { s.dep with state := some .openBay, window := none, named := [], allowance := none, startPending := [],
                        lamp := false, halt := false, retry := false } }

/-- The Time Base after a DOCK: M worked out, and the warning mark (R53, R55). -/
def dockedTime (d : Docking) (s : State) : TimeBase :=
  { s.time with
    m := effectiveMinutes s.time d.cutoff, warned := decide (effectiveMinutes s.time d.cutoff ≤ 15) }

/-- The door with READY raised where it became true (R139). -/
def dockReadied (d : Docking) (s : State) : State :=
  if readyNow (docked d s) && !s.dep.ready then raise .ready (outboundCount s.deck) d.expected s else s

/-- The notices of a DOCK: READY, and after it CUTOFF_NEAR where M is 15 or less (R55, Log 18). -/
def dockNotices (d : Docking) (s : State) : Notices :=
  if effectiveMinutes s.time d.cutoff ≤ 15 then
    (raise .cutoffNear (effectiveMinutes s.time d.cutoff) d.cutoff (dockReadied d s)).notes
  else (dockReadied d s).notes

/-- The door as the beacon of a DOCK is handed over (R21). -/
def dockTimed (d : Docking) (s : State) : State :=
  withUrgency (setTime { s.time with warned := false, m := effectiveMinutes s.time d.cutoff } (checkReady (docked d s)))

theorem dockTimed_eq (d : Docking) (s : State) : dockTimed d s = { s with
    docking := some d, time := { s.time with warned := false, m := effectiveMinutes s.time d.cutoff }
    urgency := urgencyFor (effectiveMinutes s.time d.cutoff) d.expected (outboundCount s.deck) d.handling
    dep := { (docked d s).dep with ready := readyNow (docked d s) }, notes := (dockReadied d s).notes } := by
  rw [dockTimed, checkReady_eq, dockReadied, apply_ite State.notes]
  rfl

/-- The door after the beacon and the cutoff warning of a DOCK. -/
def dockWarned (d : Docking) (s : State) : State := warnCutoff d.cutoff (beaconedChange (dockTimed d s))

theorem dockWarned_notes (d : Docking) (s : State) : (dockWarned d s).notes = dockNotices d s := by
  have hclock : (dockReadied d s).time = s.time := by
    unfold dockReadied
    split <;> rfl
  have hbase : (beaconedChange (dockTimed d s)).notes = (dockReadied d s).notes := by
    rw [beaconedChange_notes, dockTimed_eq]
  have htime : (beaconedChange (dockTimed d s)).time =
      { s.time with warned := false, m := effectiveMinutes s.time d.cutoff } := by
    rw [beaconedChange_time, dockTimed_eq]
  unfold dockWarned warnCutoff dockNotices
  simp only [htime, hbase, and_true]
  split
  · exact raise_notes_clock _ _ _ hbase (by rw [htime, hclock]) (by rw [htime, hclock])
  · rfl

/-- What a DOCK does before the AUTOCLOSE READY condition is worked out. -/
theorem dockWarned_eq (d : Docking) (s : State) : dockWarned d s = { s with
    docking := some d, time := dockedTime d s
    urgency := urgencyFor (effectiveMinutes s.time d.cutoff) d.expected (outboundCount s.deck) d.handling
    dep := { (docked d s).dep with ready := readyNow (docked d s) }
    link := (beaconedChange (dockTimed d s)).link, dir := (beaconedChange (dockTimed d s)).dir
    notes := dockNotices d s } := by
  apply state_eq
  case h4 => exact dockWarned_notes d s
  all_goals simp [dockWarned, warnCutoff, dockTimed_eq, dockedTime]

theorem takeDock_eq (d : Docking) (s : State) : takeDock d s = checkAutoclose (dockWarned d s) := by
  unfold takeDock
  dsimp only
  rw [cutoffTests_eq, if_neg (by omega)]
  simp only [checkReady_time]
  rfl

/-! ## The AUTOCLOSE READY condition -/

theorem autoStart_notes (c : StartCause) (s : State) : (autoStart c s).notes = s.notes := by
  unfold autoStart
  split
  · exact startCall_notes s
  · split <;> rfl

theorem checkAutoclose_notes (s : State) : (checkAutoclose s).notes = s.notes := by
  unfold checkAutoclose
  dsimp only
  split
  · exact autoStart_notes _ _
  · rfl

/-- Where the condition is not true nothing starts (R141). -/
theorem checkAutoclose_idle (h : s.straps.autoClose = false ∨ autocloseNow s = false) :
    checkAutoclose s = setDep { s.dep with autoWas := autocloseNow s } s := by
  unfold checkAutoclose
  dsimp only
  rw [if_neg]
  rcases h with h | h <;> simp [h]

/-- What settling changes leaves everything but Departure Control, the notices, the queue and the own beacon. -/
theorem eq_of_keepSettle (h : keepSettle t = keepSettle s) :
    t = { s with dep := t.dep, notes := t.notes, link := t.link, dir := t.dir } :=
  (congrArg (fun y : State => { y with dep := t.dep, notes := t.notes, link := t.link, dir := t.dir }) h :)

/-- What a DOCK does whether a call starts or not: it leaves deck, lane, table, groups and run as they were. -/
theorem takeDock_common (d : Docking) (s : State) : takeDock d s = { s with
    docking := some d, time := dockedTime d s, notes := dockNotices d s
    urgency := urgencyFor (effectiveMinutes s.time d.cutoff) d.expected (outboundCount s.deck) d.handling
    dep := (takeDock d s).dep, link := (takeDock d s).link, dir := (takeDock d s).dir } := by
  have hkeep := eq_of_keepSettle (checkAutoclose_keep (dockWarned d s))
  have hnotes := (checkAutoclose_notes (dockWarned d s)).trans (dockWarned_notes d s)
  rw [← takeDock_eq] at hkeep hnotes
  rw [hnotes, dockWarned_eq] at hkeep
  exact hkeep

/-! ## A DOCK taken -/

/-- A DOCK that passes the tests of R20 is taken. -/
theorem dockBody_taken {p : DockParams} {c pl k : Nat} (hd : s.docking = none) (hclock : s.time.clockSet = true)
    (hc : p.capacity = some c) (hpl : p.payload = some pl) (hk : p.cutoff = some k) (hdrops : dropsOk p.drops = true)
    (hc1 : 1 ≤ c) (hc2 : c ≤ 52) (hk1 : k ≤ 1439) (hm : effectiveMinutes s.time k ≠ 0)
    (hbound : d = boundDocking p.drops c pl k p.handling p.expected) : dockBody p s =
      accept (.dock (takeDock d s).time.m (takeDock d s).urgency d.payload d.handling d.expected) (takeDock d s) := by
  have hrange : ¬ (c = 0 ∨ 52 < c) := by omega
  simp [dockBody, hd, hclock, hc, hpl, hk, hdrops, hrange, minuteOk, hk1, hm, hbound]

/-- The door that a DOCK leaves, but for Departure Control, the queue and the own beacon (R21). -/
structure DockLeaves (d : Docking) (s t : State) : Prop where
  docking : t.docking = some d
  time : t.time = dockedTime d s
  urgency : t.urgency = urgencyNow t
  notes : t.notes = dockNotices d s
  frame : t = { s with
    docking := t.docking, time := t.time, urgency := t.urgency, dep := t.dep, link := t.link, dir := t.dir
    notes := t.notes, port := t.port }

theorem takeDock_leaves (d : Docking) (s : State) (p : Port) : DockLeaves d s { takeDock d s with port := p } := by
  rw [takeDock_common]
  exact ⟨rfl, rfl, rfl, rfl, rfl⟩

theorem DockLeaves.readyNow_eq (h : DockLeaves d s t) (hs : t.dep.state = some .openBay) :
    readyNow t = readyNow (docked d s) := by
  have hframe := h.frame
  have hstore : t.store = s.store := by rw [hframe]
  have hlane : t.lane = s.lane := by rw [hframe]
  simp only [readyNow, hs, hstore, hlane]
  rfl

/-- With the bay OPEN and no halt the beacon is the one handed over, whatever else stands in Departure Control (R85). -/
theorem DockLeaves.beaconSent (h : DockLeaves d s t) (hs : t.dep.state = some .openBay) (hh : t.dep.halt = false)
    (hl : t.link = (dockWarned d s).link) (hd : t.dir = (dockWarned d s).dir) : BeaconSent s t := by
  have hframe := h.frame
  have hdeck : t.deck = s.deck := by rw [hframe]
  have hu : t.urgency = (dockTimed d s).urgency := by
    rw [h.urgency, urgencyNow, h.docking, h.time, hdeck, dockTimed_eq]
    rfl
  refine beaconSent_of (u := dockTimed d s) ?_ ?_ hl hd ⟨?_, ?_, contentNow_congr ?_ ?_ ?_ ?_ ?_ ?_ hu, ?_, hu⟩
  all_goals rw [dockTimed_eq]
  · rw [hframe]
  · exact h.docking
  · exact h.docking
  · exact hs
  · exact hh
  · rw [hdeck]
  · rw [hframe]
  · rw [hframe]
  · rw [h.time]; rfl

/-! ## What the AUTOCLOSE READY condition brings -/

/-- Where nothing starts, the condition stands as worked out (R141). -/
theorem takeDock_idle (h : s.straps.autoClose = false ∨ outboundCount s.deck < d.expected) : takeDock d s =
    setDep { (dockWarned d s).dep with autoWas := autocloseNow (dockWarned d s) } (dockWarned d s) := by
  rw [takeDock_eq]
  refine checkAutoclose_idle ?_
  rw [dockWarned_eq]
  rcases h with h | h
  · exact .inl h
  · refine .inr ?_
    show (readyNow (docked d s) && decide (d.expected ≤ outboundCount s.deck)) = false
    rw [decide_eq_false (Nat.not_le.2 h), Bool.and_false]

/-- With the door READY, O at E or above and AUTOCLOSE set, a DOCK makes an automatic start (R141). -/
theorem takeDock_starts (hauto : s.straps.autoClose = true) (hE : d.expected ≤ outboundCount s.deck)
    (hwas : s.dep.autoWas = false) (hready : readyNow (docked d s) = true) : takeDock d s =
      autoStart .autocloseReady (setDep { (dockWarned d s).dep with autoWas := true } (dockWarned d s)) := by
  rw [takeDock_eq, dockWarned_eq]
  refine checkAutoclose_start hauto ?_ hwas rfl
  show (readyNow (docked d s) && decide (d.expected ≤ outboundCount s.deck)) = true
  rw [decide_eq_true hE, hready, Bool.and_true]

theorem readyNow_docked (howing : s.store.owing = []) (hholds : s.store.holds = []) (hlane : s.lane = []) :
    readyNow (docked d s) = true := by
  simp [readyNow, docked, howing, hholds, hlane]

theorem DockLeaves.autocloseNow_eq (h : DockLeaves d s t) (hr : t.dep.ready = readyNow (docked d s)) :
    autocloseNow t = (readyNow (docked d s) && decide (d.expected ≤ outboundCount s.deck)) := by
  have hdeck : t.deck = s.deck := by rw [h.frame]
  simp only [autocloseNow, expectedLoad, hr, hdeck, h.docking]
  rfl

theorem autocloseNow_dockWarned (d : Docking) (s : State) : autocloseNow (dockWarned d s) =
    (readyNow (docked d s) && decide (d.expected ≤ outboundCount s.deck)) := by
  rw [dockWarned_eq]
  rfl

/-- The beacon of a DOCK takes one slot at most (R79). -/
theorem dockWarned_queue_length (d : Docking) (s : State) :
    (dockWarned d s).link.queue.length ≤ s.link.queue.length + 1 := by
  have hlink : (dockTimed d s).link = s.link := by rw [dockTimed_eq]
  rw [← hlink]
  exact beaconedChange_queue_length (dockTimed d s)

/-- The conditions of R141 after a DOCK. -/
theorem canStart_dockWarned (dep : Departure) : canStart (setDep dep (dockWarned d s)) = true ↔ s.run.mode = none
    ∧ hasRoom 0 (dockWarned d s).link.queue = true
    ∧ (s.link.line = .joined ∨ effectiveMinutes s.time d.cutoff = 0) := by
  have hrun : (dockWarned d s).run = s.run := by rw [dockWarned_eq]
  have hline : (dockWarned d s).link.line = s.link.line := (beaconedChange_line _).trans (by rw [dockTimed_eq])
  have htime : (dockWarned d s).time.m = effectiveMinutes s.time d.cutoff := by rw [dockWarned_eq]; rfl
  rw [canStart_iff, setDep_run, setDep_link, setDep_time, hrun, hline, htime]

/-- Both notices of a DOCK where the door is READY (R55, R139). -/
theorem dockNotices_ready (hready : readyNow (docked d s) = true) : dockNotices d s =
    (let a := if s.dep.ready = false then raise .ready (outboundCount s.deck) d.expected s else s
     if effectiveMinutes s.time d.cutoff ≤ 15 then
       (raise .cutoffNear (effectiveMinutes s.time d.cutoff) d.cutoff a).notes
     else a.notes) := by
  simp only [dockNotices, dockReadied, hready, Bool.true_and, Bool.not_eq_true']

/-- A DOCK that passes the tests of R20, with its reply. -/
theorem exec_dock {h : ReqHead} {p : DockParams} {c pl k : Nat} (ht : Taken h s) (hd : s.docking = none)
    (hclock : s.time.clockSet = true) (hc : p.capacity = some c) (hpl : p.payload = some pl) (hk : p.cutoff = some k)
    (hdrops : dropsOk p.drops = true) (hc1 : 1 ≤ c) (hc2 : c ≤ 52) (hk1 : k ≤ 1439)
    (hm : effectiveMinutes s.time k ≠ 0) (hbound : d = boundDocking p.drops c pl k p.handling p.expected) :
    ∃ t, exec (.dock h p) s = .next t ∧ DockLeaves d s t
      ∧ t.dep = (takeDock d s).dep ∧ t.link = (takeDock d s).link ∧ t.dir = (takeDock d s).dir
      ∧ t.port = replyPort h (.ok .dock (.dock t.time.m t.urgency d.payload d.handling d.expected)) s t :=
  ⟨_, congrArg Host.Outcome.next (request_accepted (r := .dock) ht
      (dockBody_taken hd hclock hc hpl hk hdrops hc1 hc2 hk1 hm hbound) (by rw [takeDock_common])),
    takeDock_leaves d s _, rfl, rfl, rfl, rfl⟩

/-- Settles O23: the door a DOCK leaves is one in all cases, and the AUTOCLOSE READY condition decides the rest. -/
theorem dockBindsTheTrailer : Obligations.DockBindsTheTrailer := by
  unfold Obligations.DockBindsTheTrailer
  refine ⟨fun h p s c pl k ht hd hclock hc hpl hk hdrops hc1 hc2 hk1 hm hno => ?_,
    fun h p s c pl k ht hd hclock hc hpl hk hdrops hc1 hc2 hk1 hm hauto hE hwas howing hholds hlane hrun hline hq => ?_,
    fun h p s c pl k ht hd hclock hc hpl hk hdrops hc1 hc2 hk1 hm hauto hE hwas howing hholds hlane hno => ?_⟩
  all_goals
    obtain ⟨d, hbound⟩ : ∃ d, d = boundDocking p.drops c pl k p.handling p.expected := ⟨_, rfl⟩
    obtain ⟨t, hexec, hleaves, hdep, hlink, hdir, hport⟩ :=
      exec_dock ht hd hclock hc hpl hk hdrops hc1 hc2 hk1 hm hbound
    have htime := hleaves.time
    have hnotes := hleaves.notes
  · -- nothing starts
    rw [takeDock_idle (by rw [hbound]; exact hno)] at hdep hlink hdir
    have hopen : t.dep.state = some .openBay := by rw [hdep, dockWarned_eq]; rfl
    have hready := hleaves.readyNow_eq hopen
    have hnow := hleaves.autocloseNow_eq (by rw [hdep, dockWarned_eq]; rfl)
    rw [← autocloseNow_dockWarned] at hnow
    subst hbound
    refine ⟨t, hexec, hleaves.docking, htime, hleaves.urgency, ?_, ?_, ?_, hport, hleaves.frame⟩
    · rw [hdep, hready, hnow, dockWarned_eq]; rfl
    · exact hleaves.beaconSent hopen (by rw [hdep, dockWarned_eq]; rfl) hlink hdir
    · rw [hready, htime]; exact hnotes
  · -- the call starts
    have hready : readyNow (docked d s) = true := readyNow_docked howing hholds hlane
    have hroom : hasRoom 0 (dockWarned d s).link.queue = true := hasRoom_call hq (dockWarned_queue_length d s)
    have hcan : canStart (setDep { (dockWarned d s).dep with autoWas := true } (dockWarned d s)) = true :=
      (canStart_dockWarned _).2 ⟨hrun, hroom, .inl hline⟩
    rw [takeDock_starts hauto (by rw [hbound]; exact hE) hwas hready, autoStart, if_pos hcan] at hdep hlink hdir
    rw [dockNotices_ready hready] at hnotes
    subst hbound
    refine ⟨t, hexec, hleaves.docking, htime, hleaves.urgency, ?_, ?_, ?_, hport, hleaves.frame⟩
    · rw [hdep, startCall_dep, dockWarned_eq]; rfl
    · rw [hlink]
      exact exists_call_startCall hroom (by rw [dockWarned_eq]; rfl) (by rw [dockWarned_eq]; rfl)
    · rw [htime]; exact hnotes
  · -- the automatic start becomes pending
    have hready : readyNow (docked d s) = true := readyNow_docked howing hholds hlane
    have hcan : ¬ canStart (setDep { (dockWarned d s).dep with autoWas := true } (dockWarned d s)) = true := by
      rw [canStart_dockWarned, hbound]
      rintro ⟨hrun, -, hline | hzero⟩
      · exact hno.elim (fun h => h hrun) (fun h => h hline)
      · exact hm hzero
    have hpend : ¬ (setDep { (dockWarned d s).dep with autoWas := true } (dockWarned d s)).dep.startPending.contains
        StartCause.autocloseReady = true := by
      rw [dockWarned_eq]; exact Bool.false_ne_true
    rw [takeDock_starts hauto (by rw [hbound]; exact hE) hwas hready, autoStart, if_neg hcan, if_neg hpend]
      at hdep hlink hdir
    have hopen : t.dep.state = some .openBay := by rw [hdep, dockWarned_eq]; rfl
    rw [dockNotices_ready hready] at hnotes
    subst hbound
    refine ⟨t, hexec, hleaves.docking, htime, hleaves.urgency, ?_, ?_, ?_, hport, hleaves.frame⟩
    · rw [hdep, dockWarned_eq, hready]; rfl
    · exact hleaves.beaconSent hopen (by rw [hdep, dockWarned_eq]; rfl) hlink hdir
    · rw [htime]; exact hnotes

end Sys2Proof.Machine
end

section
/-! SUPPORT. Entering CLOSED (R149): the holds voided, DONE queued or owed, Departure Control, and the notices. -/

namespace Sys2Proof.Machine

variable {s : State}

/-! ## The holds voided -/

theorem removeHold_dep (l : Nat) (s : State) : (removeHold l s).dep = s.dep := announce_dep _ _

theorem removeHold_store (l : Nat) (s : State) : (removeHold l s).store =
    { s.store with holds := s.store.holds.filter (fun h => h.label != l) } := announce_store _ _

theorem foldl_removeHold_store (labels : List Nat) (s : State) :
    (labels.foldl (fun u l => removeHold l u) s).store =
      { s.store with holds := s.store.holds.filter (fun h => !labels.contains h.label) } := by
  induction labels generalizing s with
  | nil => simp
  | cons l labels ih =>
    rw [List.foldl_cons, ih, removeHold_store]
    simp [List.filter_filter, Bool.and_comm, bne, Bool.beq_eq_decide_eq]

theorem voidHolds_dep (p : Hold → Bool) (s : State) : (voidHolds p s).dep = s.dep := by
  have h := foldl_keep State.dep (fun u l => removeHold l u) (fun u l => removeHold_dep l u)
    ((s.store.holds.filter p).map (·.label)) s
  unfold voidHolds
  dsimp only
  split
  · exact h
  · exact h

/-- Every hold voided leaves none (R149). -/
theorem voidHolds_all_store (s : State) : (voidHolds (fun _ => true) s).store = { s.store with holds := [] } := by
  have h := foldl_removeHold_store (s.store.holds.map (·.label)) s
  have hnil : s.store.holds.filter (fun h => !(s.store.holds.map (·.label)).contains h.label) = [] := by
    refine List.filter_eq_nil_iff.2 fun x hx => ?_
    simpa using ⟨x, hx, rfl⟩
  rw [hnil] at h
  unfold voidHolds
  dsimp only
  rw [List.filter_true]
  split
  · exact h
  · exact h

theorem hasFlag_voidHolds (h : s.store.holds ≠ []) :
    hasFlag (voidHolds (fun _ => true) s).notes.summary .voided = true := by
  unfold voidHolds
  dsimp only
  rw [List.filter_true, if_neg (by simpa using h)]
  exact hasFlag_raise _ _ _ _

/-! ## DONE and CLOSED -/

/-- DONE handed to the queue, or owed where there is no room (R149). -/
def askDone (s : State) : State :=
  match handFrame (.done { bay := s.straps.bay }) s with
  | some t => t
  | none => setDep { s.dep with doneOwed := true } s

theorem askDone_cases (s : State) : askDone s = setDep { s.dep with doneOwed := true } s
    ∨ ∃ f, f.body = .done { bay := s.straps.bay } ∧ askDone s = setQueue (insertQueued f s.link.queue) s := by
  unfold askDone
  rcases handFrame_cases (.done { bay := s.straps.bay }) s with ⟨-, h⟩ | ⟨-, h⟩ <;> rw [h]
  · exact .inl rfl
  · exact .inr ⟨_, rfl, rfl⟩

/-- Departure Control in CLOSED (R149). -/
def closedDep (s : State) : Departure :=
  { s.dep with state := some .closed, lamp := true, window := none, allowance := none, named := [] }

/-- The door closed, as the CLOSED notice is raised. -/
def closedDoor (s : State) : State := beaconedChange (setDep (closedDep s) s)

/-- In CLOSED the bay is not READY, and nothing starts (R139, R141). -/
theorem settle_closedDoor (c : CloseCause) (s : State) :
    settle (raise .closed c.code (closedDoor s).dep.callNumber (closedDoor s)) =
      setDep { closedDep s with ready := false, autoWas := false }
        (raise .closed c.code s.dep.callNumber (closedDoor s)) := by
  have hdep : (closedDoor s).dep = closedDep s := beaconedChange_dep _
  have hnot : readyNow (raise .closed c.code (closedDoor s).dep.callNumber (closedDoor s)) = false := by
    simp [readyNow, hdep, closedDep]
  rw [settle_not_ready hnot, raise_dep, hdep]
  rfl

theorem enterClosed_eq (c : CloseCause) (s : State) : enterClosed c s =
    setDep { closedDep (askDone (voidHolds (fun _ => true) s)) with ready := false, autoWas := false }
      (raise .closed c.code (askDone (voidHolds (fun _ => true) s)).dep.callNumber
        (closedDoor (askDone (voidHolds (fun _ => true) s)))) := by
  have hstate (u : State) : setDepState (some .closed) (setDep { u.dep with
      lamp := true, window := none, allowance := none, named := [] } u) = closedDoor u := rfl
  rw [← settle_closedDoor, ← hstate]
  rfl

theorem enterClosed_dep (c : CloseCause) (s : State) : (enterClosed c s).dep =
    { s.dep with
      state := some .closed, lamp := true, window := none, allowance := none, named := []
      doneOwed := (enterClosed c s).dep.doneOwed, ready := false, autoWas := false } := by
  rw [enterClosed_eq, setDep_dep]
  rcases askDone_cases (voidHolds (fun _ => true) s) with h | ⟨f, -, h⟩
  · rw [h, closedDep, setDep_dep, voidHolds_dep]
  · rw [h, closedDep, setQueue_dep, voidHolds_dep]

theorem enterClosed_store (c : CloseCause) (s : State) : (enterClosed c s).store = { s.store with holds := [] } := by
  rw [enterClosed_eq, setDep_store, raise_store, closedDoor, beaconedChange_store, setDep_store, ← voidHolds_all_store]
  rcases askDone_cases (voidHolds (fun _ => true) s) with h | ⟨f, -, h⟩ <;> rw [h] <;> rfl

/-- DONE is owed, or stands in the queue (R149). -/
theorem enterClosed_done (c : CloseCause) (s : State) : (enterClosed c s).dep.doneOwed = true
    ∨ ∃ f ∈ (enterClosed c s).link.queue, f.body = .done { bay := s.straps.bay } := by
  rw [enterClosed_eq]
  rcases askDone_cases (voidHolds (fun _ => true) s) with h | ⟨f, hf, h⟩ <;> rw [h]
  · exact .inl rfl
  · rw [voidHolds_straps] at hf
    refine .inr ⟨f, ?_, hf⟩
    rw [setDep_link, raise_link]
    refine mem_queue_beaconedChange (mem_insertQueued.2 (.inl rfl)) ?_
    rw [isBeacon, hf]
    rfl

theorem hasFlag_enterClosed (c : CloseCause) (s : State) :
    hasFlag (enterClosed c s).notes.summary .closed = true := by
  rw [enterClosed_eq, setDep_notes]
  exact hasFlag_raise _ _ _ _

theorem hasFlag_enterClosed_voided (c : CloseCause) (h : s.store.holds ≠ []) :
    hasFlag (enterClosed c s).notes.summary .voided = true := by
  have hnotes : (askDone (voidHolds (fun _ => true) s)).notes = (voidHolds (fun _ => true) s).notes := by
    rcases askDone_cases (voidHolds (fun _ => true) s) with h | ⟨f, -, h⟩ <;> rw [h] <;> rfl
  rw [enterClosed_eq, setDep_notes]
  refine hasFlag_raise_of _ _ _ ?_
  rw [closedDoor, beaconedChange_notes, setDep_notes, hnotes]
  exact hasFlag_voidHolds h

/-- What entering CLOSED leaves as it is. -/
theorem enterClosed_changes (c : CloseCause) (s : State) : enterClosed c s = { s with
    dep := (enterClosed c s).dep, store := (enterClosed c s).store, notes := (enterClosed c s).notes
    link := (enterClosed c s).link, dir := (enterClosed c s).dir } := by
  apply state_eq <;> simp

end Sys2Proof.Machine
end

section
/-! SUPPORT. M recomputed while DOCKED (R54): M and U worked out, the cutoff warning, and where M goes from above 0 to 0
the cutoff-reached event (R56, R152). -/

namespace Sys2Proof.Machine

variable {s t x : State} {d : Docking}

/-- The door with M worked out (R53, R54). -/
def withMinutes (d : Docking) (s : State) : State :=
  setTime { s.time with m := effectiveMinutes s.time d.cutoff } s

/-- The door with M and U recomputed and the cutoff warning given (R54, R55). -/
def measured (d : Docking) (s : State) : State := warnCutoff d.cutoff (recomputeUrgency (withMinutes d s))

theorem recomputeM_docked (hd : s.docking = some d) : recomputeM s =
    if effectiveMinutes s.time d.cutoff = 0 ∧ 0 < s.time.m then cutoffReached (measured d s) else measured d s := by
  have htime : (recomputeUrgency (withMinutes d s)).time = (withMinutes d s).time := recomputeUrgency_time _
  simp only [recomputeM, hd]
  rw [cutoffTests_eq]
  exact if_congr (by rw [← withMinutes, htime]; rfl) rfl rfl

theorem measured_eq (hd : s.docking = some d) : measured d s = { s with
    time := { s.time with
      m := effectiveMinutes s.time d.cutoff
      warned := s.time.warned || decide (effectiveMinutes s.time d.cutoff ≤ 15) }
    urgency := urgencyFor (effectiveMinutes s.time d.cutoff) d.expected (outboundCount s.deck) d.handling
    notes := if effectiveMinutes s.time d.cutoff ≤ 15 ∧ s.time.warned = false then
        (raise .cutoffNear (effectiveMinutes s.time d.cutoff) d.cutoff s).notes
      else s.notes
    link := (recomputeUrgency (withMinutes d s)).link, dir := (recomputeUrgency (withMinutes d s)).dir } := by
  have hu : (recomputeUrgency (withMinutes d s)).urgency =
      urgencyFor (effectiveMinutes s.time d.cutoff) d.expected (outboundCount s.deck) d.handling := by
    rw [recomputeUrgency_urgency, urgencyNow, withMinutes, setTime_docking, hd]
    rfl
  have hnotes : (measured d s).notes = if effectiveMinutes s.time d.cutoff ≤ 15 ∧ s.time.warned = false then
        (raise .cutoffNear (effectiveMinutes s.time d.cutoff) d.cutoff s).notes else s.notes := by
    have htime : (recomputeUrgency (withMinutes d s)).time = (withMinutes d s).time := recomputeUrgency_time _
    have hn : (recomputeUrgency (withMinutes d s)).notes = s.notes := recomputeUrgency_notes _
    simp only [measured, warnCutoff, htime, hn]
    exact if_congr Iff.rfl (raise_notes_clock _ _ _ hn (by rw [htime]; rfl) (by rw [htime]; rfl)) rfl
  apply state_eq
  case h4 => exact hnotes
  case h10 => exact hu
  all_goals simp [measured, warnCutoff, withMinutes]

/-- The beacon that U brings where it moved significantly, seen from a state with the link and directory before and
another that shows the values (R58). -/
theorem measured_beacon (hl : x.link = s.link) (hdir : x.dir = s.dir) (tl : t.link = (measured d s).link)
    (td : t.dir = (measured d s).dir) (h1 : t.straps = s.straps) (h2 : t.docking = s.docking) (h3 : t.dep = s.dep)
    (h4 : t.deck = s.deck) (h5 : t.lane = s.lane) (h6 : t.store = s.store)
    (h7 : t.time.m = effectiveMinutes s.time d.cutoff) (h8 : t.urgency = (measured d s).urgency) :
    BeaconIf (significant t.urgency x.dir.last.urgency) x t := by
  have hu : t.urgency = urgencyNow (withMinutes d s) := h8.trans (recomputeUrgency_urgency _)
  refine recomputeUrgency_beacon (x := withMinutes d s) hl hdir tl td ⟨h1, h2, ?_, h7, hu⟩
  exact contentNow_congr h2 (by rw [h3]; rfl) (by rw [h3]; rfl) (by rw [h4]; rfl) (by rw [h5]; rfl) (by rw [h6]; rfl) hu

/-- The cutoff reached where neither a call nor CLOSED follows: CUTOFF_REACHED in OPEN, and nothing elsewhere (R152). -/
theorem cutoffReached_notice (hw : s.dep.state ≠ some .waiting)
    (ha : s.straps.autoClose = false ∨ s.dep.state ≠ some .openBay) : cutoffReached s = { s with
      notes := if s.dep.state = some .openBay then
          (raise .cutoffReached ((s.docking.map (·.cutoff)).getD 0) s.time.minute s).notes
        else s.notes } := by
  unfold cutoffReached
  split
  next h =>
    rw [if_neg (by simpa [h] using ha), if_pos h]
    rfl
  next h => exact absurd h hw
  next h _ => rw [if_neg h]

theorem cutoffReached_auto (hs : s.dep.state = some .openBay) (ha : s.straps.autoClose = true) :
    cutoffReached s = autoStart .autocloseCutoff s := by
  simp [cutoffReached, hs, ha]

theorem cutoffReached_waiting (hs : s.dep.state = some .waiting) : cutoffReached s = enterClosed .waitLimit s := by
  simp [cutoffReached, hs]

end Sys2Proof.Machine
end

section
/-! PROOF. SET CUTOFF and SET EXPECTED (O39). -/

namespace Sys2Proof.Machine

variable {s t : State} {d : Docking} {k : Nat}

/-! ## SET CUTOFF -/

/-- The door with the cutoff replaced (R22). -/
def withCutoff (d : Docking) (k : Nat) (s : State) : State := { s with docking := some { d with cutoff := k } }

/-- The door with the cutoff replaced, M and U recomputed and the warning given. -/
def rescheduled (d : Docking) (k : Nat) (s : State) : State := measured { d with cutoff := k } (withCutoff d k s)

/-- The notices of the cutoff warning (R55). -/
def warnedNotices (m k : Nat) (s : State) : Notices :=
  if m ≤ 15 ∧ s.time.warned = false then (raise .cutoffNear m k s).notes else s.notes

theorem rescheduled_eq (d : Docking) (k : Nat) (s : State) : ∃ l r, rescheduled d k s = { s with
    docking := some { d with cutoff := k }
    time := { s.time with
      m := effectiveMinutes s.time k, warned := s.time.warned || decide (effectiveMinutes s.time k ≤ 15) }
    urgency := urgencyFor (effectiveMinutes s.time k) d.expected (outboundCount s.deck) d.handling
    notes := warnedNotices (effectiveMinutes s.time k) k s, link := l, dir := r } :=
  ⟨_, _, measured_eq (d := { d with cutoff := k }) (s := withCutoff d k s) rfl⟩

/-- A SET CUTOFF taken recomputes M, and where it comes to 0 the cutoff is reached (R22, R54, R56). -/
theorem setCutoffBody_docked (hd : s.docking = some d) (hk : k ≤ 1439)
    (ht : t = if effectiveMinutes s.time k = 0 ∧ 0 < s.time.m then cutoffReached (rescheduled d k s)
      else rescheduled d k s) : setCutoffBody k s = accept (.setCutoff t.time.m) t := by
  have hm := recomputeM_docked (s := withCutoff d k s) (d := { d with cutoff := k }) rfl
  have ht : recomputeM (withCutoff d k s) = t := hm.trans ht.symm
  simp only [setCutoffBody, hd, minuteOk, hk, decide_true, Bool.not_true, Bool.false_eq_true, if_false, ← ht]
  rfl

/-- With Departure Control as it was the beacon is the one that U brings (R58). -/
theorem rescheduled_beacon (n : Notices) (p : Port) : BeaconIf
    (significant (rescheduled d k s).urgency s.dir.last.urgency) s { rescheduled d k s with notes := n, port := p } := by
  obtain ⟨l, r, h⟩ := rescheduled_eq d k s
  refine measured_beacon (s := withCutoff d k s) (d := { d with cutoff := k }) rfl rfl rfl rfl ?_ ?_ ?_ ?_ ?_ ?_ ?_ rfl
  all_goals
    rw [h]
    rfl

theorem rescheduled_room (hq : s.link.queue.length < 15) : hasRoom 0 (rescheduled d k s).link.queue = true :=
  hasRoom_call (q := s.link.queue) hq
    (recomputeUrgency_queue_length (withMinutes { d with cutoff := k } (withCutoff d k s)))

/-- The door where M comes to 0 (R55). -/
theorem rescheduled_zero (d : Docking) (hm : effectiveMinutes s.time k = 0) : ∃ l r, rescheduled d k s = { s with
    docking := some { d with cutoff := k }, time := { s.time with m := 0, warned := true }
    urgency := urgencyFor 0 d.expected (outboundCount s.deck) d.handling
    notes := if s.time.warned = true then s.notes else (raise .cutoffNear 0 k s).notes, link := l, dir := r } := by
  obtain ⟨l, r, h⟩ := rescheduled_eq d k s
  have hnotes : warnedNotices 0 k s = if s.time.warned = true then s.notes else (raise .cutoffNear 0 k s).notes := by
    unfold warnedNotices
    cases s.time.warned <;> simp
  rw [hm, hnotes, show (s.time.warned || decide (0 ≤ 15)) = true from Bool.or_true _] at h
  exact ⟨l, r, h⟩

/-- A SET CUTOFF that brings M from above 0 to 0 reaches the cutoff (R56). -/
theorem setCutoffBody_reached (hd : s.docking = some d) (hk : k ≤ 1439)
    (hm : rawMinutes s.time.minute k ≤ margin s.time) (hbefore : 0 < s.time.m) : effectiveMinutes s.time k = 0 ∧
      setCutoffBody k s =
        accept (.setCutoff (cutoffReached (rescheduled d k s)).time.m) (cutoffReached (rescheduled d k s)) := by
  have h0 : effectiveMinutes s.time k = 0 := Nat.sub_eq_zero_of_le hm
  exact ⟨h0, setCutoffBody_docked hd hk (if_pos ⟨h0, hbefore⟩).symm⟩

/-- With a run active an automatic start becomes pending, after the causes that are (R141). -/
theorem autoStart_active (c : StartCause) (hrun : s.run.mode ≠ none) : autoStart c s = setDep { s.dep with
    startPending := if c ∈ s.dep.startPending then s.dep.startPending else s.dep.startPending ++ [c] } s := by
  have hno : ¬ canStart s = true := fun h => hrun (canStart_iff.1 h).1
  rw [autoStart, if_neg hno]
  by_cases hc : c ∈ s.dep.startPending
  · rw [if_pos (by simpa using hc), if_pos hc]; rfl
  · rw [if_neg (by simpa using hc), if_neg hc]

/-! ## SET EXPECTED -/

/-- The door with the expected load replaced (R22). -/
def withExpected (d : Docking) (e : Nat) (s : State) : State := { s with docking := some { d with expected := e } }

/-- U recomputed changes U, the queue and the own beacon alone (R58). -/
theorem recomputeUrgency_changes (s : State) :
    ∃ l r, recomputeUrgency s = { s with urgency := urgencyNow s, link := l, dir := r } := by
  refine ⟨(recomputeUrgency s).link, (recomputeUrgency s).dir, ?_⟩
  apply state_eq <;> simp [recomputeUrgency_urgency]

theorem setExpectedBody_docked {x : Nat} (hd : s.docking = some d) (hx : x ≤ 52) : setExpectedBody x s =
    accept (.setExpected (min d.capacity x) (urgencyNow (withExpected d (min d.capacity x) s)))
      (settle (recomputeUrgency (withExpected d (min d.capacity x) s))) := by
  simp only [setExpectedBody, hd, Nat.not_lt.2 hx, if_false]
  rw [settle_urgency, ← withExpected, recomputeUrgency_urgency]

/-- Settles O39: M and U are recomputed, and where M comes to 0 the departure state decides what the cutoff brings; SET
EXPECTED recomputes U and works READY out. -/
theorem setCutoffAndExpectedRecompute : Obligations.SetCutoffAndExpectedRecompute := by
  unfold Obligations.SetCutoffAndExpectedRecompute
  refine ⟨fun h k s d m ht hd hk hm hno => ?_, fun h k s d ht hd hk hm hbefore hw ha => ?_,
    fun h k s d ht hd hk hm hbefore hs => ?_, fun h k s d ht hd hk hm hbefore hs ha hrun hq => ?_,
    fun h k s d ht hd hk hm hbefore hs ha hrun => ?_, fun h x s d ht hd hx ha => ?_⟩
  · -- the cutoff is not reached
    obtain rfl : m = effectiveMinutes s.time k := hm
    have hbody := setCutoffBody_docked (t := rescheduled d k s) hd hk (by rw [if_neg]; omega)
    have hbeacon := rescheduled_beacon (d := d) (k := k) (s := s)
    obtain ⟨l, r, hy⟩ := rescheduled_eq d k s
    rw [hy] at hbody hbeacon
    exact ⟨_, congrArg Host.Outcome.next (request_accepted (r := .setCutoff) ht hbody rfl), rfl, rfl, rfl, rfl,
      hbeacon _ _, rfl, rfl⟩
  · -- neither a call nor CLOSED follows
    obtain ⟨h0, hbody⟩ := setCutoffBody_reached hd hk hm hbefore
    have hbeacon := rescheduled_beacon (d := d) (k := k) (s := s)
    obtain ⟨l, r, hy⟩ := rescheduled_zero d h0
    rw [hy] at hbody hbeacon
    rw [cutoffReached_notice (by exact hw) (by exact ha)] at hbody
    refine ⟨_, congrArg Host.Outcome.next (request_accepted (r := .setCutoff) ht hbody rfl), rfl, rfl, rfl, ?_,
      hbeacon _ _, rfl, rfl⟩
    cases s.time.warned
    · exact if_congr Iff.rfl (raise_notes_clock _ _ _ rfl rfl rfl) rfl
    · exact if_congr Iff.rfl (raise_notes_clock _ _ _ rfl rfl rfl) rfl
  · -- WAITING becomes CLOSED
    obtain ⟨h0, hbody⟩ := setCutoffBody_reached hd hk hm hbefore
    obtain ⟨l, r, hy⟩ := rescheduled_zero d h0
    rw [hy, cutoffReached_waiting (by exact hs)] at hbody
    generalize hz : enterClosed .waitLimit _ = z at hbody
    have hdep := enterClosed_dep .waitLimit (rescheduled d k s)
    have hstore := enterClosed_store .waitLimit (rescheduled d k s)
    have hdone := enterClosed_done .waitLimit (rescheduled d k s)
    have hclosed := hasFlag_enterClosed .waitLimit (rescheduled d k s)
    have hvoided := hasFlag_enterClosed_voided .waitLimit (s := rescheduled d k s)
    have hframe := enterClosed_changes .waitLimit (rescheduled d k s)
    rw [hy, hz] at hdep hstore hdone hclosed hvoided hframe
    have htime : z.time = { s.time with m := 0, warned := true } := by rw [hframe]
    have hdock : z.docking = some { d with cutoff := k } := by rw [hframe]
    rw [htime] at hbody
    refine ⟨_, congrArg Host.Outcome.next (request_accepted (r := .setCutoff) ht hbody (by rw [hframe])), hdock, htime,
      hdep, hstore, hdone, hclosed, hvoided, rfl, ?_⟩
    rw [hframe]
  · -- the call starts
    obtain ⟨h0, hbody⟩ := setCutoffBody_reached hd hk hm hbefore
    have hroom := rescheduled_room (d := d) (k := k) hq
    have hdep := startCall_dep (rescheduled d k s)
    have hcall := exists_call_startCall (s := s) hroom
    have hnotes := startCall_notes (rescheduled d k s)
    have hframe := startCall_changes (rescheduled d k s)
    obtain ⟨l, r, hy⟩ := rescheduled_zero d h0
    rw [hy] at hbody hroom hdep hcall hnotes hframe
    rw [cutoffReached_auto (by exact hs) (by exact ha), autoStart,
      if_pos (canStart_iff.2 ⟨by exact hrun, by exact hroom, .inr rfl⟩)] at hbody
    have hcall := hcall rfl rfl
    generalize startCall _ = z at hbody hdep hcall hnotes hframe
    have htime : z.time = { s.time with m := 0, warned := true } := by rw [hframe]
    have hdock : z.docking = some { d with cutoff := k } := by rw [hframe]
    rw [htime] at hbody
    refine ⟨_, congrArg Host.Outcome.next (request_accepted (r := .setCutoff) ht hbody (by rw [hframe])), hdock, htime,
      hdep, hcall, hnotes, rfl, ?_⟩
    rw [hframe]
  · -- the automatic start becomes pending
    obtain ⟨h0, hbody⟩ := setCutoffBody_reached hd hk hm hbefore
    obtain ⟨l, r, hy⟩ := rescheduled_zero d h0
    rw [hy] at hbody
    rw [cutoffReached_auto (by exact hs) (by exact ha), autoStart_active _ (by exact hrun)] at hbody
    exact ⟨_, congrArg Host.Outcome.next (request_accepted (r := .setCutoff) ht hbody rfl), rfl, rfl, rfl⟩
  · -- SET EXPECTED
    have hbody := setExpectedBody_docked hd hx
    have hbeacon (t : State) :=
      recomputeUrgency_beacon (s := s) (t := t) (x := withExpected d (min d.capacity x) s) rfl rfl
    obtain ⟨l, r, hy⟩ := recomputeUrgency_changes (withExpected d (min d.capacity x) s)
    rw [hy] at hbody hbeacon
    rw [settle_eq (by exact ha)] at hbody
    exact ⟨_, congrArg Host.Outcome.next (request_accepted (r := .setExpected) ht hbody rfl), rfl, rfl,
      hbeacon _ rfl rfl (beaconAlike_withUrgency rfl rfl rfl rfl rfl rfl rfl rfl rfl), ⟨rfl, rfl, rfl⟩, rfl, rfl,
      rfl⟩

end Sys2Proof.Machine
end

section
/-! SUPPORT. The empty final groups at the end of a run (R27, R103): with one record for each target, none is left whose
last closed group is a full one. -/

namespace Sys2Proof.Machine

variable {s t : State} {a : Assembler}

/-! ## The targets' records in bay order -/

/-- The records of the targets stand in bay order, one for each (R99). -/
abbrev TargetsSorted (a : Assembler) : Prop := a.targets.Pairwise (fun x y => x.bay < y.bay)

/-- A record put in bay order takes the place of its bay's record (R99). -/
theorem mem_putTarget {r x : TargetRecord} {l : List TargetRecord} (hl : l.Pairwise (fun x y => x.bay < y.bay))
    (hx : x ∈ putTarget r l) : x = r ∨ (x ∈ l ∧ x.bay ≠ r.bay) := by
  induction l with
  | nil => exact .inl (by simpa [putTarget] using hx)
  | cons y ys ih =>
    obtain ⟨hy, hys⟩ := List.pairwise_cons.1 hl
    unfold putTarget at hx
    split at hx
    next hlt =>
      rcases List.mem_cons.1 hx with rfl | hx
      · exact .inl rfl
      · refine .inr ⟨hx, ?_⟩
        rcases List.mem_cons.1 hx with rfl | hx
        · omega
        · have := hy x hx; omega
    next hge =>
      split at hx
      next heq =>
        rcases List.mem_cons.1 hx with rfl | hx
        · exact .inl rfl
        · exact .inr ⟨List.mem_cons_of_mem _ hx, by have := hy x hx; omega⟩
      next hne =>
        rcases List.mem_cons.1 hx with rfl | hx
        · exact .inr ⟨List.mem_cons_self, Ne.symm hne⟩
        · rcases ih hys hx with h | ⟨h, hb⟩
          · exact .inl h
          · exact .inr ⟨List.mem_cons_of_mem _ h, hb⟩

theorem putTarget_sorted {r : TargetRecord} {l : List TargetRecord} (hl : l.Pairwise (fun x y => x.bay < y.bay)) :
    (putTarget r l).Pairwise (fun x y => x.bay < y.bay) := by
  induction l with
  | nil => simp [putTarget]
  | cons y ys ih =>
    obtain ⟨hy, hys⟩ := List.pairwise_cons.1 hl
    unfold putTarget
    split
    next hlt =>
      refine List.pairwise_cons.2 ⟨fun x hx => ?_, hl⟩
      rcases List.mem_cons.1 hx with rfl | hx
      · exact hlt
      · exact hlt.trans (hy x hx)
    next hge =>
      split
      next heq => exact List.pairwise_cons.2 ⟨fun x hx => heq ▸ hy x hx, hys⟩
      next hne =>
        refine List.pairwise_cons.2 ⟨fun x hx => ?_, ih hys⟩
        rcases mem_putTarget hys hx with rfl | ⟨hx, -⟩
        · omega
        · exact hy x hx

/-! ## Closings keep the order -/

theorem closeNumbered_sorted {target : Nat} {members : List Nat} {kind : GroupKind} (h : TargetsSorted a) :
    TargetsSorted (closeNumbered target members kind a) := putTarget_sorted h

theorem closeOpen_sorted {g : OpenGroup} (h : TargetsSorted s.asm) : TargetsSorted (closeOpen g s).asm :=
  closeNumbered_sorted (a := dropOpen g.target s.asm) h

theorem joinGroup_sorted (hrun : s.run.mode ≠ none) (label target : Nat) (h : TargetsSorted s.asm) :
    TargetsSorted (joinGroup label target s).asm := by
  rcases joinGroup_cases hrun label target with e | ⟨g, -, -, e | e⟩ | ⟨-, e | e⟩ <;> rw [e]
  · exact h
  · exact closeOpen_sorted h
  · exact h
  · exact closeOpen_sorted h
  · exact h

theorem servePass_sorted (es : List TransferEntry) (hrun : s.run.mode ≠ none) (h : TargetsSorted s.asm) :
    TargetsSorted (servePass es s).asm := by
  induction es generalizing s with
  | nil => exact h
  | cons e es ih =>
    rw [servePass_cons]
    refine ih (by rw [run_of_keepAsm (servePass_keep _ _)]; exact hrun) ?_
    rcases servePass_singleton e s with he | ⟨target, he⟩ <;> rw [he]
    · exact h
    · exact joinGroup_sorted hrun _ _ h

theorem serveLoop_sorted (fuel : Nat) (hrun : s.run.mode ≠ none) (h : TargetsSorted s.asm) :
    TargetsSorted (serveLoop fuel s).asm := by
  induction fuel generalizing s with
  | zero => exact h
  | succ fuel ih =>
    have hpass := servePass_sorted (waitingEntries s) hrun h
    unfold serveLoop
    dsimp only
    split
    · exact ih (by rw [run_of_keepAsm (servePass_keep _ _)]; exact hrun) hpass
    · exact hpass

theorem closeLoop_sorted (fuel : Nat) (hrun : s.run.mode ≠ none) (h : TargetsSorted s.asm) :
    TargetsSorted (closeLoop closeOpen fuel s).asm := by
  induction fuel generalizing s with
  | zero => exact h
  | succ fuel ih =>
    unfold closeLoop
    split
    next => exact h
    next g gs he =>
      have hclosed : (closeOpen g s).run.mode ≠ none := hrun
      refine ih (by rw [run_of_keepAsm (serveWaiting_keep _)]; exact hclosed) ?_
      exact serveLoop_sorted _ hclosed (closeOpen_sorted h)

/-! ## The final groups -/

/-- A target's last closed group is not a full one. -/
def NotFull (r : TargetRecord) : Prop := ∀ l ∈ r.last, l.full = false

/-- Each final group makes its target's last closed group an empty one (R103). -/
theorem closeEmpty_foldl_notFull (bays : List Nat) (h : TargetsSorted s.asm)
    (hfull : ∀ r ∈ s.asm.targets, NotFull r ∨ r.bay ∈ bays) :
    ∀ r ∈ (bays.foldl (fun u b => closeEmpty b u) s).asm.targets, NotFull r := by
  induction bays generalizing s with
  | nil => exact fun r hr => (hfull r hr).resolve_right (List.not_mem_nil)
  | cons b bays ih =>
    refine ih (s := closeEmpty b s) (closeNumbered_sorted h) fun r hr => ?_
    rcases mem_putTarget h hr with rfl | ⟨hr, hne⟩
    · exact .inl fun l hl => by obtain rfl := Option.some.inj hl; rfl
    · have hne : r.bay ≠ b := fun e => hne (e.trans (targetRecord_bay s.asm b).symm)
      exact (hfull r hr).imp_right fun hmem => (List.mem_cons.1 hmem).resolve_left hne

theorem buildReady_targets (s : State) : (buildReady s).asm.targets = s.asm.targets := by
  have h := asm_of_keepQueue (buildList_keep s [] s.asm.sendList)
  exact congrArg (fun a => a.targets) h

/-- At the end of a run no target's last closed group is a full one, unless NOFINAL is set (R103). -/
theorem endRunGroups_notFull (hrun : s.run.mode ≠ none) (hf : s.straps.noFinal = false) (h : TargetsSorted s.asm) :
    ∀ r ∈ (endRunGroups s).asm.targets, NotFull r := by
  have hsorted : TargetsSorted (closeAll closeOpen s).asm := closeLoop_sorted _ hrun h
  unfold endRunGroups
  dsimp only
  rw [buildReady_targets, hf]
  refine closeEmpty_foldl_notFull _ hsorted fun r hr => ?_
  by_cases hfull : ((r.last.map (·.full)).getD false) = true
  · exact .inr (List.mem_map_of_mem (List.mem_filter.2 ⟨hr, hfull⟩))
  · refine .inl fun l hl => ?_
    rw [Option.mem_def.1 hl] at hfull
    simpa using hfull

end Sys2Proof.Machine
end

section
/-! PROOF. A run's end by TIP END, by its count and by the deck's last INBOUND entry (O28). -/

namespace Sys2Proof.Machine

variable {s t y : State}

/-! ## The run ended -/

/-- The end of a run raises TIP_DONE with its reason and makes it IDLE; groups apart, nothing else changes (R27). -/
theorem terminateRun_eq (reason : TipReason) (emptied : Bool) (s : State) : terminateRun reason emptied s =
    { endRunGroups s with
      notes := (raise .tipDone (twoParts reason.code (if emptied then 1 else 0)) s.run.tipped s).notes
      run := { s.run with mode := none, lastReason := reason } } := by
  unfold terminateRun
  dsimp only
  apply state_eq <;> simp
  exact raise_notes_congr _ _ _ (endRunGroups_notes _) (endRunGroups_time _)

/-- What becomes of the groups hangs on the groups and the table before, and on the groups after. -/
theorem groupsSent_congr {u v : State} (ha : u.asm = s.asm) (ht : u.table = s.table) (hv : v.asm = t.asm)
    (h : GroupsSent u v) : GroupsSent s t := by
  have hwait : waitingEntries u = waitingEntries s := by simp only [waitingEntries, ha, ht]
  rw [GroupsSent, ha, hv, hwait] at h
  exact h

theorem groupLaw_congr (ha : t.asm = s.asm) (hs : t.straps = s.straps) (h : GroupLaw s) : GroupLaw t := by
  rw [GroupLaw, ha, hs]
  exact h

/-- A run that goes on by its count has not counted out with the next pallet (R32). -/
theorem not_countedOut (hr : CountGoesOn s) :
    ¬ ((tippedRun s.run).mode = some .counted ∧ (tippedRun s.run).remaining = some 0) := by
  rintro ⟨hm, h0⟩
  have hm : s.run.mode = some .counted := hm
  obtain ⟨h1, h2⟩ := hr hm
  rcases hn : s.run.remaining with _ | n
  · simp [tippedRun, hm, hn] at h0
  · simp only [tippedRun, hm, hn, if_true, Option.map_some, Option.some.injEq, ne_eq] at h0 h1 h2
    omega

/-! ## A pallet from the rear to the lane -/

/-- The door after a rear pallet is moved to the lane, and before it is counted: run, groups, table and notices stand
(R28 step 4, R31). -/
structure MovedToLane (s y : State) : Prop where
  run : y.run = s.run
  asm : y.asm = s.asm
  table : y.table = s.table
  straps : y.straps = s.straps
  notes : y.notes = s.notes
  time : y.time = s.time
  port : y.port = s.port
  lane : y.lane.length = s.lane.length + 1
  inbound : inboundCount s.deck = inboundCount y.deck + 1

/-- The rear pallet as TIP OFF takes it (R29). -/
def rearPallet (label : Nat) (e : DeckEntry) : Tipped :=
  { label := label, depot := e.depot, mass := e.mass, depth := some 0 }

theorem routeToLane_moved {label rank : Nat} {e : DeckEntry} (hx : examineLabel s.deck label = some (0, e))
    (htag : e.tag = .inbound) :
    MovedToLane s (routeToLane (rearPallet label e) rank (takeOff (rearPallet label e) s)) := by
  obtain ⟨-, hlt, he⟩ := examineLabel_some hx
  have hperm : (e :: (Deck.entries { s.deck with entries := (exchangeRear 0 s.deck.entries).dropLast })).Perm
      s.deck.entries := exchangeRear_perm hlt he
  have hoff : takeOff (rearPallet label e) s =
      { s with deck := { s.deck with entries := (exchangeRear 0 s.deck.entries).dropLast } } := rfl
  have hin := inboundCount_of_perm hperm htag
  rw [routeToLane_eq, hoff]
  constructor
  case lane => simp [laned]
  case inbound => simpa [laned] using hin
  all_goals simp [laned]

theorem tipOffBody_rear {label rank : Nat} {e : DeckEntry} (hl : label ≠ 0) (hrun : s.run.mode ≠ none)
    (hx : examineLabel s.deck label = some (0, e)) (htag : e.tag = .inbound)
    (hrank : rankOf (dropList s) e.depot = some rank) (hadm : admission e.mass s = .admitted)
    (ht : t = countTip (rearPallet label e) (routeToLane (rearPallet label e) rank (takeOff (rearPallet label e) s))) :
    tipOffBody label none none s =
      accept (.tipOff true none t.run.mode.isSome t.run.remaining t.run.tipped) t := by
  obtain ⟨hlabel, -, -⟩ := examineLabel_some hx
  have hpallet : tipOffBody label none none s = tipPallet (rearPallet label e) s := by
    simp [tipOffBody, rearPallet, hx, hlabel, hl, hrun, htag]
  simp only [hpallet, tipPallet, laneRank, rearPallet, hrank, hadm, if_true, ht]

/-- A TIP OFF of the rear pallet to the lane by which the run ends with a reason. -/
theorem exec_tipOff_ends {h : ReqHead} {label rank : Nat} {e : DeckEntry} {reason : TipReason} {emptied : Bool}
    (ht : Taken h s) (hl : label ≠ 0) (hrun : s.run.mode ≠ none) (hx : examineLabel s.deck label = some (0, e))
    (htag : e.tag = .inbound) (hrank : rankOf (dropList s) e.depot = some rank)
    (hadm : admission e.mass s = .admitted)
    (hend : ∀ y, MovedToLane s y → countTip (rearPallet label e) y = terminateRun reason emptied (tipCounted y)) :
    ∃ t, exec (.tipOff h label none none) s = .next t
      ∧ t.run = { tippedRun s.run with mode := none, lastReason := reason }
      ∧ t.notes = (raise .tipDone (twoParts reason.code (if emptied then 1 else 0)) (min 65535 (s.run.tipped + 1))
          s).notes
      ∧ t.asm.openGroups = [] ∧ (GroupLaw s → GroupsSent s t)
      ∧ t.lane.length = s.lane.length + 1 ∧ t.table = s.table ∧ inboundCount s.deck = inboundCount t.deck + 1
      ∧ t.port = replyPort h
          (.ok .tipOff (.tipOff true none false t.run.remaining (min 65535 (s.run.tipped + 1)))) s t := by
  have hmoved := routeToLane_moved (rank := rank) hx htag
  have hbody := tipOffBody_rear hl hrun hx htag hrank hadm rfl
  rw [hend _ hmoved] at hbody
  generalize routeToLane (rearPallet label e) rank (takeOff (rearPallet label e) s) = y at hmoved hbody
  have hactive : (tipCounted y).run.mode ≠ none := by
    rw [tipCounted, hmoved.run]; exact hrun
  have hopen := endRunGroups_openGroups hactive
  have hsent := endRunGroups_groupsSent hactive
  have hcount : (tipCounted y).run = tippedRun s.run := by rw [tipCounted, hmoved.run]
  rw [terminateRun_eq, hcount] at hbody
  refine ⟨_, congrArg Host.Outcome.next (request_accepted (r := .tipOff) ht hbody ?_), rfl, ?_, hopen, fun hg => ?_,
    ?_, ?_, ?_, rfl⟩
  · exact (endRunGroups_port _).trans hmoved.port
  · exact raise_notes_congr _ _ _ hmoved.notes hmoved.time
  · exact groupsSent_congr (u := tipCounted y) hmoved.asm hmoved.table rfl
      (hsent (groupLaw_congr (t := tipCounted y) hmoved.asm hmoved.straps hg))
  · exact (congrArg List.length (endRunGroups_lane (tipCounted y))).trans hmoved.lane
  · exact (endRunGroups_table _).trans hmoved.table
  · exact hmoved.inbound.trans (by rw [endRunGroups_deck]; rfl)

/-- Settles O28: every end of a run closes and sends the groups in one way, after the last pallet is counted. -/
theorem runsEndWithTheirGroups : Obligations.RunsEndWithTheirGroups := by
  unfold Obligations.RunsEndWithTheirGroups
  refine ⟨fun h s ht hrun hsorted => ?_, fun h s ht hrun => ?_,
    fun h label s rank e ht hl hrun hrem hx htag hrank hadm => ?_,
    fun h label s rank e ht hl hrun hrem hin hx htag hrank hadm => ?_⟩
  · have hbody : tipEndBody s = accept (.tipEnd s.run.tipped) (terminateRun .ended false s) := by
      simp [tipEndBody, hrun]
    rw [terminateRun_ended] at hbody
    refine ⟨_, congrArg Host.Outcome.next (request_accepted (r := .tipEnd) ht hbody (endRunGroups_port _)), rfl, rfl,
      endRunGroups_openGroups hrun, endRunGroups_groupsSent hrun, fun hf => endRunGroups_notFull hrun hf hsorted, rfl,
      ?_⟩
    have hkeep := eq_of_keepGroups (endRunGroups_keep s)
    generalize endRunGroups s = y at *
    rw [hkeep]
  · exact congrArg Host.Outcome.next (request_refused ht (by simp [tipEndBody, hrun]))
  · have hend (y : State) (hy : MovedToLane s y) : countTip (rearPallet label e) y =
        terminateRun .count (decide (inboundCount s.deck = 1)) (tipCounted y) := by
      have hempty : tipEmptied (rearPallet label e) y = decide (inboundCount s.deck = 1) := by
        simp [tipEmptied, rearPallet, hy.inbound, Bool.beq_eq_decide_eq]
      rw [countTip_eq, if_pos (by rw [hy.run]; simp [tippedRun, hrun, hrem]), hempty]
    obtain ⟨t, hexec, hrunAfter, hnotes, hopen, hsent, hlane, htable, -, hport⟩ :=
      exec_tipOff_ends ht hl (by simp [hrun]) hx htag hrank hadm hend
    have hrunAfter : t.run =
        { mode := none, remaining := some 0, tipped := min 65535 (s.run.tipped + 1), lastReason := .count } := by
      rw [hrunAfter]
      simp [tippedRun, hrun, hrem]
    refine ⟨t, hexec, hrunAfter, hnotes.trans ?_, hopen, hsent, hlane, htable, ?_⟩
    · by_cases h1 : inboundCount s.deck = 1 <;> simp [h1, twoParts, TipReason.code]
    · rw [hrunAfter] at hport
      exact hport
  · have hend (y : State) (hy : MovedToLane s y) : countTip (rearPallet label e) y =
        terminateRun .empty false (tipCounted y) := by
      have hempty : tipEmptied (rearPallet label e) y = true := by
        have := hy.inbound
        simp only [tipEmptied, rearPallet, Option.isSome_some, Bool.true_and, beq_iff_eq]
        omega
      rw [countTip_eq, if_neg (not_countedOut (by rw [CountGoesOn, hy.run]; exact hrem)), hempty, if_pos rfl]
    obtain ⟨t, hexec, hrunAfter, hnotes, hopen, hsent, hlane, htable, hinAfter, hport⟩ :=
      exec_tipOff_ends ht hl hrun hx htag hrank hadm hend
    exact ⟨t, hexec, by rw [hrunAfter], by rw [hrunAfter], by rw [hrunAfter]; rfl, hnotes, hopen, hsent, hlane, htable,
      by omega, hport⟩

end Sys2Proof.Machine
end

section
/-! PROOF. U as R57 works it out (O8): U is worked out again wherever M, E, H or O changes, and every other command
leaves both sides of the law. -/

namespace Sys2Proof.Machine

variable {s t : State}

/-! ## The law on the view -/

theorem outboundCount_unowed (d : Deck) :
    ((d.entries.map DeckEntry.unowed).filter (fun e => e.tag == .outbound)).length = outboundCount d := by
  rw [outboundCount, List.filter_map, List.length_map]
  rfl

/-- U hangs on the docking record, the deck without its receipt-owed marks, and M (R57). -/
theorem urgencyNow_congr (hd : (siteOf t).docking = (siteOf s).docking) (hk : (siteOf t).deck = (siteOf s).deck)
    (hm : t.time.m = s.time.m) : urgencyNow t = urgencyNow s := by
  have hd : t.docking = s.docking := hd
  have ho : outboundCount t.deck = outboundCount s.deck := by
    rw [← outboundCount_unowed, ← outboundCount_unowed]
    exact congrArg (fun l : List DeckEntry => (l.filter (fun e => e.tag == .outbound)).length) hk
  simp only [urgencyNow, hd, ho, hm]

theorem urgencyLaw_congr (hd : (siteOf t).docking = (siteOf s).docking) (hk : (siteOf t).deck = (siteOf s).deck)
    (hm : t.time.m = s.time.m) (hu : t.urgency = s.urgency) (hs : UrgencyLaw s) : UrgencyLaw t := by
  rw [UrgencyLaw, hu, urgencyNow_congr hd hk hm]
  exact hs

theorem urgencyLaw_of_door (h : doorOf t = doorOf s) (hu : t.urgency = s.urgency) : UrgencyLaw s → UrgencyLaw t :=
  urgencyLaw_congr (congrArg Site.docking h :) (congrArg Site.deck h :) (congrArg (fun v : Site => v.time.m) h :) hu

theorem urgencyLaw_of_site (h : siteOf t = siteOf s) : t.urgency = s.urgency → UrgencyLaw s → UrgencyLaw t :=
  urgencyLaw_of_door (door_of_site h)

/-- The law holds of every VACANT door whose U is 0. -/
theorem urgencyLaw_vacant (hd : t.docking = none) (hu : t.urgency = 0) : UrgencyLaw t := by
  rw [UrgencyLaw, hu, urgencyNow, hd]

variable (s)

/-! ## Operations that leave U: the transmit queue and free room -/

theorem handFrame_urgency {b : Body} (h : handFrame b s = some t) : t.urgency = s.urgency :=
  urgency_of_keepQueue (handFrame_keep h)

@[simp] theorem placeBeacon_urgency : (placeBeacon s).1.urgency = s.urgency := urgency_of_keepBeacon (placeBeacon_keep s)

@[simp] theorem askReceipt_urgency (l o : Nat) : (askReceipt l o s).1.urgency = s.urgency :=
  (congrArg State.urgency (askReceipt_keep l o s) :)

@[simp] theorem offerDone_urgency : (offerDone s).urgency = s.urgency := by
  unfold offerDone
  split
  · split
    · next t h => exact (setDep_urgency t _).trans (handFrame_urgency s h)
    · rfl
  · rfl

@[simp] theorem offerLaneReceipt_urgency (e : LaneEntry) : (offerLaneReceipt e s).urgency = s.urgency := by
  unfold offerLaneReceipt
  split
  · next t h => exact (handFrame_urgency s h : t.urgency = s.urgency)
  · rfl

@[simp] theorem offerDeckReceipt_urgency (e : DeckEntry) : (offerDeckReceipt e s).urgency = s.urgency := by
  unfold offerDeckReceipt
  split
  · next t h => exact (handFrame_urgency s h : t.urgency = s.urgency)
  · rfl

@[simp] theorem offerRoom_urgency : (offerRoom s).urgency = s.urgency := by
  unfold offerRoom
  dsimp only
  rw [buildReady_urgency, foldl_keep State.urgency _ (fun t e => offerDeckReceipt_urgency t e),
    foldl_keep State.urgency _ (fun t e => offerLaneReceipt_urgency t e), offerDone_urgency]

/-! ## Operations that leave U: the floor link -/

@[simp] theorem placeWaiting_urgency : (placeWaiting s).urgency = s.urgency := by
  unfold placeWaiting
  split <;> simp

@[simp] theorem endAttempt_urgency : (endAttempt s).urgency = s.urgency := by simp [endAttempt]
@[simp] theorem enterListening_urgency (q : Option Nat) : (enterListening q s).urgency = s.urgency := rfl
@[simp] theorem enterJoined_urgency (c : JoinCause) : (enterJoined c s).urgency = s.urgency := by simp [enterJoined]
@[simp] theorem leaveJoined_urgency (l : LineState) : (leaveJoined l s).urgency = s.urgency := by simp [leaveJoined]
@[simp] theorem startRejoin_urgency : (startRejoin s).urgency = s.urgency := rfl
@[simp] theorem countFail_urgency : (countFail s).urgency = s.urgency := rfl
@[simp] theorem thresholdFault_urgency : (thresholdFault s).urgency = s.urgency := by simp [thresholdFault]
@[simp] theorem lineActive_urgency (b : Bool) : (lineActive b s).urgency = s.urgency := rfl

@[simp] theorem duplicateHeard_urgency (k : FrameKind) : (duplicateHeard k s).urgency = s.urgency := by
  unfold duplicateHeard
  dsimp only
  split <;> simp

@[simp] theorem badFrame_urgency : (badFrame s).urgency = s.urgency := by
  rw [badFrame, lineActive_urgency, countError_eq]

@[simp] theorem countTaken_urgency : (countTaken s).urgency = s.urgency := by
  unfold countTaken
  split
  · dsimp only
    split <;> simp
  · rfl

@[simp] theorem startAttempt_urgency : (startAttempt s).urgency = s.urgency := by
  unfold startAttempt
  split <;> simp

@[simp] theorem contend_urgency (key : Nat) : (contend key s).urgency = s.urgency := by
  unfold contend
  split
  · rfl
  · split <;> simp

@[simp] theorem failAttempt_urgency : (failAttempt s).urgency = s.urgency := by
  unfold failAttempt
  split
  · dsimp only
    split <;> simp
  · rfl

@[simp] theorem completeAttempt_urgency : (completeAttempt s).urgency = s.urgency := by
  unfold completeAttempt
  split
  · rfl
  · split
    · dsimp only
      rw [offerRoom_urgency, placeWaiting_urgency]
      split <;> simp
    · rfl

@[simp] theorem quietJoin_urgency : (quietJoin s).urgency = s.urgency := by
  unfold quietJoin
  split <;> simp

/-! ## Operations that leave U: expiries and lines -/

@[simp] theorem expireRejoin_urgency : (expireRejoin s).urgency = s.urgency := by
  unfold expireRejoin
  split <;> simp

@[simp] theorem restartBeaconTimer_urgency (n : Nat) : (restartBeaconTimer n s).urgency = s.urgency := rfl

@[simp] theorem expireBeacon_urgency : (expireBeacon s).urgency = s.urgency := by
  unfold expireBeacon
  split
  · generalize (if contentDiffers s then 4 else min 64 (2 * s.dir.interval)) = n
    dsimp only
    split <;> simp
  · rfl

@[simp] theorem setUnreachable_urgency (n : Nat) (m : Option Nat) : (setUnreachable n m s).urgency = s.urgency := rfl

@[simp] theorem expireEntry_urgency (n : Nat) : (expireEntry n s).urgency = s.urgency := by
  unfold expireEntry
  split
  · rfl
  · split <;> simp

@[simp] theorem expireUnreachable_urgency (n : Nat) : (expireUnreachable n s).urgency = s.urgency := by
  unfold expireUnreachable
  split
  · rfl
  · split <;> simp

@[simp] theorem expireHold_urgency (n : Nat) : (expireHold n s).urgency = s.urgency := by
  unfold expireHold
  split
  · rfl
  · split
    · rw [tidyGroups_urgency]; rfl
    · rfl

@[simp] theorem expireAnswer_urgency (n g : Nat) : (expireAnswer n g s).urgency = s.urgency := by
  unfold expireAnswer
  dsimp only
  split
  · rfl
  · split <;> simp

@[simp] theorem expireTravel_urgency (l : Nat) : (expireTravel l s).urgency = s.urgency := by
  unfold expireTravel
  split
  · rfl
  · split
    · dsimp only
      split <;> simp
    · rfl

@[simp] theorem setDepState_urgency (d : Option DepState) : (setDepState d s).urgency = s.urgency := by
  simp [setDepState]

@[simp] theorem windowOutcome_urgency : (windowOutcome s).urgency = s.urgency := by
  unfold windowOutcome
  split
  · simp
  · dsimp only
    split <;> simp

@[simp] theorem expireWindow_urgency : (expireWindow s).urgency = s.urgency := by
  unfold expireWindow endWindow
  split <;> simp

theorem expireDue_urgency : (expireDue s).urgency = s.urgency := by
  unfold expireDue
  dsimp only
  rw [retryStart_urgency, expireWait_urgency, expireWindow_urgency,
    foldl_keep State.urgency _ (fun t x => expireTravel_urgency t x),
    foldl_keep State.urgency _ (fun t x => expireAnswer_urgency t _ _),
    foldl_keep State.urgency _ (fun t x => expireHold_urgency t x),
    foldl_keep State.urgency _ (fun t x => expireUnreachable_urgency t x),
    foldl_keep State.urgency _ (fun t x => expireEntry_urgency t x), expireBeacon_urgency, expireRejoin_urgency]

@[simp] theorem shutterDown_urgency : (shutterDown s).urgency = s.urgency := by
  unfold shutterDown
  split
  · rfl
  · dsimp only
    split <;> simp

@[simp] theorem shutterUp_urgency : (shutterUp s).urgency = s.urgency := by
  unfold shutterUp dropShutter
  split
  · dsimp only
    split <;> simp
  · rfl

/-! ## Operations that leave U: frames taken -/

@[simp] theorem advanceCount_urgency : (advanceCount s).urgency = s.urgency := by
  unfold advanceCount
  dsimp only
  split <;> rfl

@[simp] theorem storeEntry_urgency (e : DirEntry) : (storeEntry e s).urgency = s.urgency := rfl

@[simp] theorem beaconEvent_urgency (m : BeaconMsg) (b : BayState) (d : Option DepState) (old : Option DirEntry)
    (parked : List Nat) : (beaconEvent m b d old parked s).urgency = s.urgency := by
  unfold beaconEvent
  split
  · split <;> simp
  · split
    · simp
    · split <;> simp

@[simp] theorem noteBeacon_urgency (m : BeaconMsg) (b : BayState) (d : Option DepState) :
    (noteBeacon m b d s).urgency = s.urgency := by
  unfold noteBeacon
  dsimp only
  split
  · simp
  · split <;> simp

@[simp] theorem forgetOrigin_urgency (bay : Nat) : (forgetOrigin bay s).urgency = s.urgency := by simp [forgetOrigin]

theorem takeBeacon_urgency (m : BeaconMsg) : (takeBeacon m s).urgency = s.urgency := by
  have hnoted : (match beaconStates m with
      | some (b, d) => if beaconSound m b d then noteBeacon m b d s else s
      | none => s).urgency = s.urgency := by
    split
    · split <;> simp
    · rfl
  unfold takeBeacon
  dsimp only
  split
  · exact (forgetOrigin_urgency _ _).trans hnoted
  · exact hnoted

theorem takeDone_urgency (m : DoneMsg) : (takeDone m s).urgency = s.urgency := by simp [takeDone]

theorem evalItems_urgency (origin : Nat) (l : List OfferItem) :
    (l.foldl (evalItem origin) (s, [])).1.urgency = s.urgency := by
  refine List.foldlRecOn (motive := fun acc => acc.1.urgency = s.urgency) l (evalItem origin) (b := (s, [])) rfl
    fun acc ih i _ => ?_
  rcases evalItem_cases origin acc i with h | ⟨d, -, h⟩ <;> rw [h]
  · exact ih
  · exact ih

theorem takeOffer_urgency (m : OfferMsg) : (takeOffer m s).urgency = s.urgency := by
  have hnote (t : State) : (noteGroup m t).urgency = t.urgency := by
    rcases noteGroup_cases t m with h | ⟨-, h⟩ <;> rw [h]
    rfl
  have hanswer (l : List AnswerItem) (t : State) : (answerOffer m l t).urgency = t.urgency := by
    unfold answerOffer
    split <;> simp
  unfold takeOffer evalOffer
  split
  · dsimp only
    rw [settle_urgency, announce_urgency, hnote, hanswer, evalItems_urgency]
  · rfl

theorem answerItem_urgency (bay : Nat) (acc : State × List Nat) (i : AnswerItem) :
    (answerItem bay acc i).1.urgency = acc.1.urgency := by
  have hdecline (v : Verdict) : (declineCurrent bay i.label v acc.1).urgency = acc.1.urgency := by
    unfold declineCurrent
    dsimp only
    split <;> rfl
  unfold answerItem
  split
  · rfl
  · split
    · rfl
    · dsimp only
      split
      · rfl
      · exact hdecline _
      · exact handOrDrop_urgency _ _
      · rfl

theorem takeAnswer_urgency (m : AnswerMsg) : (takeAnswer m s).urgency = s.urgency := by
  unfold takeAnswer
  split
  · dsimp only
    rw [reselect_urgency]
    exact List.foldlRecOn (motive := fun acc => acc.1.urgency = s.urgency) m.items (answerItem m.target) (b := (s, []))
      rfl fun acc ih i _ => (answerItem_urgency m.target acc i).trans ih
  · rfl

theorem takeCall_urgency (m : CallMsg) : (takeCall m s).urgency = s.urgency := by
  unfold takeCall nameAccepted
  dsimp only
  rw [reselect_urgency]
  exact foldl_keep State.urgency _ (fun t l => handOrDrop_urgency t _) _ s

theorem takeHold_urgency (m : HoldMsg) : (takeHold m s).urgency = s.urgency := by
  unfold takeHold
  dsimp only
  split
  · split <;> simp
  · rfl

@[simp] theorem unname_urgency (l : Nat) : (unname l s).urgency = s.urgency := by
  unfold unname
  split <;> rfl

theorem takeRelease_urgency (m : ReleaseMsg) : (takeRelease m s).urgency = s.urgency := by
  unfold takeRelease
  split
  · split
    · split <;> simp
    · split <;> rfl
  · rfl

theorem takeReceipt_urgency (m : ReceiptMsg) : (takeReceipt m s).urgency = s.urgency := by
  unfold takeReceipt
  split
  · split
    · simp
    · split <;> rfl
  · rfl

variable {s}

theorem takeFrame_urgency {key : Nat} {b : Body} {f : State → State}
    (hf : (f (lineActive false s)).urgency = (lineActive false s).urgency) : (takeFrame key b f s).urgency = s.urgency := by
  rcases takeFrame_cases key b f s with ⟨-, e⟩ | ⟨-, e⟩ | ⟨-, -, e⟩ | ⟨-, -, -, -, e⟩ <;> rw [e]
  · exact badFrame_urgency s
  · exact duplicateHeard_urgency _ _
  · exact (countTaken_urgency _).trans hf

theorem live_urgency {f : State → State} (hf : (f s).urgency = s.urgency) : (live f s).urgency = s.urgency :=
  live_keeps (P := fun u => u.urgency = s.urgency) rfl hf

/-! ## Events -/

/-- The events that keep port, record, deck, lane, run and Time Base of the view keep U. -/
theorem exec_urgency (i : Instr) (hq : i.reqHead = none) (ha : Apart i = false) (h : exec i s = .next t) :
    t.urgency = s.urgency := by
  cases i <;> first | (cases hq; done) | (cases ha; done) | cases h
  case answer key m => exact takeFrame_urgency (takeAnswer_urgency _ m)
  case release key m => exact takeFrame_urgency (takeRelease_urgency _ m)
  case receipt key m => exact takeFrame_urgency (takeReceipt_urgency _ m)
  case call key m => exact takeFrame_urgency (takeCall_urgency _ m)
  case hold key m => exact takeFrame_urgency (takeHold_urgency _ m)
  case badFrameHeard => exact live_urgency (by split <;> simp)
  case objectedFrameDropped => exact live_urgency (by split <;> rfl)
  case duplicateBay kind => exact live_urgency (by split <;> simp)
  case quietGapStart => exact live_urgency (startAttempt_urgency s)
  case lostContention heard => exact live_urgency (contend_urgency s heard)
  case transmitFailure => exact live_urgency (failAttempt_urgency s)
  case transmitComplete => exact live_urgency (completeAttempt_urgency s)
  case queueRoomOffered => exact live_urgency (offerRoom_urgency s)
  case quietTimerExpiry => exact live_urgency (quietJoin_urgency s)
  case rejoinTimerExpiry => exact live_urgency (expireRejoin_urgency s)
  case beaconTimerExpiry => exact live_urgency (expireBeacon_urgency s)
  case directoryEntryExpiry bay => exact live_urgency (expireEntry_urgency s bay)
  case unreachableMarkExpiry bay => exact live_urgency (expireUnreachable_urgency s bay)
  case holdTimerExpiry target => exact live_urgency (expireHold_urgency s target)
  case answerTimerExpiry target group => exact live_urgency (expireAnswer_urgency s target group)
  case travelTimerExpiry label => exact live_urgency (expireTravel_urgency s label)
  case callWindowEnd => exact live_urgency (expireWindow_urgency s)
  case waitLimitExpiry => exact live_urgency (expireWait_urgency s)
  case automaticStart => exact live_urgency (retryStart_urgency s)
  case shutterClosed => exact live_urgency (shutterDown_urgency s)
  case shutterOpened => exact live_urgency (shutterUp_urgency s)
  case nonStartByteDiscarded byte => rfl

/-- A law of the door that its sender's frame leaves, but for the owing list. -/
theorem takeFrame_urgencyLaw {key : Nat} {b : Body} {f : State → State} (hs : UrgencyLaw s)
    (hf : UrgencyLaw (f (lineActive false s))) : UrgencyLaw (takeFrame key b f s) := by
  rcases takeFrame_cases key b f s with ⟨-, e⟩ | ⟨-, e⟩ | ⟨-, -, e⟩ | ⟨-, -, -, -, e⟩ <;> rw [e]
  · exact hs
  · exact urgencyLaw_of_site (badFrame_site s) (badFrame_urgency s) hs
  · exact urgencyLaw_of_site (duplicateHeard_site _ _) (duplicateHeard_urgency _ _) hs
  · exact urgencyLaw_of_site (countTaken_site _) (countTaken_urgency _) hf

theorem takeBeacon_urgencyLaw (m : BeaconMsg) (hs : UrgencyLaw s) : UrgencyLaw (takeBeacon m s) := by
  rcases takeBeacon_site s m with h | h <;>
    exact urgencyLaw_congr (congrArg Site.docking h :) (congrArg Site.deck h :)
      (congrArg (fun v : Site => v.time.m) h :) (takeBeacon_urgency s m) hs

theorem takeDone_urgencyLaw (m : DoneMsg) (hs : UrgencyLaw s) : UrgencyLaw (takeDone m s) := by
  have h := takeDone_site s m
  exact urgencyLaw_congr (congrArg Site.docking h :) (congrArg Site.deck h :) (congrArg (fun v : Site => v.time.m) h :)
    (takeDone_urgency s m) hs

theorem takeOffer_urgencyLaw (m : OfferMsg) (hs : UrgencyLaw s) : UrgencyLaw (takeOffer m s) := by
  rcases takeOffer_door s m with h | ⟨-, h⟩ <;>
    exact urgencyLaw_congr (congrArg Site.docking h :) (congrArg Site.deck h :)
      (congrArg (fun v : Site => v.time.m) h :) (takeOffer_urgency s m) hs

/-! ## The clock -/

/-- U recomputed is U as R57 works it out, whatever it was (R58). -/
theorem recomputeUrgency_law (s : State) : UrgencyLaw (recomputeUrgency s) := by
  have h := recomputeUrgency_site s
  rw [UrgencyLaw, recomputeUrgency_urgency, urgencyNow_congr (congrArg Site.docking h :) (congrArg Site.deck h :)
    (congrArg (fun v : Site => v.time.m) h :)]

/-- M and U recomputed while DOCKED agree, whatever they were; the warning changes neither (R54, R55). -/
theorem measured_law (d : Docking) (s : State) : UrgencyLaw (measured d s) := by
  have hwarn (u : State) (hu : UrgencyLaw u) : UrgencyLaw (warnCutoff d.cutoff u) := hu
  exact hwarn _ (recomputeUrgency_law _)

theorem cutoffReached_law (hs : UrgencyLaw s) : UrgencyLaw (cutoffReached s) :=
  urgencyLaw_of_door (cutoffReached_door s) (cutoffReached_urgency s) hs

/-- A recomputation of M brings U along while DOCKED, and does nothing while VACANT (R54). -/
theorem recomputeM_law (hs : s.docking = none → UrgencyLaw s) : UrgencyLaw (recomputeM s) := by
  cases hd : s.docking with
  | none => rw [recomputeM_vacant hd]; exact hs hd
  | some d =>
    rw [recomputeM_docked hd]
    split
    · exact cutoffReached_law (measured_law d s)
    · exact measured_law d s

/-- At a minute boundary U is worked out in any case (R47). -/
theorem minuteBoundary_law (s : State) : UrgencyLaw (minuteBoundary s) := by
  rw [minuteBoundary_eq]
  refine urgencyLaw_of_site (countMinutes_site _) ?_ (recomputeUrgency_law _)
  unfold countMinutes
  dsimp only
  split <;> rfl

theorem secondTick_law (hs : UrgencyLaw s) : UrgencyLaw (secondTick s) := by
  have hcount (u : State) (hu : UrgencyLaw u) : UrgencyLaw (countSeconds u) :=
    urgencyLaw_of_site (countSeconds_site u) rfl hu
  have ht := hcount _ (urgencyLaw_of_door (expireDue_door s) (expireDue_urgency s) hs)
  unfold secondTick
  dsimp only
  generalize countSeconds (expireDue s) = u at ht
  split
  · exact minuteBoundary_law _
  · exact ht

theorem makeBoundary_law (b : Bool) (hs : UrgencyLaw s) : UrgencyLaw (makeBoundary b s) := by
  refine secondTick_law ?_
  exact hs

theorem oscillatorBoundary_law (hs : UrgencyLaw s) : UrgencyLaw (oscillatorBoundary s) := by
  refine makeBoundary_law true ?_
  exact hs

theorem alignSecond_law (hs : UrgencyLaw s) : UrgencyLaw (alignSecond s) := by
  unfold alignSecond
  split
  · exact hs
  · exact makeBoundary_law false hs

theorem enterFallback_law (c : FallbackCause) (hs : UrgencyLaw s) : UrgencyLaw (enterFallback c s) := by
  refine recomputeM_law fun _ => ?_
  exact hs

theorem enterReference_law (hs : UrgencyLaw s) : UrgencyLaw (enterReference s) := by
  have ha : UrgencyLaw (alignSecond (setTime
      { s.time with source := .reference, goodRun := Config.goodPulses, badRun := 0 } s)) := alignSecond_law hs
  refine recomputeM_law fun _ => ?_
  exact ha

theorem pulseArrives_law (hs : UrgencyLaw s) : UrgencyLaw (pulseArrives s) := by
  have hgood (u : State) (hu : UrgencyLaw u) : UrgencyLaw (goodPulse u) := by
    unfold goodPulse
    split
    · exact alignSecond_law hu
    · exact hu
    · split
      · exact enterReference_law hu
      · exact hu
  have hbad (u : State) (hu : UrgencyLaw u) : UrgencyLaw (badPulse u) := by
    unfold badPulse
    split
    · split
      · exact enterFallback_law _ hu
      · exact hu
    · exact hu
    · exact hu
  unfold pulseArrives
  dsimp only
  split
  · exact hs
  · split
    · exact hgood _ hs
    · exact hbad _ hs

theorem silencePassed_law (hs : UrgencyLaw s) : UrgencyLaw (silencePassed s) := by
  unfold silencePassed silenceEvent
  dsimp only
  split
  · exact enterFallback_law _ hs
  · exact hs
  · exact hs

/-! ## Requests -/

/-- A refusal leaves U, and of the deck at most the fault status. -/
theorem RefusedIn.urgencyLaw {tip : Bool} {r : Result} (h : RefusedIn tip s r) (hs : UrgencyLaw s) : UrgencyLaw r.1 := by
  refine urgencyLaw_of_site h.site ?_ hs
  obtain ⟨k, -, ⟨-, h⟩ | ⟨-, h⟩ | ⟨-, -, h⟩⟩ := h <;> rw [h] <;> rfl

theorem dockBody_urgencyLaw (p : DockParams) (hs : UrgencyLaw s) : UrgencyLaw (dockBody p s).1 := by
  rcases dockBody_cases p s with h | ⟨d, rd, -, -, h⟩
  · exact h.urgencyLaw hs
  · rw [h]
    exact (takeDock_leaves d s s.port).urgency

/-- An INBOUND entry pushed leaves O as it was (R5, R23). -/
theorem declareBody_urgencyLaw (label depot mass : Nat) (hs : UrgencyLaw s) :
    UrgencyLaw (declareBody label depot mass s).1 := by
  rcases declareBody_cases label depot mass s with h | ⟨d, rd, -, -, -, -, h⟩
  · exact h.urgencyLaw hs
  · have ho : outboundCount (pushed (declaredEntry label depot mass) s).deck = outboundCount s.deck := by
      simp [outboundCount, pushed, declaredEntry]
    have hu : UrgencyLaw (pushed (declaredEntry label depot mass) s) := by
      rw [UrgencyLaw, urgencyNow, ho]
      exact hs
    rw [h]
    exact hu

theorem terminateRun_urgencyLaw (reason : TipReason) (b : Bool) (hs : UrgencyLaw s) :
    UrgencyLaw (terminateRun reason b s) := by
  have h := terminateRun_site s reason b
  exact urgencyLaw_congr (congrArg Site.docking h :) (congrArg Site.deck h :) (congrArg (fun v : Site => v.time.m) h :)
    (by rw [terminateRun_eq]; exact endRunGroups_urgency s) hs

theorem tipEndBody_urgencyLaw (hs : UrgencyLaw s) : UrgencyLaw (tipEndBody s).1 := by
  rcases tipEndBody_cases s with h | ⟨rd, h⟩
  · exact h.urgencyLaw hs
  · rw [h]
    exact terminateRun_urgencyLaw _ _ hs

theorem tipStartBody_urgencyLaw (mode : TipModeArg) (hs : UrgencyLaw s) : UrgencyLaw (tipStartBody mode s).1 := by
  rcases tipStartBody_cases mode s with h | ⟨rd, -, h | ⟨n, -, h⟩⟩
  · exact h.urgencyLaw hs
  · rw [h]; exact hs
  · rw [h]; exact hs

/-- A pallet taken off is an INBOUND one or stood nowhere, so O stays (R8, R29, R30). -/
theorem takeOff_urgencyLaw {p : Tipped} (hp : Tippable p s) (hs : UrgencyLaw s) : UrgencyLaw (takeOff p s) := by
  have ho : outboundCount (takeOff p s).deck = outboundCount s.deck := by
    rcases hp with ⟨k, e, rfl, hx, htag⟩ | ⟨hdep, -⟩
    · obtain ⟨-, hlt, he⟩ := examineLabel_some hx
      have hdeck : (takeOff { label := e.label, depot := e.depot, mass := e.mass, depth := some k } s).deck =
          { s.deck with entries := (exchangeRear k s.deck.entries).dropLast } := by
        unfold takeOff
        dsimp only
        split <;> rfl
      rw [hdeck]
      exact outboundCount_of_perm (exchangeRear_perm hlt he) htag
    · simp [takeOff, hdep]
  have h := takeOff_eq p s
  rw [UrgencyLaw, urgencyNow, ho, h]
  exact hs

theorem countTip_urgencyLaw (p : Tipped) (hs : UrgencyLaw s) : UrgencyLaw (countTip p s) := by
  have hcounted : UrgencyLaw (tipCounted s) := hs
  rw [countTip_eq]
  split
  · exact terminateRun_urgencyLaw _ _ hcounted
  · split
    · exact terminateRun_urgencyLaw _ _ hcounted
    · exact hcounted

theorem tipOffBody_urgencyLaw (label : Nat) (depot mass : Option Nat) (hs : UrgencyLaw s) :
    UrgencyLaw (tipOffBody label depot mass s).1 := by
  rcases tipOffBody_cases label depot mass s with h | ⟨p, hp, -, h⟩
  · exact h.urgencyLaw hs
  have hoff := takeOff_urgencyLaw hp hs
  rw [h]
  rcases tipPallet_cases (tip := true) p s with h | ⟨rd, ⟨r, h⟩ | h⟩
  · exact h.urgencyLaw hs
  · have hr := routeToLane_site (takeOff p s) p r
    rw [h]
    exact countTip_urgencyLaw p (urgencyLaw_congr (congrArg Site.docking hr :) (congrArg Site.deck hr :)
      (congrArg (fun v : Site => v.time.m) hr :) (by simp [routeToLane]) hoff)
  · have hr := routeToTable_site (takeOff p s) p
    rw [h]
    exact countTip_urgencyLaw p (urgencyLaw_congr (congrArg Site.docking hr :) (congrArg Site.deck hr :)
      (congrArg (fun v : Site => v.time.m) hr :) (by simp [routeToTable, addEntry]) hoff)

theorem settle_law (hs : UrgencyLaw s) : UrgencyLaw (settle s) :=
  urgencyLaw_of_site (settle_site s) (settle_urgency s) hs

theorem loadBody_urgencyLaw (label : Nat) (hs : UrgencyLaw s) : UrgencyLaw (loadBody label s).1 := by
  rcases loadBody_cases label s with h | ⟨e, rd, -, -, -, -, h⟩
  · exact h.urgencyLaw hs
  · rw [h]
    exact settle_law (recomputeUrgency_law _)

theorem unloadBody_urgencyLaw (hs : UrgencyLaw s) : UrgencyLaw (unloadBody s).1 := by
  rcases unloadBody_cases s with h | ⟨e, rd, -, -, h⟩
  · exact h.urgencyLaw hs
  · rw [h]
    exact settle_law (recomputeUrgency_law _)

/-- A pallet that arrives joins the lane, which U does not read (R57, R131, R132). -/
theorem arriveBody_urgencyLaw (label depot mass : Nat) (origin : Option Nat) (hs : UrgencyLaw s) :
    UrgencyLaw (arriveBody label depot mass origin s).1 := by
  rcases arriveBody_cases label depot mass origin s with h | ⟨rank, -, -, -, ⟨h, -, -, e⟩ | ⟨-, e⟩⟩
  · exact h.urgencyLaw hs
  · rw [e]
    unfold arriveHeld
    refine urgencyLaw_of_door (holdGone_door _) (holdGone_urgency _) (settle_law ?_)
    refine urgencyLaw_of_site (askReceipt_site _ _ _) (askReceipt_urgency _ _ _) ?_
    exact hs
  · rw [e]
    unfold arriveUnannounced
    split
    · exact hs
    · exact hs
    · refine settle_law (urgencyLaw_of_site (askReceipt_site _ _ _) (askReceipt_urgency _ _ _)
        (urgencyLaw_of_site (announce_site _ _) (announce_urgency _ _) ?_))
      exact hs

theorem departBody_urgencyLaw (abandon : Bool) (hs : UrgencyLaw s) : UrgencyLaw (departBody abandon s).1 := by
  rcases departBody_cases abandon s with h | ⟨rd, -, h⟩
  · exact h.urgencyLaw hs
  · rw [h]
    exact urgencyLaw_vacant (congrArg Site.docking (takeDepart_site s abandon) :) (takeDepart_urgency abandon s)

theorem withdrawBody_urgency (label : Nat) (s : State) : (withdrawBody label s).1.urgency = s.urgency := by
  unfold withdrawBody
  split
  · rfl
  split
  · rfl
  split
  · exact removeEntry_urgency _ _
  split
  · rfl
  next h => exact (removeEntry_urgency _ _).trans (handFrame_urgency s h)

theorem setCutoffBody_urgencyLaw (cutoff : Nat) (hs : UrgencyLaw s) : UrgencyLaw (setCutoffBody cutoff s).1 := by
  rcases setCutoffBody_cases cutoff s with h | ⟨d, rd, -, -, h⟩
  · exact h.urgencyLaw hs
  · rw [h]
    exact recomputeM_law nofun

theorem setExpectedBody_urgencyLaw (expected : Nat) (hs : UrgencyLaw s) : UrgencyLaw (setExpectedBody expected s).1 := by
  rcases setExpectedBody_cases expected s with h | ⟨d, rd, -, h⟩
  · exact h.urgencyLaw hs
  · rw [h]
    exact settle_law (recomputeUrgency_law _)

theorem setClockBody_urgencyLaw (minute : Option Nat) (hs : UrgencyLaw s) : UrgencyLaw (setClockBody minute s).1 := by
  rcases setClockBody_cases minute s with h | ⟨k, rd, -, h⟩
  · exact h.urgencyLaw hs
  · rw [h]
    refine recomputeM_law fun _ => ?_
    exact hs

theorem flushFrame_urgency (b : Body) (s : State) : (flushFrame b s).urgency = s.urgency := by
  unfold flushFrame
  split <;> rfl

theorem restartLink_urgency (s : State) : (restartLink s).urgency = s.urgency := by
  have hflush : (flushQueue s).urgency = s.urgency := by
    unfold flushQueue
    dsimp only
    rw [restartGroups_urgency, setLink_urgency,
      foldl_keep State.urgency _ (fun t f => flushFrame_urgency _ t)]
  unfold restartLink
  dsimp only
  rw [offerRoom_urgency]
  split <;> split <;> simp [hflush]

/-! ## Every command -/

theorem request_urgencyLaw {h : ReqHead} {r : Request} {body : State → Result} (hs : UrgencyLaw s)
    (hb : UrgencyLaw (body s).1) : UrgencyLaw (request h r body s) :=
  request_keeps (P := fun s => UrgencyLaw s) (fun _ _ h => h) hs hb

theorem request_quiet_urgencyLaw {h : ReqHead} {r : Request} {body : State → Result} (hs : UrgencyLaw s)
    (hb : siteOf (body s).1 = siteOf s) (hu : (body s).1.urgency = s.urgency) : UrgencyLaw (request h r body s) :=
  request_urgencyLaw hs (urgencyLaw_of_site hb hu hs)

theorem exec_quiet_urgencyLaw (i : Instr) (hq : i.reqHead ≠ none) (hl : Loud i = false) (hs : UrgencyLaw s)
    (h : exec i s = .next t) : UrgencyLaw t := by
  cases i <;> first | (cases hl; done) | exact absurd rfl hq | cases h
  case haltIntake h =>
    refine request_quiet_urgencyLaw hs (intakeBody_quiet takeHalt_site s).site ?_
    unfold intakeBody takeHalt
    split
    · rfl
    · dsimp only
      split <;> simp [accept]
  case resumeIntake h =>
    refine request_quiet_urgencyLaw hs (intakeBody_quiet takeResume_site s).site ?_
    unfold intakeBody takeResume
    split
    · rfl
    · dsimp only
      split
      · split <;> simp [accept]
      · rfl
  case close h =>
    refine request_quiet_urgencyLaw hs (closeBody_quiet s).site ?_
    unfold closeBody
    split
    · rfl
    split
    · rfl
    split
    · rfl
    dsimp only
    split <;> simp [accept]
  case reopen h =>
    refine request_quiet_urgencyLaw hs (reopenBody_quiet s).site ?_
    unfold reopenBody takeReopen
    split
    · rfl
    split
    · rfl
    dsimp only
    split <;> simp [accept]
  case setNotices h mask mode =>
    refine request_quiet_urgencyLaw hs (setNoticesBody_quiet mask mode s).site ?_
    unfold setNoticesBody
    split
    · rfl
    split <;> rfl
  case readDeck h position =>
    refine request_quiet_urgencyLaw hs (readDeckBody_quiet position s).site ?_
    unfold readDeckBody
    split <;> rfl
  case restartLink h => exact request_quiet_urgencyLaw hs (restartLinkBody_quiet s).site (restartLink_urgency s)
  case readStatus | readNotice | readSummary | readLane | readHolds | readTransfer | readDirectory | readCounters =>
    exact request_quiet_urgencyLaw hs rfl rfl

theorem exec_loud_urgencyLaw (i : Instr) (hl : Loud i = true) (hs : UrgencyLaw s) (h : exec i s = .next t) :
    UrgencyLaw t := by
  cases i <;> first | (cases hl; done) | cases h
  case dock h p => exact request_urgencyLaw hs (dockBody_urgencyLaw p hs)
  case declare h label depot mass => exact request_urgencyLaw hs (declareBody_urgencyLaw label depot mass hs)
  case tipStart h mode => exact request_urgencyLaw hs (tipStartBody_urgencyLaw mode hs)
  case tipOff h label depot mass => exact request_urgencyLaw hs (tipOffBody_urgencyLaw label depot mass hs)
  case tipEnd h => exact request_urgencyLaw hs (tipEndBody_urgencyLaw hs)
  case load h label => exact request_urgencyLaw hs (loadBody_urgencyLaw label hs)
  case unloadBack h => exact request_urgencyLaw hs (unloadBody_urgencyLaw hs)
  case arrive h label depot mass origin => exact request_urgencyLaw hs (arriveBody_urgencyLaw label depot mass origin hs)
  case depart h abandon => exact request_urgencyLaw hs (departBody_urgencyLaw abandon hs)
  case withdraw h label =>
    exact request_urgencyLaw hs (urgencyLaw_of_door (withdrawBody_door label s) (withdrawBody_urgency label s) hs)
  case setCutoff h cutoff => exact request_urgencyLaw hs (setCutoffBody_urgencyLaw cutoff hs)
  case setExpected h expected => exact request_urgencyLaw hs (setExpectedBody_urgencyLaw expected hs)
  case setClock h minute => exact request_urgencyLaw hs (setClockBody_urgencyLaw minute hs)
  case clearBay h => exact request_urgencyLaw hs (urgencyLaw_vacant rfl rfl)

theorem exec_apart_urgencyLaw (i : Instr) (ha : Apart i = true) (hs : UrgencyLaw s) (h : exec i s = .next t) :
    UrgencyLaw t := by
  refine Decidable.byCases (p := OfPort i = true) (fun hp => (exec_ofPort i hp h).1 ▸ hs) fun hp => ?_
  cases i <;> first | (cases ha; done) | exact absurd rfl hp | cases h
  case beacon key m => exact takeFrame_urgencyLaw hs (takeBeacon_urgencyLaw m hs)
  case offer key m => exact takeFrame_urgencyLaw hs (takeOffer_urgencyLaw m hs)
  case done key m => exact takeFrame_urgencyLaw hs (takeDone_urgencyLaw m hs)
  case hallClockPulse n => exact live_keeps (P := fun s => UrgencyLaw s) hs (pulseArrives_law hs)
  case pulseSilence => exact live_keeps (P := fun s => UrgencyLaw s) hs (silencePassed_law hs)
  case secondBoundary => exact live_keeps (P := fun s => UrgencyLaw s) hs (oscillatorBoundary_law hs)
  case powerOn p b => exact urgencyLaw_vacant rfl rfl
  case resetAsserted => exact hs

theorem exec_urgencyLaw (i : Instr) (hs : UrgencyLaw s) (h : exec i s = .next t) : UrgencyLaw t := by
  by_cases hq : i.reqHead = none
  · cases ha : Apart i
    · exact urgencyLaw_of_door (exec_door i hq ha h) (exec_urgency i hq ha h) hs
    · exact exec_apart_urgencyLaw i ha hs h
  · cases hl : Loud i
    · exact exec_quiet_urgencyLaw i hq hl hs h
    · exact exec_loud_urgencyLaw i hl hs h

/-- Settles O8: every command that moves M, E, H or O works U out again, and the rest leave both U and these. -/
theorem everyStepKeepsTheUrgency : Obligations.EveryStepKeepsTheUrgency := by
  unfold Obligations.EveryStepKeepsTheUrgency
  intro s t hs h
  exact step_keeps (P := fun s => UrgencyLaw s) (fun _ _ h => h) (fun i _ _ hs h => exec_urgencyLaw i hs h) hs h

end Sys2Proof.Machine
end

section
/-! SUPPORT. A recomputation of M while DOCKED, by what the cutoff brings: nothing, the notice, CLOSED, a call, or a
pending start (R54 to R56, R152). -/

namespace Sys2Proof.Machine

variable {s u v : State} {d : Docking}

/-! ## The notices of the cutoff -/

theorem warnedNotices_congr (m k : Nat) (hn : u.notes = v.notes) (hm : u.time.minute = v.time.minute)
    (hs : u.time.seconds = v.time.seconds) (hw : u.time.warned = v.time.warned) :
    warnedNotices m k u = warnedNotices m k v := by
  simp only [warnedNotices, hw, raise_notes_clock _ _ _ hn hm hs, hn]

/-- With M at 0 the warning is due unless it was given (R55). -/
theorem warnedNotices_zero (k : Nat) (s : State) :
    warnedNotices 0 k s = if s.time.warned = true then s.notes else (raise .cutoffNear 0 k s).notes := by
  unfold warnedNotices
  cases s.time.warned <;> simp

/-- The door with the warning of M at 0 given (R55). -/
def warnedAtZero (k : Nat) (s : State) : State := if s.time.warned = true then s else raise .cutoffNear 0 k s

/-- The notices where the cutoff is reached and neither a call nor CLOSED follows: the warning, and in OPEN
CUTOFF_REACHED (R55, R152). -/
def reachedNotices (k : Nat) (s : State) : Notices :=
  if s.dep.state = some .openBay then (raise .cutoffReached k s.time.minute (warnedAtZero k s)).notes
  else (warnedAtZero k s).notes

theorem warnedAtZero_notes (k : Nat) (s : State) : (warnedAtZero k s).notes = warnedNotices 0 k s := by
  rw [warnedNotices_zero, warnedAtZero]
  split <;> rfl

theorem warnedAtZero_time (k : Nat) (s : State) : (warnedAtZero k s).time = s.time := by
  unfold warnedAtZero
  split <;> rfl

theorem reachedNotices_congr (k : Nat) (hn : u.notes = v.notes) (hm : u.time.minute = v.time.minute)
    (hs : u.time.seconds = v.time.seconds) (hw : u.time.warned = v.time.warned) (hd : u.dep.state = v.dep.state) :
    reachedNotices k u = reachedNotices k v := by
  have hz : (warnedAtZero k u).notes = (warnedAtZero k v).notes := by
    rw [warnedAtZero_notes, warnedAtZero_notes]
    exact warnedNotices_congr 0 k hn hm hs hw
  have hr : (raise .cutoffReached k v.time.minute (warnedAtZero k u)).notes =
      (raise .cutoffReached k v.time.minute (warnedAtZero k v)).notes :=
    raise_notes_clock _ _ _ hz (by simp only [warnedAtZero_time, hm]) (by simp only [warnedAtZero_time, hs])
  simp only [reachedNotices, hd, hm, hz, hr]

/-! ## The outcomes -/

/-- Where M does not come from above 0 to 0 the cutoff is not reached (R56). -/
theorem recomputeM_unreached (hd : s.docking = some d)
    (hno : effectiveMinutes s.time d.cutoff ≠ 0 ∨ s.time.m = 0) : recomputeM s = measured d s := by
  rw [recomputeM_docked hd, if_neg]
  omega

theorem recomputeM_reached (hd : s.docking = some d) (h0 : effectiveMinutes s.time d.cutoff = 0)
    (hbefore : 0 < s.time.m) : recomputeM s = cutoffReached (measured d s) := by
  rw [recomputeM_docked hd, if_pos ⟨h0, hbefore⟩]

/-- The door with M at 0 (R55, R57). -/
theorem measured_zero (hd : s.docking = some d) (h0 : effectiveMinutes s.time d.cutoff = 0) :
    ∃ l r, measured d s = { s with
      time := { s.time with m := 0, warned := true }
      urgency := urgencyFor 0 d.expected (outboundCount s.deck) d.handling
      notes := warnedNotices 0 d.cutoff s, link := l, dir := r } := by
  have h := measured_eq hd
  rw [h0, show (s.time.warned || decide (0 ≤ 15)) = true from Bool.or_true _] at h
  exact ⟨_, _, h⟩

/-- The cutoff reached with neither a call nor CLOSED: CUTOFF_REACHED in OPEN, and nothing elsewhere (R152). -/
theorem recomputeM_noticed (hd : s.docking = some d) (h0 : effectiveMinutes s.time d.cutoff = 0)
    (hbefore : 0 < s.time.m) (hw : s.dep.state ≠ some .waiting)
    (ha : s.straps.autoClose = false ∨ s.dep.state ≠ some .openBay) :
    recomputeM s = { measured d s with notes := reachedNotices d.cutoff s } := by
  rw [recomputeM_reached hd h0 hbefore]
  obtain ⟨l, r, hy⟩ := measured_zero hd h0
  rw [hy, cutoffReached_notice (by exact hw) (by exact ha)]
  have hcut : (s.docking.map (·.cutoff)).getD 0 = d.cutoff := by rw [hd]; rfl
  simp only [hcut]
  have hn : reachedNotices d.cutoff s = if s.dep.state = some .openBay then
      (raise .cutoffReached d.cutoff s.time.minute (warnedAtZero d.cutoff s)).notes
    else warnedNotices 0 d.cutoff s := by rw [reachedNotices, warnedAtZero_notes]
  rw [hn]
  congr 1
  refine if_congr Iff.rfl (raise_notes_clock _ _ _ ?_ ?_ ?_) rfl
  · exact (warnedAtZero_notes _ _).symm
  · rw [warnedAtZero_time]
  · rw [warnedAtZero_time]

theorem recomputeM_closes (hd : s.docking = some d) (h0 : effectiveMinutes s.time d.cutoff = 0)
    (hbefore : 0 < s.time.m) (hs : s.dep.state = some .waiting) :
    recomputeM s = enterClosed .waitLimit (measured d s) := by
  rw [recomputeM_reached hd h0 hbefore]
  obtain ⟨l, r, hy⟩ := measured_zero hd h0
  rw [hy]
  exact cutoffReached_waiting hs

theorem measured_room (hq : s.link.queue.length < 15) : hasRoom 0 (measured d s).link.queue = true :=
  hasRoom_call (q := s.link.queue) hq (recomputeUrgency_queue_length (withMinutes d s))

/-- With no run and two free slots of the queue the call starts at once, as M is 0 (R141). -/
theorem recomputeM_calls (hd : s.docking = some d) (h0 : effectiveMinutes s.time d.cutoff = 0)
    (hbefore : 0 < s.time.m) (hs : s.dep.state = some .openBay) (ha : s.straps.autoClose = true)
    (hrun : s.run.mode = none) (hq : s.link.queue.length < 15) : recomputeM s = startCall (measured d s) := by
  have hroom := measured_room (d := d) hq
  rw [recomputeM_reached hd h0 hbefore]
  obtain ⟨l, r, hy⟩ := measured_zero hd h0
  rw [hy] at hroom ⊢
  rw [cutoffReached_auto (by exact hs) (by exact ha), autoStart, if_pos]
  exact canStart_iff.2 ⟨hrun, hroom, .inr rfl⟩

/-- Departure Control with the start of AUTOCLOSE CUTOFF pending (R141). -/
def pendingDep (s : State) : Departure :=
  { s.dep with startPending :=
      if StartCause.autocloseCutoff ∈ s.dep.startPending then s.dep.startPending
      else s.dep.startPending ++ [.autocloseCutoff] }

/-- With a run active the start becomes pending (R141). -/
theorem recomputeM_pends (hd : s.docking = some d) (h0 : effectiveMinutes s.time d.cutoff = 0)
    (hbefore : 0 < s.time.m) (hs : s.dep.state = some .openBay) (ha : s.straps.autoClose = true)
    (hrun : s.run.mode ≠ none) : recomputeM s = { measured d s with dep := pendingDep s } := by
  rw [recomputeM_reached hd h0 hbefore]
  obtain ⟨l, r, hy⟩ := measured_zero hd h0
  rw [hy, cutoffReached_auto (by exact hs) (by exact ha), autoStart_active _ (by exact hrun)]
  rfl

/-! ## What the outcomes show -/

/-- The beacon that U brings, whatever notices, port and Departure Control the outcome has, with its state and halt
flag as they were (R58, R84). -/
theorem measured_beacon_with (hd : s.docking = some d) {x : Departure} (n : Notices) (p : Port)
    (hx : x.state = s.dep.state) (hh : x.halt = s.dep.halt) :
    BeaconIf (significant (measured d s).urgency s.dir.last.urgency) s
      { measured d s with notes := n, port := p, dep := x } := by
  have hu : (measured d s).urgency = urgencyNow (withMinutes d s) := recomputeUrgency_urgency _
  refine recomputeUrgency_beacon (x := withMinutes d s) (t := { measured d s with notes := n, port := p, dep := x })
    rfl rfl rfl rfl ⟨?_, ?_, contentNow_congr ?_ hx hh ?_ ?_ ?_ hu, ?_, hu⟩
  all_goals
    rw [measured_eq hd]
    rfl

/-- A door CLOSED by the cutoff, but for queue, beacon and notices (R149). -/
structure ClosedFrom (s t : State) : Prop where
  time : t.time = { s.time with m := 0, warned := true }
  dep : t.dep = { s.dep with
    state := some .closed, lamp := true, window := none, allowance := none, named := [], doneOwed := t.dep.doneOwed
    ready := false, autoWas := false }
  store : t.store = { s.store with holds := [] }
  done : t.dep.doneOwed = true ∨ ∃ f ∈ t.link.queue, f.body = .done { bay := s.straps.bay }
  closed : hasFlag t.notes.summary .closed = true
  voided : s.store.holds ≠ [] → hasFlag t.notes.summary .voided = true
  frame : t = { s with
    time := t.time, notes := t.notes, urgency := t.urgency, dep := t.dep, store := t.store, link := t.link
    dir := t.dir }

theorem enterClosed_measured (hd : s.docking = some d) (h0 : effectiveMinutes s.time d.cutoff = 0) :
    ClosedFrom s (enterClosed .waitLimit (measured d s)) := by
  have hdep := enterClosed_dep .waitLimit (measured d s)
  have hstore := enterClosed_store .waitLimit (measured d s)
  have hdone := enterClosed_done .waitLimit (measured d s)
  have hclosed := hasFlag_enterClosed .waitLimit (measured d s)
  have hvoided := hasFlag_enterClosed_voided .waitLimit (s := measured d s)
  have hframe := enterClosed_changes .waitLimit (measured d s)
  generalize enterClosed .waitLimit (measured d s) = z at *
  obtain ⟨l, r, hy⟩ := measured_zero hd h0
  rw [hy] at hdep hstore hdone hvoided hframe
  exact ⟨by rw [hframe], hdep, hstore, hdone, hclosed, hvoided, by rw [hframe]⟩

/-- A door CALLING by the cutoff, but for queue and beacon (R142). -/
structure CalledFrom (d : Docking) (s t : State) : Prop where
  time : t.time = { s.time with m := 0, warned := true }
  dep : t.dep = calledDep s
  call : ∃ f ∈ t.link.queue, f.body = .call { bay := s.straps.bay, number := (s.dep.callNumber + 1) % 256 }
  notes : t.notes = warnedNotices 0 d.cutoff s
  frame : t = { s with
    time := t.time, notes := t.notes, urgency := t.urgency, dep := t.dep, link := t.link, dir := t.dir }

theorem startCall_measured (hd : s.docking = some d) (h0 : effectiveMinutes s.time d.cutoff = 0)
    (hq : s.link.queue.length < 15) : CalledFrom d s (startCall (measured d s)) := by
  have hdep := startCall_dep (measured d s)
  have hcall := exists_call_startCall (s := s) (measured_room (d := d) hq)
  have hnotes := startCall_notes (measured d s)
  have hframe := startCall_changes (measured d s)
  generalize startCall (measured d s) = z at *
  obtain ⟨l, r, hy⟩ := measured_zero hd h0
  rw [hy] at hdep hcall hnotes hframe
  exact ⟨by rw [hframe], hdep, hcall rfl rfl, hnotes, by rw [hframe]⟩

end Sys2Proof.Machine
end

section
/-! PROOF. SET CLOCK and SET NOTICES (O40). -/

namespace Sys2Proof.Machine

variable {s t : State} {d : Docking} {k : Nat}

/-- The door with the clock set (R51). -/
def clocked (k : Nat) (s : State) : State := setTime { s.time with minute := k, seconds := 0, clockSet := true } s

/-- A SET CLOCK taken recomputes M for the new T (R51). -/
theorem setClockBody_taken (hk : k ≤ 1439) (ht : recomputeM (clocked k s) = t) :
    setClockBody (some k) s = accept (.setClock t.time.minute t.time.m t.time.source) t := by
  subst ht
  simp [setClockBody, minuteOk, hk, clocked]

/-- A SET CLOCK taken with M, the clock and its source as `t` shows them. -/
theorem exec_setClock {h : ReqHead} {m : Nat} (ht : Taken h s) (hk : k ≤ 1439) (hbody : recomputeM (clocked k s) = t)
    (hm : t.time.m = m) (hmin : t.time.minute = k) (hsrc : t.time.source = s.time.source) (hp : t.port = s.port) :
    exec (.setClock h (some k)) s =
      .next { t with port := replyPort h (.ok .setClock (.setClock k m s.time.source)) s t } := by
  have hacc := setClockBody_taken hk hbody
  rw [hm, hmin, hsrc] at hacc
  exact congrArg Host.Outcome.next (request_accepted (r := .setClock) ht hacc hp)

/-- With T at `k` M comes to 0 where the margin takes the minutes up (R53). -/
theorem clocked_zero (hm : rawMinutes k d.cutoff ≤ margin s.time) :
    effectiveMinutes (clocked k s).time d.cutoff = 0 := Nat.sub_eq_zero_of_le hm

/-- The notices as the statements give them, of the door with the minute and the seconds counter alone set. -/
def minuteSet (k : Nat) (s : State) : State := { s with time := { s.time with minute := k, seconds := 0 } }

theorem warnedNotices_clocked (m c : Nat) (s : State) :
    warnedNotices m c (clocked k s) = warnedNotices m c (minuteSet k s) := warnedNotices_congr _ _ rfl rfl rfl rfl

theorem reachedNotices_clocked (c : Nat) (s : State) :
    reachedNotices c (clocked k s) = reachedNotices c (minuteSet k s) := reachedNotices_congr _ rfl rfl rfl rfl rfl

/-- Settles O40: SET CLOCK recomputes M for the new T, and where M comes to 0 the departure state decides what the
cutoff brings; SET NOTICES has no other effect than its own. -/
theorem setClockAndSetNotices : Obligations.SetClockAndSetNotices := by
  unfold Obligations.SetClockAndSetNotices
  refine ⟨fun h k s ht hk hd => ?_, fun h k s d m ht hk hd hm hno => ?_, fun h k s d ht hk hd hm hbefore hw ha => ?_,
    fun h k s d ht hk hd hm hbefore hs => ?_, fun h k s d ht hk hd hm hbefore hs ha hrun hq => ?_,
    fun h k s d ht hk hd hm hbefore hs ha hrun => ?_, fun h mask mode s ht hmask => ?_⟩
  · -- while VACANT
    exact exec_setClock ht hk (recomputeM_vacant hd) rfl rfl rfl rfl
  · -- the cutoff is not reached
    obtain rfl : m = effectiveMinutes (clocked k s).time d.cutoff := hm
    have hbody := recomputeM_unreached (s := clocked k s) hd hno
    have hbeacon := measured_beacon_with (s := clocked k s) hd (x := s.dep)
    have hy := measured_eq (s := clocked k s) hd
    generalize measured d (clocked k s) = y at *
    subst hy
    exact ⟨_, exec_setClock ht hk hbody rfl rfl rfl rfl, rfl, rfl, hbeacon _ _ rfl rfl,
      warnedNotices_clocked _ _ _, rfl, rfl⟩
  · -- neither a call nor CLOSED follows
    have h0 := clocked_zero hm
    have hbody := recomputeM_noticed (s := clocked k s) hd h0 hbefore hw ha
    have hbeacon := measured_beacon_with (s := clocked k s) hd (x := s.dep)
    obtain ⟨l, r, hy⟩ := measured_zero (s := clocked k s) hd h0
    rw [hy] at hbody hbeacon
    exact ⟨_, exec_setClock ht hk hbody rfl rfl rfl rfl, rfl, rfl,
      reachedNotices_clocked _ _, hbeacon _ _ rfl rfl, rfl, rfl⟩
  · -- WAITING becomes CLOSED
    have h0 := clocked_zero hm
    have hbody := recomputeM_closes (s := clocked k s) hd h0 hbefore hs
    have hleft := enterClosed_measured (s := clocked k s) hd h0
    generalize enterClosed .waitLimit (measured d (clocked k s)) = z at *
    have htime := hleft.time
    exact ⟨_, exec_setClock ht hk hbody (by rw [htime]) (by rw [htime]; rfl) (by rw [htime]; rfl)
      (by rw [hleft.frame]; rfl), htime, hleft.dep, hleft.store, hleft.done, hleft.closed, hleft.voided, rfl,
      by rw [hleft.frame]; rfl⟩
  · -- the call starts
    have h0 := clocked_zero hm
    have hbody := recomputeM_calls (s := clocked k s) hd h0 hbefore hs ha hrun hq
    have hleft := startCall_measured (s := clocked k s) hd h0 hq
    generalize startCall (measured d (clocked k s)) = z at *
    have htime := hleft.time
    have hnotes := hleft.notes
    rw [warnedNotices_clocked, warnedNotices_zero] at hnotes
    exact ⟨_, exec_setClock ht hk hbody (by rw [htime]) (by rw [htime]; rfl) (by rw [htime]; rfl)
      (by rw [hleft.frame]; rfl), htime, hleft.dep, hleft.call, hnotes, rfl, by rw [hleft.frame]; rfl⟩
  · -- the automatic start becomes pending
    have h0 := clocked_zero hm
    have hbody := recomputeM_pends (s := clocked k s) hd h0 hbefore hs ha hrun
    have hbeacon := measured_beacon_with (s := clocked k s) hd (x := pendingDep (clocked k s))
    obtain ⟨l, r, hy⟩ := measured_zero (s := clocked k s) hd h0
    rw [hy] at hbody hbeacon
    have hnotes := warnedNotices_zero d.cutoff (minuteSet k s)
    rw [← warnedNotices_clocked] at hnotes
    exact ⟨_, exec_setClock ht hk hbody rfl rfl rfl rfl, rfl, rfl, hnotes, hbeacon _ _ rfl rfl, rfl, rfl⟩
  · have hbody : setNoticesBody mask (some mode) s =
        accept (.setNotices (mask ||| NoticeKind.overrun.flag) mode)
          { s with notes := { s.notes with mask := mask ||| NoticeKind.overrun.flag, mode := mode } } := by
      simp [setNoticesBody, hmask]
    exact congrArg Host.Outcome.next (request_accepted (r := .setNotices) ht hbody rfl)

end Sys2Proof.Machine
end

section
/-! SUPPORT. Second boundaries: what is due with nothing due, the Time Base after a boundary, and flags of the summary
word that outlast a recomputation of M. -/

namespace Sys2Proof.Machine

variable {s t : State} {d : Docking}

/-! ## Nothing due -/

theorem expireRejoin_idle (h : s.link.line ≠ .faulted ∨ s.link.rejoin ≠ some 30) : expireRejoin s = s := by
  rw [expireRejoin, if_neg]
  rintro ⟨hl, -, hr⟩
  exact h.elim (fun h => h hl) (fun h => h hr)

theorem expireBeacon_idle (h : s.dir.timer ≠ some 0) : expireBeacon s = s := by
  rw [expireBeacon, if_neg fun hb => h hb.2]

theorem expireEntry_idle (h : ∀ e ∈ s.dir.entries, e.since < 3 * e.interval) (bay : Nat) : expireEntry bay s = s := by
  unfold expireEntry
  split
  next => rfl
  next e he => rw [if_neg (Nat.not_le.2 (h e (List.mem_of_find?_eq_some he)))]

theorem expireUnreachable_idle (h : ∀ e ∈ s.dir.entries, e.unreachable ≠ some 0) (bay : Nat) :
    expireUnreachable bay s = s := by
  unfold expireUnreachable
  split
  next => rfl
  next e he => rw [if_neg (h e (List.mem_of_find?_eq_some he))]

theorem expireHold_idle (h : ∀ g ∈ s.asm.openGroups, g.timer < 20) (target : Nat) : expireHold target s = s := by
  unfold expireHold
  split
  next => rfl
  next g hg =>
    have hg : ¬ Config.holdSeconds ≤ g.timer := Nat.not_le.2 (h g (List.mem_of_find?_eq_some hg))
    rw [if_neg hg]

/-- No entry's answer timer is at 0 where none of the table is (R105). -/
theorem answerDue_idle {e : TransferEntry} (h : ∀ r ∈ e.state.answerTimer, r ≠ .left 0) (target group : Nat) :
    answerDue target group e = false := by
  unfold answerDue
  split
  next hs => exact absurd rfl (h (.left 0) (by rw [hs]; rfl))
  next => rfl

theorem expireAnswer_idle (h : ∀ e ∈ s.table, ∀ r ∈ e.state.answerTimer, r ≠ .left 0) (target group : Nat) :
    expireAnswer target group s = s := by
  have hnone : s.table.filter (answerDue target group) = [] :=
    List.filter_eq_nil_iff.2 fun e he => by simp [answerDue_idle (h e he)]
  rw [expireAnswer, hnone]
  rfl

theorem expireTravel_idle (h : ∀ e ∈ s.table, e.state.travel ≠ some 0) (label : Nat) : expireTravel label s = s := by
  unfold expireTravel
  split
  next => rfl
  next e he =>
    split
    next hs => exact absurd (by rw [hs]; rfl) (h e (List.mem_of_find?_eq_some he))
    next => rfl

theorem expireWindow_idle (h : s.dep.window ≠ some 6) : expireWindow s = s := by
  rw [expireWindow, if_neg fun hw => h hw.2]

theorem expireWait_idle (h : s.dep.state = some .waiting → waitLimit s ≠ some 0) : expireWait s = s := by
  rw [expireWait, if_neg fun hw => h hw.1 hw.2]

theorem retryStart_idle (h : s.dep.retry = false) : retryStart s = s := by simp [retryStart, h]

/-- With nothing due nothing is carried out ahead of the boundary (Log 5). -/
theorem expireDue_idle (h : NothingDue s) : expireDue s = s := by
  obtain ⟨hrejoin, hbeacon, hdir, hgroups, htable, hwindow, hwait, hretry⟩ := h
  have hentry := List.foldl_fixed' (f := fun t x => expireEntry x t) (expireEntry_idle fun e he => (hdir e he).1)
  have hmark := List.foldl_fixed' (f := fun t x => expireUnreachable x t)
    (expireUnreachable_idle fun e he => (hdir e he).2)
  have hgroup := List.foldl_fixed' (f := fun t x => expireHold x t) (expireHold_idle hgroups)
  have hanswer := List.foldl_fixed' (f := fun t (x : Nat × Nat) => expireAnswer x.1 x.2 t) fun x =>
    expireAnswer_idle (fun e he => (htable e he).1) x.1 x.2
  have htravel := List.foldl_fixed' (f := fun t x => expireTravel x t) (expireTravel_idle fun e he => (htable e he).2)
  simp only [expireDue, expireRejoin_idle hrejoin, expireBeacon_idle hbeacon, hentry, hmark, hgroup, hanswer, htravel,
    expireWindow_idle hwindow, expireWait_idle hwait, retryStart_idle hretry]

/-- A second boundary within the minute, with nothing due (R46). -/
theorem secondTick_counts (h : NothingDue s) (hs : s.time.seconds < 59) :
    secondTick s = setTime { s.time with seconds := s.time.seconds + 1 } (countSeconds s) := by
  have hne : ¬ (countSeconds s).time.seconds = 59 := Nat.ne_of_lt hs
  simp only [secondTick, expireDue_idle h, if_neg hne]
  rfl

/-! ## The Time Base after a boundary -/

theorem time_of_door (h : doorOf t = doorOf s) : t.time = s.time := (congrArg Site.time h :)
theorem docking_of_hall (h : hallOf t = hallOf s) : t.docking = s.docking := (congrArg Site.docking h :)

theorem countSeconds_time (s : State) : (countSeconds s).time = s.time := rfl
theorem countSeconds_docking (s : State) : (countSeconds s).docking = s.docking := rfl

/-- Expiries and the second timers leave the Time Base (R46). -/
theorem countSeconds_expireDue_time (s : State) : (countSeconds (expireDue s)).time = s.time :=
  (countSeconds_time _).trans (time_of_door (expireDue_door s))

theorem countSeconds_expireDue_docking (s : State) : (countSeconds (expireDue s)).docking = s.docking :=
  (countSeconds_docking _).trans (docking_of_hall (hall_of_door (expireDue_door s)))

/-- A second boundary within the minute moves the seconds counter alone of the Time Base (R46). -/
theorem secondTick_time_second (hs : s.time.seconds ≠ 59) :
    (secondTick s).time = { s.time with seconds := s.time.seconds + 1 } := by
  have ht := countSeconds_expireDue_time s
  unfold secondTick
  dsimp only
  generalize countSeconds (expireDue s) = u at ht
  rw [ht, if_neg hs]
  rfl

theorem countMinutes_time (s : State) : (countMinutes s).time = s.time := time_of_door (door_of_site (countMinutes_site s))

/-- A minute boundary moves T and f, and while DOCKED works M out of them (R47, R54). -/
theorem secondTick_time_minute (hs : s.time.seconds = 59) : ∃ m w,
    (secondTick s).time = { minuteTime s.time with seconds := 0, m := m, warned := w }
      ∧ (s.docking = none → m = s.time.m)
      ∧ ∀ d ∈ s.docking, m = effectiveMinutes (minuteTime s.time) d.cutoff := by
  have ht := countSeconds_expireDue_time s
  have hd := countSeconds_expireDue_docking s
  unfold secondTick
  dsimp only
  generalize countSeconds (expireDue s) = u at ht hd
  rw [ht, if_pos hs, minuteBoundary_eq, countMinutes_time, recomputeUrgency_time, setTime_time]
  cases hdock : s.docking with
  | none =>
    rw [recomputeM_vacant (by exact hd.trans hdock)]
    exact ⟨s.time.m, s.time.warned, rfl, fun _ => rfl, nofun⟩
  | some d =>
    obtain ⟨w, hw⟩ := recomputeM_time (s := setTime (minuteTime { s.time with seconds := 0 })
      (setTime { s.time with seconds := 0 } u)) (d := d) (hd.trans hdock)
    refine ⟨_, w, hw, nofun, ?_⟩
    rintro _ ⟨⟩
    rfl

/-- At a minute boundary U is worked out in any case (R47, R58). -/
theorem secondTick_law_minute (hs : s.time.seconds = 59) : UrgencyLaw (secondTick s) := by
  have ht := countSeconds_expireDue_time s
  unfold secondTick
  dsimp only
  generalize countSeconds (expireDue s) = u at ht
  rw [ht, if_pos hs]
  exact minuteBoundary_law _

/-- What no second boundary touches of the Time Base (R46, R47). -/
theorem secondTick_time (s : State) : ∃ sec minute f m w, (secondTick s).time =
    { s.time with seconds := sec, minute := minute, fallback := f, m := m, warned := w } := by
  by_cases hs : s.time.seconds = 59
  · obtain ⟨m, w, ht, -⟩ := secondTick_time_minute hs
    exact ⟨_, _, _, _, _, ht⟩
  · exact ⟨_, _, _, _, _, secondTick_time_second hs⟩

theorem recomputeM_time_keeps (s : State) : ∃ m w, (recomputeM s).time = { s.time with m := m, warned := w } := by
  cases hd : s.docking with
  | none => rw [recomputeM_vacant hd]; exact ⟨_, _, rfl⟩
  | some d =>
    obtain ⟨w, hw⟩ := recomputeM_time hd
    exact ⟨_, w, hw⟩

/-! ## Flags that stay set -/

variable {j : NoticeKind}

theorem hasFlag_enterClosed_of (c : CloseCause) (h : hasFlag s.notes.summary j = true) :
    hasFlag (enterClosed c s).notes.summary j = true := by
  have hvoid : hasFlag (voidHolds (fun _ => true) s).notes.summary j = true := by
    have hfold := foldl_keep State.notes (fun u l => removeHold l u) (fun u l => announce_notes _ _)
      ((s.store.holds.filter (fun _ => true)).map (·.label)) s
    unfold voidHolds
    dsimp only
    split
    · rw [hfold]; exact h
    · exact hasFlag_raise_of _ _ _ (by rw [hfold]; exact h)
  have hask : (askDone (voidHolds (fun _ => true) s)).notes = (voidHolds (fun _ => true) s).notes := by
    rcases askDone_cases (voidHolds (fun _ => true) s) with h | ⟨f, -, h⟩ <;> rw [h] <;> rfl
  rw [enterClosed_eq, setDep_notes]
  refine hasFlag_raise_of _ _ _ ?_
  rw [closedDoor, beaconedChange_notes, setDep_notes, hask]
  exact hvoid

theorem hasFlag_cutoffReached_of (h : hasFlag s.notes.summary j = true) :
    hasFlag (cutoffReached s).notes.summary j = true := by
  unfold cutoffReached
  split
  · split
    · rw [autoStart_notes]; exact h
    · exact hasFlag_raise_of _ _ _ h
  · exact hasFlag_enterClosed_of _ h
  · exact h

theorem hasFlag_recomputeM_of (h : hasFlag s.notes.summary j = true) :
    hasFlag (recomputeM s).notes.summary j = true := by
  cases hd : s.docking with
  | none => rw [recomputeM_vacant hd]; exact h
  | some d =>
    have hm : hasFlag (measured d s).notes.summary j = true := by
      rw [measured_eq hd]
      dsimp only
      split
      · exact hasFlag_raise_of _ _ _ h
      · exact h
    rw [recomputeM_docked hd]
    split
    · exact hasFlag_cutoffReached_of hm
    · exact hm

end Sys2Proof.Machine
end

section
/-! PROOF. The hall clock's pulses and its silence (O55). -/

namespace Sys2Proof.Machine

variable {s t : State} {us p : Nat} {d : Docking}

/-! ## The pulse classified -/

/-- The door as a pulse arrives `us` after the last command that the oscillator times (R45). -/
def pulsed (us : Nat) (s : State) : State :=
  setTime { (passTime us s).time with sincePulse := some 0, silence := 0 } (passTime us s)

theorem exec_firstPulse (hr : s.pins.resetHeld = false) (hp : s.time.sincePulse = none) :
    exec (.hallClockPulse us) s = .next (pulsed us s) := by
  refine congrArg Host.Outcome.next ?_
  rw [live_free _ hr]
  simp only [pulseArrives, passTime, hp]
  rfl

theorem exec_laterPulse (hr : s.pins.resetHeld = false) (hp : s.time.sincePulse = some p) :
    exec (.hallClockPulse us) s =
      .next (if pulseGood (p + us) then goodPulse (pulsed us s) else badPulse (pulsed us s)) := by
  refine congrArg Host.Outcome.next ?_
  rw [live_free _ hr]
  simp only [pulseArrives, passTime, hp]
  rfl

theorem exec_goodPulse (hr : s.pins.resetHeld = false) (hp : s.time.sincePulse = some p) (h1 : 900000 ≤ p + us)
    (h2 : p + us ≤ 1100000) : exec (.hallClockPulse us) s = .next (goodPulse (pulsed us s)) := by
  have hgood : pulseGood (p + us) = true := decide_eq_true ⟨h1, h2⟩
  rw [exec_laterPulse hr hp, if_pos hgood]

theorem exec_badPulse (hr : s.pins.resetHeld = false) (hp : s.time.sincePulse = some p)
    (h : p + us < 900000 ∨ 1100000 < p + us) : exec (.hallClockPulse us) s = .next (badPulse (pulsed us s)) := by
  have hbad : ¬ (Config.pulseShortest ≤ p + us ∧ p + us ≤ Config.pulseLongest) := fun ⟨h1, h2⟩ =>
    h.elim (Nat.not_lt.2 h1) (Nat.not_lt.2 h2)
  rw [exec_laterPulse hr hp, if_neg (by simpa [pulseGood] using hbad)]

/-! ## The rules of the source states -/

theorem goodPulse_reference (h : s.time.source = .reference) :
    goodPulse s = alignSecond (setTime { s.time with badRun := 0 } s) := by simp only [goodPulse, h]

theorem goodPulse_fallback (h : s.time.source = .fallback) :
    goodPulse s = setTime { s.time with source := .returning, goodRun := 1 } s := by simp only [goodPulse, h]

theorem goodPulse_counts (h : s.time.source = .returning) (hn : s.time.goodRun < 63) :
    goodPulse s = setTime { s.time with goodRun := s.time.goodRun + 1 } s := by
  have hn : ¬ Config.goodPulses ≤ s.time.goodRun + 1 := by simp only [Config.goodPulses]; omega
  simp only [goodPulse, h, if_neg hn]

theorem goodPulse_completes (h : s.time.source = .returning) (hn : 63 ≤ s.time.goodRun) :
    goodPulse s = enterReference s := by
  have hn : Config.goodPulses ≤ s.time.goodRun + 1 := by simp only [Config.goodPulses]; omega
  simp only [goodPulse, h, if_pos hn]

theorem badPulse_counts (h : s.time.source = .reference) (hn : s.time.badRun < 2) :
    badPulse s = setTime { s.time with badRun := s.time.badRun + 1 } s := by
  have hn : ¬ Config.badPulses ≤ s.time.badRun + 1 := by simp only [Config.badPulses]; omega
  simp only [badPulse, h, if_neg hn]

theorem badPulse_third (h : s.time.source = .reference) (hn : s.time.badRun = 2) :
    badPulse s = enterFallback .badPulses s := by
  have hn : Config.badPulses ≤ s.time.badRun + 1 := by simp only [Config.badPulses]; omega
  simp only [badPulse, h, if_pos hn]

theorem badPulse_fallback (h : s.time.source = .fallback) : badPulse s = s := by simp only [badPulse, h]

theorem badPulse_returning (h : s.time.source = .returning) :
    badPulse s = setTime { s.time with goodRun := 0 } s := by simp only [badPulse, h]

/-- A good pulse close after an oscillator boundary moves the next one (R46). -/
theorem alignSecond_near (hb : s.time.byOscillator = true) (h : s.time.sinceBoundary < 500000) :
    alignSecond s = setTime { s.time with untilBoundary := 1000000 } s := by
  rw [alignSecond, if_pos ⟨hb, h⟩]
  rfl

/-- Any other is a boundary of its own (R46). -/
theorem alignSecond_far (h : s.time.byOscillator = false ∨ 500000 ≤ s.time.sinceBoundary) :
    alignSecond s = makeBoundary false s := by
  rw [alignSecond, if_neg]
  rintro ⟨hb, hlt⟩
  exact h.elim (fun h => absurd (hb.symm.trans h) (by decide)) (Nat.not_le.2 hlt)

/-- Whichever it is, the next boundary is 1 s on, and the source, the runs and the measurements of pulses stand. -/
theorem alignSecond_time (s : State) : ∃ sec minute f m w since by', (alignSecond s).time =
    { s.time with
      seconds := sec, minute := minute, fallback := f, m := m, warned := w, sinceBoundary := since
      untilBoundary := 1000000, byOscillator := by' } := by
  unfold alignSecond
  split
  · exact ⟨_, _, _, _, _, _, _, rfl⟩
  · obtain ⟨sec, minute, f, m, w, h⟩ := secondTick_time
      (setTime { s.time with sinceBoundary := 0, untilBoundary := Config.second, byOscillator := false } s)
    exact ⟨sec, minute, f, m, w, 0, false, h⟩

/-! ## REFERENCE -/

/-- The door aligned as the 64th good pulse brings REFERENCE (R50). -/
def aligned (s : State) : State :=
  alignSecond (setTime { s.time with source := .reference, goodRun := Config.goodPulses, badRun := 0 } s)

/-- CLOCK_RESTORED raised with f and T, and f at 0 (R50). -/
def restored (s : State) : State :=
  setTime { s.time with fallback := 0 } (raise .clockRestored s.time.fallback s.time.minute s)

theorem enterReference_eq (s : State) : enterReference s = recomputeM (restored (aligned s)) := rfl

/-- Close after an oscillator boundary only the next boundary moves (R46). -/
theorem aligned_near (hb : s.time.byOscillator = true) (h : s.time.sinceBoundary < 500000) : aligned s =
    setTime { s.time with source := .reference, goodRun := 64, badRun := 0, untilBoundary := 1000000 } s :=
  alignSecond_near (s := setTime { s.time with source := .reference, goodRun := Config.goodPulses, badRun := 0 } s) hb h

/-- REFERENCE entered while VACANT with no boundary made (R50). -/
theorem enterReference_vacant {u : State} (hd : s.docking = none) (hb : s.time.byOscillator = true)
    (h : s.time.sinceBoundary < 500000) (hn : s.notes = u.notes) (hm : s.time.minute = u.time.minute)
    (hs : s.time.seconds = u.time.seconds) : enterReference s = { s with
      time := { s.time with
        source := .reference, goodRun := 64, badRun := 0, fallback := 0, untilBoundary := 1000000 }
      notes := (raise .clockRestored s.time.fallback u.time.minute u).notes } := by
  have hnotes : (restored (aligned s)).notes = (raise .clockRestored s.time.fallback u.time.minute u).notes := by
    rw [aligned_near hb h, ← hm]
    exact raise_notes_clock _ _ _ hn hm hs
  rw [aligned_near hb h] at hnotes
  rw [enterReference_eq, aligned_near hb h, recomputeM_vacant (by exact hd), ← hnotes]
  rfl

/-- What REFERENCE entered shows, whether the pulse was a boundary of its own or not (R50, R53, R54). -/
structure EntersReference (s t : State) : Prop where
  source : t.time.source = .reference
  goodRun : t.time.goodRun = 64
  badRun : t.time.badRun = 0
  fallback : t.time.fallback = 0
  sincePulse : t.time.sincePulse = s.time.sincePulse
  silence : t.time.silence = s.time.silence
  untilBoundary : t.time.untilBoundary = 1000000
  flag : hasFlag t.notes.summary .clockRestored = true
  docking : t.docking = s.docking
  minutes : ∀ k ∈ s.docking, t.time.m = rawMinutes t.time.minute k.cutoff ∧ t.urgency = urgencyNow t

theorem enterReference_enters (s : State) : EntersReference s (enterReference s) := by
  obtain ⟨sec, minute, f, m, w, since, by', ht⟩ := alignSecond_time
    (setTime { s.time with source := .reference, goodRun := Config.goodPulses, badRun := 0 } s)
  have hdock : (aligned s).docking = s.docking :=
    (congrArg Site.docking (alignSecond_hall (setTime
      { s.time with source := .reference, goodRun := Config.goodPulses, badRun := 0 } s)) :)
  change (aligned s).time = _ at ht
  have hflag : hasFlag (restored (aligned s)).notes.summary .clockRestored = true := hasFlag_raise _ _ _ _
  have htime : (restored (aligned s)).time = { (aligned s).time with fallback := 0 } := rfl
  have hdock : (restored (aligned s)).docking = s.docking := hdock
  rw [ht] at htime
  rw [enterReference_eq]
  generalize restored (aligned s) = u at hflag htime hdock
  obtain ⟨m', w', hm⟩ := recomputeM_time_keeps u
  rw [htime] at hm
  refine ⟨congrArg TimeBase.source hm, congrArg TimeBase.goodRun hm, congrArg TimeBase.badRun hm,
    congrArg TimeBase.fallback hm, (congrArg TimeBase.sincePulse hm :), (congrArg TimeBase.silence hm :),
    congrArg TimeBase.untilBoundary hm, hasFlag_recomputeM_of hflag, (recomputeM_docking u).trans hdock,
    fun k hk => ⟨?_, ?_⟩⟩
  · obtain ⟨w, hw⟩ := recomputeM_time (hdock.trans hk)
    rw [hw, htime]
    exact Nat.sub_zero _
  · refine recomputeM_law fun hn => ?_
    rw [hdock, Option.mem_def.1 hk] at hn
    cases hn

/-! ## FALLBACK -/

/-- The Time Base as FALLBACK is entered, before M (R48). -/
def fallenTime (b : TimeBase) : TimeBase := { b with source := .fallback, goodRun := 0, badRun := 0, fallback := 0 }

/-- The door with CLOCK_FALLBACK raised (R48). -/
def fallen (c : FallbackCause) (s : State) : State :=
  raise .clockFallback c.code s.time.minute (setTime (fallenTime s.time) s)

theorem enterFallback_eq (c : FallbackCause) (s : State) : enterFallback c s = recomputeM (fallen c s) := rfl

theorem fallen_notes (c : FallbackCause) {u : State} (hn : s.notes = u.notes) (hm : s.time.minute = u.time.minute)
    (hs : s.time.seconds = u.time.seconds) :
    (fallen c s).notes = (raise .clockFallback c.code u.time.minute u).notes := by
  rw [fallen, hm]
  exact raise_notes_clock _ _ _ hn hm hs

theorem enterFallback_vacant (c : FallbackCause) (hd : s.docking = none) : enterFallback c s = fallen c s :=
  recomputeM_vacant hd

/-- With f at 0 the margin is 1 minute (R53). -/
theorem fallen_minutes (c : FallbackCause) (s : State) (k : Nat) :
    effectiveMinutes (fallen c s).time k = rawMinutes s.time.minute k - 1 := by
  simp [effectiveMinutes, margin, fallen, fallenTime]

/-- The silence measurement at 1.5 s, and restarted (R45). -/
def silenced (s : State) : State :=
  setTime { (passTime (1500000 - s.time.silence) s).time with silence := 0 } (passTime (1500000 - s.time.silence) s)

theorem exec_pulseSilence (hr : s.pins.resetHeld = false) :
    exec .pulseSilence s = .next (silenceEvent (silenced s)) := by
  refine congrArg Host.Outcome.next ?_
  rw [live_free _ hr]
  rfl

/-- FALLBACK entered while DOCKED with no cutoff reached, from a state that differs from `u` in the time alone. -/
theorem enterFallback_docked (c : FallbackCause) {u : State} {m : Nat} (hd : s.docking = some d)
    (hn : s.notes = u.notes) (hmin : s.time.minute = u.time.minute) (hsec : s.time.seconds = u.time.seconds)
    (hw : s.time.warned = u.time.warned) (hm : m = rawMinutes s.time.minute d.cutoff - 1)
    (hno : m ≠ 0 ∨ s.time.m = 0) : ∃ l r, enterFallback c s = { s with
        time := { fallenTime s.time with m := m, warned := s.time.warned || decide (m ≤ 15) }
        urgency := urgencyFor m d.expected (outboundCount s.deck) d.handling
        notes := warnedNotices m d.cutoff (raise .clockFallback c.code u.time.minute u), link := l, dir := r }
      ∧ BeaconIf (significant (enterFallback c s).urgency s.dir.last.urgency) s (enterFallback c s) := by
  rw [← fallen_minutes c] at hm
  subst hm
  have hd' : (fallen c s).docking = some d := hd
  have hnotes (m : Nat) : warnedNotices m d.cutoff (fallen c s) =
      warnedNotices m d.cutoff (raise .clockFallback c.code u.time.minute u) :=
    warnedNotices_congr _ _ (fallen_notes c hn hmin hsec) hmin hsec hw
  have hy := measured_eq hd'
  have hbeacon := measured_beacon_with hd' (x := s.dep) (measured d (fallen c s)).notes (measured d (fallen c s)).port
    rfl rfl
  rw [enterFallback_eq, recomputeM_unreached hd' hno]
  rw [← hnotes]
  refine ⟨_, _, hy, ?_⟩
  rw [hy] at hbeacon ⊢
  exact hbeacon

/-- Settles O55: each source state's rule for a good pulse, a bad pulse and silence, applied to the door as the pulse
arrives. -/
theorem pulsesQualifyTheClock : Obligations.PulsesQualifyTheClock := by
  unfold Obligations.PulsesQualifyTheClock
  refine ⟨fun us s hr hp => ?_, fun us d s hr hp h1 h2 hsrc hb hlt => ?_, fun us d s hr hp h1 h2 hsrc => ?_,
    fun us d s hr hp h1 h2 hsrc hfar hsec hn => ?_, fun us d s hr hp h1 h2 hsrc hrun hd hb hlt => ?_,
    fun us d s hr hp h1 h2 hsrc hrun => ?_, fun us d s hr hp hbad hsrc => ?_, fun us d s hr hp hbad hsrc => ?_,
    fun us d s hr hd hp hbad hsrc hrun => ?_, fun s hr hd hsil => ?_,
    fun us p s d m hr hd hp hbad hsrc hrun hm hno => ?_, fun s d m hr hd hsil hsrc hm hno => ?_⟩
  · -- the first pulse
    exact exec_firstPulse hr hp
  · -- REFERENCE, close after an oscillator boundary
    rw [exec_goodPulse hr hp h1 h2, goodPulse_reference (by exact hsrc), alignSecond_near (by exact hb) (by exact hlt)]
    rfl
  · -- FALLBACK, or RETURNING below the 64th
    rw [exec_goodPulse hr hp h1 h2]
    rcases hsrc with hsrc | ⟨hsrc, hrun⟩
    · rw [goodPulse_fallback (by exact hsrc), if_pos hsrc]
      rfl
    · rw [goodPulse_counts (by exact hsrc) (by exact hrun), if_neg (by rw [hsrc]; decide)]
      simp only [← hsrc]
      rfl
  · -- REFERENCE, a boundary of its own
    have hcount := secondTick_counts
      (s := setTime { (passTime us s).time with
        sincePulse := some 0, silence := 0, badRun := 0, sinceBoundary := 0, untilBoundary := Config.second
        byOscillator := false } (passTime us s)) hn hsec
    rw [exec_goodPulse hr hp h1 h2, goodPulse_reference (by exact hsrc), alignSecond_far (by exact hfar)]
    exact congrArg Host.Outcome.next hcount
  · -- RETURNING while VACANT, the 64th
    have h := enterReference_vacant (s := pulsed us s) (u := s) hd hb hlt rfl rfl rfl
    rw [exec_goodPulse hr hp h1 h2, goodPulse_completes (by exact hsrc) (by exact hrun), h]
    rfl
  · -- RETURNING, the 64th in general
    have h := enterReference_enters (pulsed us s)
    refine ⟨_, exec_goodPulse hr hp h1 h2, ?_⟩
    rw [goodPulse_completes (by exact hsrc) (by exact hrun)]
    exact ⟨h.source, h.goodRun, h.badRun, h.fallback, h.sincePulse, h.silence, h.untilBoundary, h.flag, h.docking,
      h.minutes⟩
  · rw [exec_badPulse hr hp hbad, badPulse_returning (by exact hsrc)]
    rfl
  · rw [exec_badPulse hr hp hbad]
    rcases hsrc with hsrc | ⟨hsrc, hrun⟩
    · rw [badPulse_fallback (by exact hsrc), if_neg (by rw [hsrc]; decide)]
      rfl
    · rw [badPulse_counts (by exact hsrc) (by exact hrun), if_pos hsrc]
      rfl
  · -- the third bad pulse while VACANT
    have hnotes := fallen_notes .badPulses (s := pulsed us s) (u := s) rfl rfl rfl
    rw [exec_badPulse hr hp hbad, badPulse_third (by exact hsrc) (by exact hrun), enterFallback_vacant _ (by exact hd)]
    change _ = (raise .clockFallback 1 s.time.minute s).notes at hnotes
    rw [← hnotes]
    rfl
  · -- silence while VACANT
    rw [exec_pulseSilence hr]
    refine ⟨_, rfl, ?_⟩
    cases hsrc : s.time.source with
    | reference =>
      have hnotes := fallen_notes .noPulse (s := silenced s) (u := s) rfl rfl rfl
      have h : silenceEvent (silenced s) = fallen .noPulse (silenced s) := by
        rw [← enterFallback_vacant _ (by exact hd)]
        simp only [silenceEvent, show (silenced s).time.source = .reference from hsrc]
      rw [h]
      exact ⟨rfl, fun _ => ⟨rfl, rfl, rfl, rfl, hnotes⟩, nofun, nofun, rfl⟩
    | fallback =>
      have h : silenceEvent (silenced s) = silenced s := by
        simp only [silenceEvent, show (silenced s).time.source = .fallback from hsrc]
      rw [h]
      exact ⟨rfl, nofun, fun _ => ⟨hsrc, rfl, rfl⟩, nofun, rfl⟩
    | returning =>
      have h : silenceEvent (silenced s) = setTime { (silenced s).time with goodRun := 0 } (silenced s) := by
        simp only [silenceEvent, show (silenced s).time.source = .returning from hsrc]
      rw [h]
      exact ⟨rfl, nofun, nofun, fun _ => ⟨hsrc, rfl, rfl⟩, rfl⟩
  · -- the third bad pulse while DOCKED
    obtain ⟨l, r, heq, hbeacon⟩ := enterFallback_docked .badPulses (s := pulsed us s) (u := s) hd rfl rfl rfl rfl hm hno
    refine ⟨_, exec_badPulse hr hp hbad, ?_⟩
    rw [badPulse_third (by exact hsrc) (by exact hrun)]
    generalize enterFallback .badPulses (pulsed us s) = z at *
    subst heq
    exact ⟨rfl, rfl, rfl, hbeacon, rfl⟩
  · -- silence while DOCKED
    obtain ⟨l, r, heq, hbeacon⟩ := enterFallback_docked .noPulse (s := silenced s) (u := s) hd rfl rfl rfl rfl hm hno
    have h : silenceEvent (silenced s) = enterFallback .noPulse (silenced s) := by
      simp only [silenceEvent, show (silenced s).time.source = .reference from hsrc]
    refine ⟨_, exec_pulseSilence hr, ?_⟩
    rw [h]
    generalize enterFallback .noPulse (silenced s) = z at *
    subst heq
    exact ⟨rfl, rfl, rfl, hbeacon, rfl⟩

end Sys2Proof.Machine
end

section
/-! SUPPORT. The minute boundary: the state in which M is recomputed, the minute timers, and U recomputed a second
time. -/

namespace Sys2Proof.Machine

variable {s t x y z : State} {d : Docking}

/-! ## U recomputed twice -/

theorem significant_self (a : Nat) : significant a a = false := by simp [significant]

/-- U is worked out, and where it differs significantly from the last beaconed one, the beacon found no room (R58,
R79). -/
structure UrgencyTold (s : State) : Prop where
  law : UrgencyLaw s
  told : significant s.urgency s.dir.last.urgency = true →
    beaconRoom s = false ∧ s.dir.interval = 4 ∧ s.dir.timer = if s.link.line = .joined then some 4 else none

theorem contentNow_urgency (h : UrgencyLaw s) : (contentNow s).urgency = s.urgency := by
  cases hd : s.docking with
  | none => simp only [h, contentNow, urgencyNow, hd]
  | some d => simp only [contentNow, hd]

theorem beaconRoom_none (h : beaconRoom s = false) :
    s.link.queue.find? isBeacon = none ∧ hasRoom 3 s.link.queue = false := by
  obtain ⟨hany, hroom⟩ := Bool.or_eq_false_iff.1 h
  exact ⟨List.find?_eq_none.2 (by simpa using hany), hroom⟩

/-- A beacon that finds no room leaves the interval and the timer alone behind (R79, R85). -/
theorem beaconedChange_dropped (h : beaconRoom s = false) : beaconedChange s = { s with dir := { s.dir with
    interval := 4, timer := if s.link.line = .joined then some 4 else none } } := by
  obtain ⟨hnone, hroom⟩ := beaconRoom_none h
  simp [beaconedChange, placeBeacon, hnone, hroom, restartBeaconTimer]

theorem recomputeUrgency_told (s : State) : UrgencyTold (recomputeUrgency s) := by
  refine ⟨recomputeUrgency_law s, ?_⟩
  rw [recomputeUrgency_eq]
  split
  next =>
    intro hsig
    have hlaw : UrgencyLaw (withUrgency s) := rfl
    cases hroom : beaconRoom (withUrgency s) with
    | true =>
      rw [beaconedChange_urgency, beaconedChange_dir, if_pos hroom, contentNow_urgency hlaw, significant_self] at hsig
      cases hsig
    | false =>
      rw [beaconedChange_dropped hroom]
      exact ⟨hroom, rfl, rfl⟩
  next h => exact fun hsig => absurd hsig h

/-- Told once, U needs no telling again (R58). -/
theorem UrgencyTold.fixed (h : UrgencyTold s) : recomputeUrgency s = s := by
  have hu : withUrgency s = s := by rw [withUrgency, ← h.law]
  rw [recomputeUrgency_eq, hu, ← h.law]
  split
  next hsig =>
    obtain ⟨hroom, hinterval, htimer⟩ := h.told hsig
    rw [beaconedChange_dropped hroom, ← htimer, ← hinterval]
  next => rfl

theorem UrgencyTold.congr (h : UrgencyTold s) (hd : t.docking = s.docking) (hk : t.deck = s.deck)
    (hm : t.time.m = s.time.m) (hu : t.urgency = s.urgency) (hl : t.link = s.link) (hr : t.dir = s.dir) :
    UrgencyTold t := by
  have hnow : urgencyNow t = urgencyNow s := by simp only [urgencyNow, hd, hk, hm]
  refine ⟨hu.trans (h.law.trans hnow.symm), ?_⟩
  simp only [hu, hr, hl, beaconRoom]
  exact h.told

/-- After M is recomputed with no more than notices and Departure Control to follow, U is told (R54, R58). -/
theorem measured_told (d : Docking) (s : State) (n : Notices) (x : Departure) :
    UrgencyTold { measured d s with notes := n, dep := x } :=
  (recomputeUrgency_told (withMinutes d s)).congr rfl rfl rfl rfl rfl rfl

/-! ## The minute timers -/

/-- What the minute timers count, in one record (R89, R112, R148). -/
theorem countMinutes_eq (s : State) : countMinutes s = { s with
    dir := { s.dir with entries := s.dir.entries.map ageMinutes }
    table := s.table.map countTravel
    dep := { s.dep with
      allowance := if s.dep.state = some .waiting then s.dep.allowance.map (fun n => n - 1) else s.dep.allowance } } := by
  by_cases h : s.dep.state = some .waiting <;> simp [countMinutes, h, setDir, setTable, setDep]

/-- The minute timers are no part of what a beacon shows (R84). -/
theorem contentNow_countMinutes (s : State) : contentNow (countMinutes s) = contentNow s := by
  rw [countMinutes_eq]
  rfl

/-- The beacon of a recomputation, seen across the minute timers (R47). -/
theorem countMinutes_beacon {b : Bool} (h : BeaconIf b x y) : BeaconIf b (countMinutes x) (countMinutes y) := by
  cases b with
  | true =>
    obtain ⟨hlink, hdir⟩ : BeaconSent x y := h
    have hcontent := contentNow_countMinutes y
    have hbuild : buildBeacon (countMinutes y) = buildBeacon y := by
      simp only [buildBeacon, hcontent]
      rw [countMinutes_eq]
    show BeaconSent _ _
    refine ⟨?_, ?_⟩
    · simp only [linkWithBeacon, hbuild, framed] at hlink ⊢
      simp only [countMinutes_eq]
      exact hlink
    · rw [hcontent, countMinutes_eq x, countMinutes_eq y, hdir]
      rfl
  | false =>
    obtain ⟨hlink, hdir⟩ : y.link = x.link ∧ y.dir = x.dir := h
    rw [countMinutes_eq x, countMinutes_eq y, hdir]
    exact ⟨hlink, rfl⟩

/-! ## The minute boundary -/

/-- The door at a boundary of the oscillator: the time left to it has passed (R46, Log 3). -/
def bounded (s : State) : State :=
  setTime { (passTime s.time.untilBoundary s).time with
    sinceBoundary := 0, untilBoundary := 1000000, byOscillator := true } (passTime s.time.untilBoundary s)

theorem exec_secondBoundary (hr : s.pins.resetHeld = false) :
    exec .secondBoundary s = .next (secondTick (bounded s)) := by
  refine congrArg Host.Outcome.next ?_
  rw [live_free _ hr]
  rfl

/-- The door in which M is recomputed at a minute boundary with nothing due (R47). -/
def minuteDoor (s : State) : State :=
  setTime { minuteTime (bounded s).time with seconds := 0 } (countSeconds (bounded s))

/-- What the statements call the state at a minute boundary is that door with the minute timers counted. -/
theorem minuteCounted_eq (s : State) : minuteCounted s = countMinutes (minuteDoor s) := by
  rw [countMinutes_eq]
  unfold minuteCounted
  simp only [minuteDoor, bounded, countSeconds, setTime, passTime, List.map_map]
  rfl

theorem secondTick_minute (hn : NothingDue s) (hs : s.time.seconds = 59) : secondTick s =
    minuteBoundary (setTime { s.time with seconds := 0 } (countSeconds s)) := by
  have hs : (countSeconds s).time.seconds = 59 := hs
  simp only [secondTick, expireDue_idle hn, if_pos hs]
  rfl

/-- The door after a minute boundary with nothing due (R47). -/
def minuteMade (s : State) : State := countMinutes (recomputeUrgency (recomputeM (minuteDoor s)))

theorem exec_minute (hr : s.pins.resetHeld = false) (hs : s.time.seconds = 59) (hn : NothingDue s) :
    exec .secondBoundary s = .next (minuteMade s) := by
  have hn : NothingDue (bounded s) := hn
  rw [exec_secondBoundary hr, secondTick_minute hn (by exact hs), minuteBoundary_eq]
  rfl

/-- Where U is told by the recomputation of M, the recomputation of U that follows changes nothing (R47). -/
theorem minuteMade_told (hbody : recomputeM (minuteDoor s) = y) (ht : UrgencyTold y) :
    minuteMade s = countMinutes y := by
  rw [minuteMade, hbody, ht.fixed]

theorem minuteMade_law (s : State) : UrgencyLaw (minuteMade s) :=
  minuteBoundary_law (setTime { (bounded s).time with seconds := 0 } (countSeconds (bounded s)))

end Sys2Proof.Machine
end

section
/-! PROOF. The oscillator's second boundary (O56). -/

namespace Sys2Proof.Machine

variable {s t x y z : State} {d : Docking}

/-! ## Any second boundary -/

theorem entries_length_of_hall (h : hallOf t = hallOf s) : t.deck.entries.length = s.deck.entries.length := by
  have h : (t.deck.entries.map DeckEntry.unowed).length = (s.deck.entries.map DeckEntry.unowed).length :=
    (congrArg (fun v : Site => v.deck.length) h :)
  simpa using h

theorem lane_length_of_hall (h : hallOf t = hallOf s) : t.lane.length = s.lane.length := by
  have h : (t.lane.map LaneEntry.unowed).length = (s.lane.map LaneEntry.unowed).length :=
    (congrArg (fun v : Site => v.lane.length) h :)
  simpa using h

theorem secondTick_bounded_hall (s : State) : hallOf (secondTick (bounded s)) = hallOf s :=
  (secondTick_hall (s := bounded s) :)

/-! ## The minute while VACANT -/

/-- While VACANT a minute boundary leaves M, and U at 0 (R47, R57). -/
theorem minuteMade_vacant (hd : s.docking = none) :
    BeaconIf (significant 0 s.dir.last.urgency) (minuteCounted s) (minuteMade s)
      ∧ minuteMade s = { minuteCounted s with urgency := 0, link := (minuteMade s).link, dir := (minuteMade s).dir } := by
  have hx : (minuteDoor s).docking = none := hd
  have hnow : urgencyNow (minuteDoor s) = 0 := by rw [urgencyNow, hx]
  have hlast : (minuteDoor s).dir.last = s.dir.last := rfl
  rw [minuteMade, recomputeM_vacant hx, minuteCounted_eq, ← hlast]
  generalize minuteDoor s = x at *
  obtain ⟨l, r, hu⟩ := recomputeUrgency_changes x
  have hbeacon := recomputeUrgency_beacon (s := x) (x := x) (t := recomputeUrgency x) rfl rfl rfl rfl
    (by rw [hu]; exact beaconAlike_withUrgency rfl rfl rfl rfl rfl rfl rfl rfl rfl)
  rw [recomputeUrgency_urgency, hnow] at hbeacon
  rw [hnow] at hu
  refine ⟨countMinutes_beacon hbeacon, ?_⟩
  rw [hu, countMinutes_eq, countMinutes_eq]

/-! ## The cutoff not reached, noticed or pending: U is told once -/

theorem minuteDoor_zero (h : rawMinutes (minuteCounted s).time.minute d.cutoff ≤ margin (minuteCounted s).time) :
    effectiveMinutes (minuteDoor s).time d.cutoff = 0 := Nat.sub_eq_zero_of_le h

theorem warnedNotices_minuteDoor (m k : Nat) (s : State) :
    warnedNotices m k (minuteDoor s) = warnedNotices m k (minuteCounted s) := warnedNotices_congr _ _ rfl rfl rfl rfl

theorem reachedNotices_minuteDoor (k : Nat) (s : State) :
    reachedNotices k (minuteDoor s) = reachedNotices k (minuteCounted s) := reachedNotices_congr _ rfl rfl rfl rfl rfl

theorem measured_dep (d : Docking) (s : State) : (measured d s).dep = s.dep := recomputeUrgency_dep ..

theorem measured_notes (hd : s.docking = some d) :
    (measured d s).notes = warnedNotices (effectiveMinutes s.time d.cutoff) d.cutoff s := by
  rw [measured_eq hd]
  rfl

/-- A minute boundary whose recomputation of M ends with `n` for the notices and `p` for Departure Control (R47). -/
structure MinuteMeasured (d : Docking) (n : Notices) (p : Departure) (s t : State) : Prop where
  time : t.time = { (minuteCounted s).time with
    m := effectiveMinutes (minuteDoor s).time d.cutoff
    warned := s.time.warned || decide (effectiveMinutes (minuteDoor s).time d.cutoff ≤ 15) }
  urgency : t.urgency =
    urgencyFor (effectiveMinutes (minuteDoor s).time d.cutoff) d.expected (outboundCount s.deck) d.handling
  notes : t.notes = n
  beacon : BeaconIf (significant t.urgency s.dir.last.urgency) (minuteCounted s) t
  frame : t = { minuteCounted s with
    time := t.time, urgency := t.urgency, link := t.link, dir := t.dir, notes := t.notes
    dep := { p with allowance := (minuteCounted s).dep.allowance } }

theorem minuteMade_measured {n : Notices} {p : Departure} (hd : s.docking = some d)
    (hbody : recomputeM (minuteDoor s) = { measured d (minuteDoor s) with notes := n, dep := p })
    (hstate : p.state = s.dep.state) (hhalt : p.halt = s.dep.halt) (hallow : p.allowance = s.dep.allowance) :
    MinuteMeasured d n p s (minuteMade s) := by
  have hd : (minuteDoor s).docking = some d := hd
  have hmade := minuteMade_told hbody (measured_told d (minuteDoor s) n p)
  have hbeacon := countMinutes_beacon (measured_beacon_with hd (x := p) n (measured d (minuteDoor s)).port hstate hhalt)
  have hy := measured_eq hd
  rw [← minuteCounted_eq] at hbeacon
  generalize measured d (minuteDoor s) = y at *
  subst hy
  rw [countMinutes_eq] at hmade hbeacon
  rw [hmade]
  refine ⟨rfl, rfl, rfl, hbeacon, ?_⟩
  rw [minuteCounted_eq, countMinutes_eq]
  simp only [hstate, hallow]
  rfl

theorem minuteMade_unreached (hd : s.docking = some d)
    (hno : effectiveMinutes (minuteDoor s).time d.cutoff ≠ 0 ∨ s.time.m = 0) : MinuteMeasured d
      (warnedNotices (effectiveMinutes (minuteDoor s).time d.cutoff) d.cutoff (minuteCounted s)) (minuteDoor s).dep s
      (minuteMade s) := by
  refine minuteMade_measured hd ?_ rfl rfl rfl
  rw [← measured_dep d (minuteDoor s), ← warnedNotices_minuteDoor, ← measured_notes (s := minuteDoor s) hd]
  exact recomputeM_unreached (s := minuteDoor s) hd hno

theorem minuteMade_noticed (hd : s.docking = some d) (h0 : effectiveMinutes (minuteDoor s).time d.cutoff = 0)
    (hbefore : 0 < s.time.m) (hw : s.dep.state ≠ some .waiting)
    (ha : s.straps.autoClose = false ∨ s.dep.state ≠ some .openBay) : MinuteMeasured d
      (reachedNotices d.cutoff (minuteCounted s)) (minuteDoor s).dep s (minuteMade s) := by
  refine minuteMade_measured hd ?_ rfl rfl rfl
  rw [← measured_dep d (minuteDoor s), ← reachedNotices_minuteDoor]
  exact recomputeM_noticed (s := minuteDoor s) hd h0 hbefore hw ha

theorem minuteMade_pends (hd : s.docking = some d) (h0 : effectiveMinutes (minuteDoor s).time d.cutoff = 0)
    (hbefore : 0 < s.time.m) (hs : s.dep.state = some .openBay) (ha : s.straps.autoClose = true)
    (hrun : s.run.mode ≠ none) : MinuteMeasured d
      (warnedNotices 0 d.cutoff (minuteCounted s)) (pendingDep (minuteDoor s)) s (minuteMade s) := by
  refine minuteMade_measured hd ?_ rfl rfl rfl
  rw [← warnedNotices_minuteDoor, ← h0, ← measured_notes (s := minuteDoor s) hd]
  exact recomputeM_pends (s := minuteDoor s) hd h0 hbefore hs ha hrun

/-! ## The door closed, or a call started: U is recomputed once more -/

/-- The fields of the link and the directory that no recomputation of M and U touches (R54, R58). -/
structure FramesKept (s t : State) : Prop where
  link : t.link = { s.link with queue := t.link.queue, beaconWaiting := t.link.beaconWaiting }
  dir : t.dir = { s.dir with interval := t.dir.interval, timer := t.dir.timer, last := t.dir.last }

theorem recomputeM_frames (s : State) : FramesKept s (recomputeUrgency (recomputeM s)) := by
  have h := (recomputeUrgency_minutes (recomputeM s)).trans (recomputeM_keep s)
  generalize recomputeUrgency (recomputeM s) = t at h
  have hlink : (keepMinutes t).link = (keepMinutes s).link := congrArg State.link h
  have hdir : (keepMinutes t).dir = (keepMinutes s).dir := congrArg State.dir h
  exact ⟨(congrArg (fun l : Link => { l with queue := t.link.queue, beaconWaiting := t.link.beaconWaiting }) hlink :),
    (congrArg (fun r : Directory =>
      { r with interval := t.dir.interval, timer := t.dir.timer, last := t.dir.last }) hdir :)⟩

theorem FramesKept.counted (h : FramesKept x z) : FramesKept (countMinutes x) (countMinutes z) := by
  have hentries : z.dir.entries = x.dir.entries := (congrArg Directory.entries h.dir :)
  have hchanges : z.dir.changes = x.dir.changes := (congrArg Directory.changes h.dir :)
  rw [countMinutes_eq x, countMinutes_eq z, hentries]
  refine ⟨h.link, ?_⟩
  simp only [hchanges]

/-- A frame that is no BEACON stays in the queue when U is recomputed (R79). -/
theorem mem_queue_recomputeUrgency {f : Queued} (hf : f ∈ s.link.queue) (hb : isBeacon f = false) :
    f ∈ (recomputeUrgency s).link.queue := by
  rw [recomputeUrgency_eq]
  split
  · exact mem_queue_beaconedChange (by exact hf) hb
  · exact hf

/-- The minute timers touch the entries of directory and table and the allowance alone. -/
theorem countMinutes_of {a : TimeBase} {n : Notices} {u : Nat} {p : Departure} {o : HoldTable} {l : Link} {r : Directory}
    (h : t = { x with time := a, notes := n, urgency := u, dep := p, store := o, link := l, dir := r }) :
    countMinutes t = { countMinutes x with
      time := (countMinutes t).time, notes := (countMinutes t).notes, urgency := (countMinutes t).urgency
      dep := (countMinutes t).dep, store := (countMinutes t).store, link := (countMinutes t).link
      dir := (countMinutes t).dir } := by
  subst h
  rw [countMinutes_eq, countMinutes_eq]

theorem ClosedFrom.recomputed (h : ClosedFrom x z) : ClosedFrom x (recomputeUrgency z) where
  time := (recomputeUrgency_time ..).trans h.time
  dep := by rw [recomputeUrgency_dep]; exact h.dep
  store := (recomputeUrgency_store ..).trans h.store
  done := by
    rw [recomputeUrgency_dep]
    refine h.done.imp id fun ⟨f, hf, hbody⟩ => ⟨f, mem_queue_recomputeUrgency hf ?_, hbody⟩
    rw [isBeacon, hbody]
    rfl
  closed := by rw [recomputeUrgency_notes]; exact h.closed
  voided := by rw [recomputeUrgency_notes]; exact h.voided
  frame := by
    obtain ⟨l, r, he⟩ := recomputeUrgency_changes z
    rw [he, h.frame]

/-- A door that has closed keeps no allowance to count (R148, R149). -/
theorem ClosedFrom.counted (h : ClosedFrom x z) : ClosedFrom (countMinutes x) (countMinutes z) where
  time := by rw [countMinutes_time, countMinutes_time]; exact h.time
  dep := by
    have hdep := h.dep
    generalize z.dep.doneOwed = b at hdep
    rw [countMinutes_eq x, countMinutes_eq z, hdep]
    rfl
  store := by rw [countMinutes_eq x, countMinutes_eq z]; exact h.store
  done := by rw [countMinutes_eq x, countMinutes_eq z]; exact h.done
  closed := by rw [countMinutes_eq]; exact h.closed
  voided := by rw [countMinutes_eq x, countMinutes_eq z]; exact h.voided
  frame := countMinutes_of h.frame

theorem CalledFrom.recomputed (h : CalledFrom d x z) : CalledFrom d x (recomputeUrgency z) where
  time := (recomputeUrgency_time ..).trans h.time
  dep := (recomputeUrgency_dep ..).trans h.dep
  call := by
    obtain ⟨f, hf, hbody⟩ := h.call
    refine ⟨f, mem_queue_recomputeUrgency hf ?_, hbody⟩
    rw [isBeacon, hbody]
    rfl
  notes := (recomputeUrgency_notes ..).trans h.notes
  frame := by
    obtain ⟨l, r, he⟩ := recomputeUrgency_changes z
    rw [he, h.frame]

/-- A call that starts in OPEN leaves no allowance to count (R142, R148). -/
theorem CalledFrom.counted (h : CalledFrom d x z) (ho : x.dep.state ≠ some .waiting) :
    CalledFrom d (countMinutes x) (countMinutes z) where
  time := by rw [countMinutes_time, countMinutes_time]; exact h.time
  dep := by
    rw [countMinutes_eq x, countMinutes_eq z]
    simp only [h.dep, if_neg ho]
    rfl
  call := by rw [countMinutes_eq x, countMinutes_eq z]; exact h.call
  notes := by
    rw [countMinutes_eq x, countMinutes_eq z]
    exact h.notes.trans (warnedNotices_congr _ _ rfl rfl rfl rfl)
  frame := by
    rw [countMinutes_eq x, countMinutes_eq z, h.frame]

theorem minuteMade_frames (s : State) : FramesKept (minuteCounted s) (minuteMade s) := by
  rw [minuteCounted_eq]
  exact (recomputeM_frames (minuteDoor s)).counted

theorem minuteMade_closed (hd : s.docking = some d) (h0 : effectiveMinutes (minuteDoor s).time d.cutoff = 0)
    (hbefore : 0 < s.time.m) (hs : s.dep.state = some .waiting) : ClosedFrom (minuteCounted s) (minuteMade s) := by
  rw [minuteCounted_eq, minuteMade, recomputeM_closes (s := minuteDoor s) hd h0 hbefore hs]
  exact (enterClosed_measured (s := minuteDoor s) hd h0).recomputed.counted

theorem minuteMade_called (hd : s.docking = some d) (h0 : effectiveMinutes (minuteDoor s).time d.cutoff = 0)
    (hbefore : 0 < s.time.m) (hs : s.dep.state = some .openBay) (ha : s.straps.autoClose = true)
    (hrun : s.run.mode = none) (hq : s.link.queue.length < 15) : CalledFrom d (minuteCounted s) (minuteMade s) := by
  have hw : (minuteDoor s).dep.state ≠ some .waiting := fun h => by cases hs.symm.trans h
  rw [minuteCounted_eq, minuteMade, recomputeM_calls (s := minuteDoor s) hd h0 hbefore hs ha hrun hq]
  exact (startCall_measured (s := minuteDoor s) hd h0 hq).recomputed.counted hw

/-- U where M is 0 (R57). -/
theorem UrgencyLaw.at_zero (h : UrgencyLaw t) (hd : t.docking = some d) (hm : t.time.m = 0) (hk : t.deck = s.deck) :
    t.urgency = urgencyFor 0 d.expected (outboundCount s.deck) d.handling := by
  rw [h, urgencyNow, hd, ← hk, ← hm]

/-- Settles O56: within the minute the second timers count; at the minute M and U are recomputed between the second
timers and the minute timers, and where M comes to 0 the departure state decides what the cutoff brings. -/
theorem secondBoundariesCount : Obligations.SecondBoundariesCount := by
  unfold Obligations.SecondBoundariesCount
  refine ⟨fun s hr hle => ?_, fun s hr hs hn => ?_, fun s hr hs hn hd => ?_, fun s d m hr hs hn hd hm hno => ?_,
    fun s d hr hs hn hd hm hbefore hw ha => ?_, fun s d hr hs hn hd hm hbefore hw => ?_,
    fun s d hr hs hn hd hm hbefore ho ha hrun hq => ?_, fun s d hr hs hn hd hm hbefore ho ha hrun => ?_⟩
  · -- any second boundary
    have hexec := exec_secondBoundary hr
    have hhall := secondTick_bounded_hall s
    have hsame := docking_of_hall hhall
    have hdeck := entries_length_of_hall hhall
    have hlane := lane_length_of_hall hhall
    by_cases hs : s.time.seconds = 59
    · have hlaw := secondTick_law_minute (s := bounded s) hs
      obtain ⟨m, w, ht, -, hm⟩ := secondTick_time_minute (s := bounded s) hs
      generalize secondTick (bounded s) = t at *
      refine ⟨_, hexec, ?_⟩
      rw [ht, if_pos hs]
      exact ⟨rfl, rfl, rfl, rfl, rfl, rfl, rfl, fun h => absurd hs (Nat.ne_of_lt h),
        fun _ => ⟨rfl, rfl, fun d hd => hm d hd, hlaw⟩, hsame, hdeck, hlane⟩
    · have ht := secondTick_time_second (s := bounded s) hs
      generalize secondTick (bounded s) = t at *
      refine ⟨_, hexec, ?_⟩
      rw [ht, if_neg hs]
      exact ⟨rfl, rfl, rfl, rfl, rfl, rfl, rfl, fun _ => ⟨rfl, rfl, rfl⟩, fun h => absurd h hs, hsame, hdeck, hlane⟩
  · -- within the minute, with nothing due
    have hcount := secondTick_counts (s := bounded s) hn hs
    rw [exec_secondBoundary hr, hcount]
    rfl
  · -- the minute while VACANT
    obtain ⟨hbeacon, hframe⟩ := minuteMade_vacant hd
    exact ⟨_, exec_minute hr hs hn, congrArg State.urgency hframe, hbeacon, hframe⟩
  · -- the minute while DOCKED, the cutoff not reached
    obtain rfl : m = effectiveMinutes (minuteDoor s).time d.cutoff := hm
    have h := minuteMade_unreached hd hno
    have hexec := exec_minute hr hs hn
    generalize minuteMade s = t at *
    exact ⟨t, hexec, h.time, h.urgency, h.beacon, h.notes, h.frame⟩
  · -- neither a call nor CLOSED follows
    have h0 := minuteDoor_zero hm
    have hexec := exec_minute hr hs hn
    obtain ⟨htime, hurgency, hnotes, hbeacon, hframe⟩ := minuteMade_noticed hd h0 hbefore hw ha
    generalize minuteMade s = t at *
    rw [h0] at htime hurgency
    exact ⟨t, hexec, htime.trans (by simp), hurgency, hbeacon, hnotes, hframe⟩
  · -- WAITING becomes CLOSED
    have h0 := minuteDoor_zero hm
    have hexec := exec_minute hr hs hn
    have hlaw := minuteMade_law s
    have h := minuteMade_closed hd h0 hbefore hw
    have hkept := minuteMade_frames s
    generalize minuteMade s = t at *
    have hurgency := hlaw.at_zero (d := d) (s := s) (by rw [h.frame]; exact hd) (by rw [h.time]) (by rw [h.frame]; rfl)
    exact ⟨t, hexec, h.time, hurgency, h.dep, h.store, h.done, h.closed, h.voided, hkept.dir, hkept.link, h.frame⟩
  · -- the call starts
    have h0 := minuteDoor_zero hm
    have hexec := exec_minute hr hs hn
    have hlaw := minuteMade_law s
    have h := minuteMade_called hd h0 hbefore ho ha hrun hq
    have hkept := minuteMade_frames s
    generalize minuteMade s = t at *
    have hurgency := hlaw.at_zero (d := d) (s := s) (by rw [h.frame]; exact hd) (by rw [h.time]) (by rw [h.frame]; rfl)
    have hnotes := h.notes
    rw [warnedNotices_zero] at hnotes
    have hdep : calledDep (minuteCounted s) = calledDep s := by
      have ho : s.dep.state ≠ some .waiting := fun h => by cases ho.symm.trans h
      simp only [calledDep, minuteCounted, if_neg ho]
    exact ⟨t, hexec, h.time, hurgency, h.dep.trans hdep, h.call, hnotes, hkept.dir, hkept.link, h.frame⟩
  · -- the automatic start becomes pending
    have h0 := minuteDoor_zero hm
    have hexec := exec_minute hr hs hn
    obtain ⟨htime, hurgency, hnotes, hbeacon, hframe⟩ := minuteMade_pends hd h0 hbefore ho ha hrun
    generalize minuteMade s = t at *
    rw [warnedNotices_zero] at hnotes
    rw [h0] at htime hurgency
    have hdep : t.dep = { pendingDep (minuteDoor s) with allowance := (minuteCounted s).dep.allowance } :=
      (congrArg State.dep hframe :)
    rw [← hdep] at hframe
    exact ⟨t, hexec, htime.trans (by simp), hurgency, hdep, hnotes, hbeacon, hframe⟩

end Sys2Proof.Machine
end

section
/-! PROOF. The frames of the floor link read back (O20): each field, each list of fields, each payload, and the frame. -/

namespace Sys2Proof

/-! ## Fields -/

@[simp] theorem andThen_some {α β : Type} (a : α) (r : List Byte) (f : α → List Byte → Option β) :
    andThen (some (a, r)) f = f a r := rfl

theorem byteOf_toNat (n : Nat) : (byteOf n).toNat = n % 256 := BitVec.toNat_ofNat n 8

@[simp] theorem read8_byteOf {n : Nat} (h : n < 256) (r : List Byte) : read8 (byteOf n :: r) = some (n, r) := by
  simp only [read8, byteOf_toNat, Nat.mod_eq_of_lt h]

@[simp] theorem read16_be16 {n : Nat} (h : n < 65536) (r : List Byte) : read16 (be16 n ++ r) = some (n, r) := by
  have hn : n / 256 % 256 * 256 + n % 256 = n := by omega
  simp only [be16, List.cons_append, List.nil_append, read16, byteOf_toNat, hn]

@[simp] theorem read32_be32 {n : Nat} (h : n < 4294967296) (r : List Byte) : read32 (be32 n ++ r) = some (n, r) := by
  have hn : n / 16777216 % 256 * 16777216 + n / 65536 % 256 * 65536 + n / 256 % 256 * 256 + n % 256 = n := by omega
  simp only [be32, List.cons_append, List.nil_append, read32, byteOf_toNat, hn]

/-- A list of fields is read back where each of them is. -/
theorem readMany_flatMap {α : Type} {one : List Byte → Read α} {bytes : α → List Byte} {l : List α}
    (h : ∀ a ∈ l, ∀ r, one (bytes a ++ r) = some (a, r)) (r : List Byte) :
    readMany one l.length (l.flatMap bytes ++ r) = some (l, r) := by
  induction l with
  | nil => rfl
  | cons a l ih =>
    simp only [List.length_cons, List.flatMap_cons, List.append_assoc, readMany,
      h a List.mem_cons_self, andThen_some, ih fun b hb => h b (List.mem_cons_of_mem a hb)]

theorem readOfferItem_bytes {i : OfferItem} (hl : i.label < 4294967296) (hd : i.depot < 65536) (hm : i.mass < 256)
    (r : List Byte) : readOfferItem (i.bytes ++ r) = some (i, r) := by
  simp [readOfferItem, OfferItem.bytes, hl, hd, hm]

theorem readAnswerItem_bytes {i : AnswerItem} (hl : i.label < 4294967296) (hv : i.verdict < 256) (r : List Byte) :
    readAnswerItem (i.bytes ++ r) = some (i, r) := by
  simp [readAnswerItem, AnswerItem.bytes, hl, hv]

@[simp] theorem ends_nil {α : Type} (a : α) : ends a [] = some a := rfl

/-! ## Payloads -/

theorem readBeacon_bytes {m : BeaconMsg} (h : m.wf = true) : readBeacon (Body.bytes (.beacon m)) = some (.beacon m) := by
  obtain ⟨bay, bayCode, depCode, drops, minutes, urgency, free, interval⟩ := m
  simp only [BeaconMsg.wf, fits8, fits16, Bool.and_eq_true, decide_eq_true_eq, List.all_eq_true] at h
  obtain ⟨⟨⟨⟨⟨⟨⟨hbay, hst⟩, hlen⟩, hdrops⟩, hmin⟩, hu⟩, hfree⟩, hint⟩ := h
  have hst' : bayCode * 16 + depCode < 256 := by omega
  have hlen' : drops.length < 256 := by omega
  have hcode : (bayCode * 16 + depCode) / 16 = bayCode := by omega
  have hdep : (bayCode * 16 + depCode) % 16 = depCode := by omega
  have hread : ∀ r, readMany read16 drops.length (drops.flatMap be16 ++ r) = some (drops, r) :=
    readMany_flatMap fun d hd => read16_be16 (hdrops d hd)
  simp [readBeacon, Body.bytes, hbay, hst', hlen', hread, hmin, hu, hfree, hint, hcode, hdep]

theorem readOffer_bytes {m : OfferMsg} (h : m.wf = true) : readOffer (Body.bytes (.offer m)) = some (.offer m) := by
  simp only [OfferMsg.wf, fits8, fits16, fits32, Bool.and_eq_true, decide_eq_true_eq, List.all_eq_true] at h
  obtain ⟨⟨⟨⟨⟨ho, ht⟩, hg⟩, hs⟩, hlen⟩, hitems⟩ := h
  have hlen' : m.items.length < 256 := by omega
  have hread := readMany_flatMap (one := readOfferItem) (fun i hi r =>
    readOfferItem_bytes (hitems i hi).1.1 (hitems i hi).1.2 (hitems i hi).2 r) []
  rw [List.append_nil] at hread
  simp [readOffer, Body.bytes, ho, ht, hg, hs, hlen', hread]

theorem readAnswer_bytes {m : AnswerMsg} (h : m.wf = true) :
    readAnswer (Body.bytes (.answer m)) = some (.answer m) := by
  simp only [AnswerMsg.wf, fits8, fits32, Bool.and_eq_true, decide_eq_true_eq, List.all_eq_true] at h
  obtain ⟨⟨⟨⟨ht, ho⟩, hg⟩, hlen⟩, hitems⟩ := h
  have hlen' : m.items.length < 256 := by omega
  have hread := readMany_flatMap (one := readAnswerItem) (fun i hi r =>
    readAnswerItem_bytes (hitems i hi).1 (hitems i hi).2 r) []
  rw [List.append_nil] at hread
  simp [readAnswer, Body.bytes, ho, ht, hg, hlen', hread]

theorem readHold_bytes {m : HoldMsg} (h : m.wf = true) : readHold (Body.bytes (.hold m)) = some (.hold m) := by
  simp only [HoldMsg.wf, fits8, fits32, Bool.and_eq_true, decide_eq_true_eq, List.all_eq_true] at h
  obtain ⟨⟨⟨⟨hb, hc⟩, hn⟩, hlen⟩, hlabels⟩ := h
  have hlen' : m.labels.length < 256 := by omega
  have hread := readMany_flatMap (one := read32) (fun l hl => read32_be32 (hlabels l hl)) []
  rw [List.append_nil] at hread
  simp [readHold, Body.bytes, hb, hc, hn, hlen', hread]

theorem read32_be32_nil {n : Nat} (h : n < 4294967296) : read32 (be32 n) = some (n, []) := by
  simpa using read32_be32 h []

/-- A payload whose fields fit is read back as it was. -/
theorem read_bytes {b : Body} (h : b.wf = true) : b.kind.read b.bytes = some b := by
  cases b with
  | beacon m => exact readBeacon_bytes h
  | offer m => exact readOffer_bytes h
  | answer m => exact readAnswer_bytes h
  | hold m => exact readHold_bytes h
  | release m =>
    simp only [Body.wf, ReleaseMsg.wf, fits8, fits32, Bool.and_eq_true, decide_eq_true_eq] at h
    obtain ⟨⟨ho, ht⟩, hl⟩ := h
    simp [Body.kind, FrameKind.read, Body.bytes, ho, ht, read32_be32_nil hl]
  | receipt m =>
    simp only [Body.wf, ReceiptMsg.wf, fits8, fits32, Bool.and_eq_true, decide_eq_true_eq] at h
    obtain ⟨⟨hb, ho⟩, hl⟩ := h
    simp [Body.kind, FrameKind.read, Body.bytes, hb, ho, read32_be32_nil hl]
  | call m =>
    simp only [Body.wf, CallMsg.wf, fits8, Bool.and_eq_true, decide_eq_true_eq] at h
    obtain ⟨hb, hn⟩ := h
    simp [Body.kind, FrameKind.read, Body.bytes, hb, hn]
  | done m =>
    simp only [Body.wf, DoneMsg.wf, fits8, decide_eq_true_eq] at h
    simp [Body.kind, FrameKind.read, Body.bytes, h]

theorem length_flatMap_const {α : Type} {f : α → List Byte} {k : Nat} (h : ∀ a, (f a).length = k) (l : List α) :
    (l.flatMap f).length = k * l.length := by
  induction l with
  | nil => rfl
  | cons a l ih => simp only [List.flatMap_cons, List.length_append, h, ih, List.length_cons]; ring

/-- The bytes of a payload are as many as R63 requires for the counts it carries. -/
theorem bytes_length (b : Body) : b.bytes.length = b.length := by
  have h16 (n : Nat) : (be16 n).length = 2 := rfl
  have h32 (n : Nat) : (be32 n).length = 4 := rfl
  cases b <;> simp [Body.bytes, Body.length, h16, h32, length_flatMap_const (k := 2) h16,
    length_flatMap_const (k := 4) h32, length_flatMap_const (f := OfferItem.bytes) (k := 7) fun _ => rfl,
    length_flatMap_const (f := AnswerItem.bytes) (k := 5) fun _ => rfl] <;> omega

/-! ## Frames -/

@[simp] theorem ofCode_code (k : FrameKind) : FrameKind.ofCode k.code = some k := by cases k <;> rfl

theorem code_lt (k : FrameKind) : k.code < 256 := by cases k <;> decide

theorem frameHead_length (key : Nat) (b : Body) : (frameHead key b).length = b.bytes.length + 4 := by
  simp [frameHead, be16]

theorem judgeFrame_frameBytes {key : Nat} {b : Body} (hkey : key < 65536) (hwf : b.wf = true)
    (hok : Machine.framingOk key b = true) : judgeFrame (frameBytes key b) = some (key, b) := by
  have hlen : b.bytes.length ≤ 64 := by
    simp only [Machine.framingOk, Bool.and_eq_true, decide_eq_true_eq] at hok
    exact bytes_length b ▸ hok.1.1
  have hlen' : b.bytes.length < 256 := by omega
  have htake : (frameBytes key b).take (b.bytes.length + 4) = frameHead key b :=
    List.take_left' (frameHead_length key b)
  have hsplit : frameBytes key b = be16 key ++
      byteOf b.kind.code :: byteOf b.bytes.length :: (b.bytes ++ be16 (check16 (frameHead key b))) := by
    simp [frameBytes, frameHead]
  have hrest : (b.bytes ++ be16 (check16 (frameHead key b))).length = b.bytes.length + 2 := by simp [be16]
  rw [hsplit] at htake
  rw [hsplit, judgeFrame]
  simp only [read16_be16 hkey, andThen_some, htake, read8_byteOf (code_lt _), read8_byteOf hlen', ofCode_code, hrest, List.drop_left,
    List.take_left, read_bytes hwf, hok, ne_eq, not_true_eq_false, or_false, Nat.not_lt.2 hlen, if_false, if_true]

end Sys2Proof

namespace Sys2Proof.Machine

/-- Settles O20: each field is read back, and with it each payload and the frame. -/
theorem floorFramesReadBack : Obligations.FloorFramesReadBack := by
  unfold Obligations.FloorFramesReadBack
  intro key own b hkey hwf hok
  have h := judgeFrame_frameBytes hkey hwf hok
  exact ⟨h, by simp only [heardFrame, h]⟩

end Sys2Proof.Machine
end

section
/-! SUPPORT. What a departure from JOINED brings, with and without a call to lose (R67, R151), and an attempt that ends
with no beacon waiting (R79). -/

namespace Sys2Proof.Machine

variable {s : State}

/-! ## The departure from JOINED -/

/-- The link and the beacon timer after a departure from JOINED (R67, R77, R86). -/
def parted (line : LineState) (s : State) : State :=
  { s with link := { s.link with line := line, held := false }, dir := { s.dir with timer := none } }

/-- With no call to lose nothing else follows (R151). -/
theorem leaveJoined_quiet (line : LineState) (h : s.dep.state ≠ some .calling ∨ s.time.m = 0) :
    leaveJoined line s = parted line s := by
  have hno : ¬ (s.dep.state = some .calling ∧ 0 < s.time.m) := by
    rintro ⟨h1, h2⟩
    exact h.elim (fun h => h h1) fun h => absurd h2 (by omega)
  exact if_neg hno

/-- A call in CALLING with M above 0 is lost with the link (R151). -/
theorem leaveJoined_calling (line : LineState) (h : s.dep.state = some .calling) (hm : 0 < s.time.m) :
    leaveJoined line s = abandonCall .link (parted line s) := if_pos ⟨h, hm⟩

/-- The notices of a call abandoned: CALL_ABANDONED, and READY where it became true (R139, R150). -/
theorem abandonCall_notes (c : AbandonCause) (s : State) : (abandonCall c s).notes =
    if readyNow (abandonCall c s) && !s.dep.ready then
      (raise .ready (outboundCount s.deck) (expectedLoad s) (raise .callAbandoned c.code s.dep.callNumber s)).notes
    else (raise .callAbandoned c.code s.dep.callNumber s).notes := by
  have hready : readyNow (abandonCall c s) = readyNow (returnToOpen s) := by
    unfold abandonCall
    rw [settleReturn_eq]
    rfl
  have hnotes : (raise .callAbandoned c.code s.dep.callNumber (returnToOpen s)).notes =
      (raise .callAbandoned c.code s.dep.callNumber s).notes :=
    raise_notes_congr _ _ _ (by simp [returnToOpen_eq]) (by simp [returnToOpen_eq])
  have hdep : (returnToOpen s).dep = reopenedDep s := by simp [returnToOpen_eq]
  have hload : expectedLoad (returnToOpen s) = expectedLoad s := by simp [expectedLoad, returnToOpen_eq]
  rw [hready]
  unfold abandonCall
  rw [settleReturn_eq]
  simp only [raise_dep, raise_deck, hdep, returnToOpen_deck]
  refine ite_congr (by rfl) (fun _ => ?_) fun _ => hnotes
  refine (raise_notes_congr _ _ _ hnotes ?_).trans ?_
  · simp [returnToOpen_eq]
  · exact congrArg (fun n => (raise .ready (outboundCount s.deck) n _).notes) hload

/-- The link fault with a call to lose, as `t` shows it after the state `s` (R74, R75, R151): Departure Control OPEN
again, its notices, and a beacon; `r` is the rejoin timer that FAULTED starts with. -/
structure CallLost (r : Option Nat) (s t : State) : Prop where
  dep : t.dep = { s.dep with
    state := some .openBay, window := none, allowance := none, named := []
    ready := readyNow t, autoWas := autocloseNow t }
  notes : t.notes = if readyNow t && !s.dep.ready then
      (raise .ready (outboundCount s.deck) (expectedLoad s) (raise .callAbandoned 2 s.dep.callNumber s)).notes
    else (raise .callAbandoned 2 s.dep.callNumber s).notes
  beacon : BeaconSent { s with link := { s.link with line := .faulted, held := false, rejoin := r } } t
  keeps : t = { s with dep := t.dep, link := t.link, notes := t.notes, dir := t.dir }

/-- The beacon handed over leaves the line state and the rejoin timer (R79). -/
theorem linkWithBeacon_put (s t : State) (l : LineState) (r : Option Nat) :
    linkWithBeacon { s with link := { s.link with line := l, rejoin := r } } t =
      { linkWithBeacon s t with line := l, rejoin := r } := by
  unfold linkWithBeacon
  cases s.link.queue.find? isBeacon with
  | some f => dsimp only; split <;> rfl
  | none => dsimp only; split <;> rfl

/-- The beacon handed over hangs on the beaconed values alone (R84). -/
theorem linkWithBeacon_congr {t u : State} (hb : buildBeacon t = buildBeacon u) (hu : t.urgency = u.urgency)
    (hs : t.straps = u.straps) : linkWithBeacon s t = linkWithBeacon s u := by
  simp only [linkWithBeacon, framed, hb, hu, hs]

/-- FAULTED entered from JOINED with a call to lose. -/
theorem startRejoin_callLost (h : s.dep.state = some .calling) (hm : 0 < s.time.m) :
    CallLost (if s.link.duplicate then none else some 0) s (startRejoin (leaveJoined .faulted s)) := by
  rw [leaveJoined_calling _ h hm]
  have hdup : (abandonCall .link (parted .faulted s)).link.duplicate = s.link.duplicate :=
    congrArg (·.link.duplicate) (abandonCall_keep .link (parted .faulted s))
  have hkeep := abandonCall_changes .link (parted .faulted s)
  obtain ⟨hlink, hdir⟩ := abandonCall_beacon .link (parted .faulted s)
  have hdep := abandonCall_dep .link (parted .faulted s)
  have hnotes := abandonCall_notes .link (parted .faulted s)
  generalize abandonCall .link (parted .faulted s) = t at hdup hkeep hlink hdir hdep hnotes
  refine ⟨hdep, hnotes, ⟨?_, hdir⟩, ?_⟩
  · rw [linkWithBeacon_congr (t := startRejoin t) (u := t) rfl rfl rfl]
    refine Eq.trans ?_ (linkWithBeacon_put (parted .faulted s) t .faulted _).symm
    rw [← hlink, ← hdup]
    rfl
  · simp only [startRejoin, setLink]
    rw [hkeep]
    rfl

/-! ## The end of an attempt -/

/-- With no beacon waiting an attempt ends with its mark alone (R70, R71, R73). -/
theorem endAttempt_quiet (h : s.link.beaconWaiting = false) : endAttempt s =
    { s with link := { s.link with queue := s.link.queue.map (fun f => { f with onLine := false }) } } :=
  if_neg (by simp [h])

end Sys2Proof.Machine
end

section
/-! PROOF. Bad frames, frames objected to, and a duplicate bay (O51). -/

namespace Sys2Proof.Machine

variable {s : State}

/-- A line event that a station hears (R65, R167). -/
theorem heard_live {f : State → State} (hr : s.pins.resetHeld = false) (hl : s.link.line ≠ .detached) :
    heard f s = f s := by simp [heard, hr, hl]

/-- The notices of a bad frame counted: ERRORS_HALF where the count reaches the half mark (R76). -/
theorem countError_notes {n : Nat} (hn : n = min 65535 (s.link.errors + 1)) : (countError s).notes =
    if 32768 ≤ n ∧ s.link.half = false then (raise .errorsHalf n s.link.line.code s).notes else s.notes := by
  subst hn
  unfold countError
  dsimp only
  exact apply_ite State.notes ..

/-- The state in which a duplicate bay is acted on: the mark set and the notice raised (R75). -/
def marked (kind : FrameKind) (s : State) : State :=
  raise .duplicateBay s.straps.bay kind.code (setLink { s.link with duplicate := true } s)

/-- Everything a duplicate bay heard can do, by the line state it finds (R75). -/
theorem duplicateHeard_cases (kind : FrameKind) (s : State) :
    (s.link.line = .joined ∧ duplicateHeard kind s =
        startRejoin (leaveJoined .faulted (endAttempt (countFail (marked kind s)))))
      ∨ (s.link.line = .listening ∧ duplicateHeard kind s = startRejoin (countFail (marked kind s)))
      ∨ (s.link.line = .faulted ∧ duplicateHeard kind s =
        setLink { (marked kind s).link with rejoin := none } (marked kind s))
      ∨ (s.link.line = .detached ∧ duplicateHeard kind s = marked kind s) := by
  unfold duplicateHeard
  dsimp only
  split
  · next h => exact .inl ⟨h, rfl⟩
  · next h => exact .inr (.inl ⟨h, rfl⟩)
  · next h => exact .inr (.inr (.inl ⟨h, rfl⟩))
  · next h => exact .inr (.inr (.inr ⟨h, rfl⟩))

theorem duplicateHeard_joined (kind : FrameKind) (hl : s.link.line = .joined) : duplicateHeard kind s =
    startRejoin (leaveJoined .faulted (endAttempt (countFail (marked kind s)))) := by
  rcases duplicateHeard_cases kind s with ⟨-, e⟩ | ⟨h, -⟩ | ⟨h, -⟩ | ⟨h, -⟩
  · exact e
  all_goals exact absurd (hl.symm.trans h) nofun

/-- The state in which a duplicate bay heard is acted on: the line active, the mark set and the notice raised (R75). -/
def doubled (kind : FrameKind) (s : State) : State := marked kind (lineActive false s)

theorem doubled_notes (kind : FrameKind) (s : State) :
    (doubled kind s).notes = (raise .duplicateBay s.straps.bay kind.code s).notes := rfl

/-- The same state with the attempt ended and the fault counted, as JOINED is left (R75). -/
def doubledOff (kind : FrameKind) (s : State) : State :=
  { doubled kind s with link := { s.link with
      quiet := none, objection := false, duplicate := true, fails := min 255 (s.link.fails + 1)
      queue := s.link.queue.map (fun f => { f with onLine := false }) } }

/-- A duplicate bay heard while JOINED (R75): the attempt ends, the fault is counted, and JOINED is left. -/
theorem exec_duplicateBay_joined (kind : FrameKind) (hr : s.pins.resetHeld = false) (hl : s.link.line = .joined)
    (hw : s.link.beaconWaiting = false) :
    exec (.duplicateBay kind) s = .next (startRejoin (leaveJoined .faulted (doubledOff kind s))) := by
  refine congrArg Host.Outcome.next ?_
  rw [heard_live hr (by simp [hl]), duplicateHeard_joined (s := lineActive false s) kind hl,
    endAttempt_quiet (s := countFail (marked kind (lineActive false s))) hw]
  rfl

/-- Settles O51: bad frames by the count's law, a duplicate bay by what leaving JOINED brings. -/
theorem badAndForeignFramesAreCounted : Obligations.BadAndForeignFramesAreCounted := by
  unfold Obligations.BadAndForeignFramesAreCounted
  refine ⟨fun s n hr hl hn => ?_, fun s hr hl => ?_, fun kind s hr hl hd hw => ?_, fun kind s hr hl hd hm hw => ?_,
    fun kind s hr hl => ?_⟩
  · refine ⟨badFrame s, congrArg Host.Outcome.next (heard_live hr hl), ?_, ?_, ?_⟩
    · unfold badFrame lineActive objects
      dsimp only [setLink_link]
      rw [countError_eq, hn]
    · exact countError_notes hn
    · unfold badFrame lineActive
      dsimp only
      rw [countError_eq]
      rfl
  · exact congrArg Host.Outcome.next (heard_live hr hl)
  · refine ⟨_, exec_duplicateBay_joined kind hr hl hw, ?_⟩
    rw [leaveJoined_quiet (s := doubledOff kind s) _ hd]
    exact ⟨rfl, doubled_notes kind s, rfl, rfl⟩
  · obtain ⟨hdep, hnotes, hbeacon, hkeeps⟩ := startRejoin_callLost (s := doubledOff kind s) hd hm
    exact ⟨_, exec_duplicateBay_joined kind hr hl hw, hdep, hnotes, hbeacon.seenFrom rfl rfl, hkeeps⟩
  · have hexec : exec (.duplicateBay kind) s = .next (duplicateHeard kind (lineActive false s)) := by
      refine congrArg Host.Outcome.next (heard_live hr ?_)
      rcases hl with hl | hl <;> simp [hl]
    refine ⟨_, hexec, ?_⟩
    rcases duplicateHeard_cases kind (lineActive false s) with ⟨h, -⟩ | ⟨h, e⟩ | ⟨h, e⟩ | ⟨h, -⟩
    · exact absurd h (by rcases hl with hl | hl <;> simp [lineActive, hl])
    · have hf : s.link.line = .listening := h
      rw [e, if_pos hf]
      exact ⟨rfl, doubled_notes kind s, rfl⟩
    · have hf : s.link.line = .faulted := h
      rw [e, if_neg (by simp [hf])]
      exact ⟨by rw [← hf]; rfl, doubled_notes kind s, rfl⟩
    · exact absurd h (by rcases hl with hl | hl <;> simp [lineActive, hl])

end Sys2Proof.Machine
end

section
/-! PROOF. Attempts: the quiet gap, contention, failures and the failure threshold (O52). -/

namespace Sys2Proof.Machine

variable {s : State}

/-! ## Arbitration -/

/-- A station withdraws exactly where the bits heard, as a number, are less than its own (R70). -/
theorem withdrawsFrom_iff (n own heard : Nat) :
    withdrawsFrom n own heard = true ↔ heard % 2 ^ n < own % 2 ^ n := by
  induction n with
  | zero => simp [withdrawsFrom, Nat.mod_one]
  | succ n ih =>
    have ho := Nat.mod_lt own (Nat.two_pow_pos n)
    have hh := Nat.mod_lt heard (Nat.two_pow_pos n)
    rw [withdrawsFrom, Nat.mod_pow_succ, Nat.mod_pow_succ, ← Nat.toNat_testBit, ← Nat.toNat_testBit]
    cases own.testBit n <;> cases heard.testBit n <;>
      simp only [ih, Bool.toNat_true, Bool.toNat_false] <;> grind

theorem withdraws_iff {own heard : Nat} (ho : own < 65536) (hh : heard < 65536) :
    withdraws own heard = true ↔ heard < own := by
  rw [withdraws, withdrawsFrom_iff]
  omega

/-! ## Failures -/

/-- The state after a transmit failure but for the threshold (R71, R73): the frame is off the line and counted. -/
def failed (s : State) : State :=
  { s with link := { s.link with
      failures := min 16 (s.link.failures + 1), queue := s.link.queue.map (fun f => { f with onLine := false }) } }

theorem exec_transmitFailure (hr : s.pins.resetHeld = false) (hl : s.link.line = .joined)
    (hf : ∃ f ∈ s.link.queue, f.onLine = true) (hw : s.link.beaconWaiting = false) :
    exec .transmitFailure s =
      .next (if min 16 (s.link.failures + 1) = 16 then thresholdFault (failed s) else failed s) := by
  have hon : (onLineFrame s).isSome = true := by simpa [onLineFrame] using hf
  refine congrArg Host.Outcome.next ?_
  rw [live_free _ hr, failAttempt, if_pos ⟨hl, hon⟩, endAttempt_quiet hw]
  rfl

/-- The threshold reached: LINK_DOWN raised, with the fail count risen, and JOINED left for FAULTED (R74). -/
def faulted (s : State) : State :=
  raise .linkDown (min 255 (s.link.fails + 1)) s.link.queue.length (countFail s)

theorem thresholdFault_eq (s : State) : thresholdFault s = startRejoin (leaveJoined .faulted (faulted s)) := rfl

/-- Settles O52: the arbitration compares the keys as numbers, and the sixteenth failure leaves JOINED. -/
theorem attemptsContendAndFail : Obligations.AttemptsContendAndFail := by
  unfold Obligations.AttemptsContendAndFail
  refine ⟨fun s f fs hr hl hq hoff => ?_, fun key s f hr hl hf hw hk hfk => ?_, fun s hr hl hf hw hn => ?_,
    fun s hr hl hf hw hn hd hc => ?_, fun s hr hl hf hw hn hd hc hm => ?_⟩
  · have hnone : onLineFrame s = none := by simpa [onLineFrame] using hoff
    refine congrArg Host.Outcome.next ?_
    rw [live_free _ hr, startAttempt, if_pos ⟨hl, hnone⟩, hq]
    rfl
  · refine congrArg Host.Outcome.next ?_
    rw [live_free _ hr, contend, show onLineFrame s = some f from hf]
    exact ite_congr (propext ⟨fun h => (withdraws_iff hfk hk).1 h.2, fun h => ⟨hl, (withdraws_iff hfk hk).2 h⟩⟩)
      (fun _ => endAttempt_quiet hw) fun _ => rfl
  · rw [exec_transmitFailure hr hl hf hw, if_neg (by omega), failed, Nat.min_eq_right (by omega)]
  · refine ⟨_, exec_transmitFailure hr hl hf hw, ?_⟩
    rw [if_pos (by omega), thresholdFault_eq, leaveJoined_quiet (s := faulted (failed s)) _ hc]
    refine ⟨?_, rfl, ?_, rfl⟩
    · simp [startRejoin, parted, faulted, failed, countFail, hn, hd]
    · simp only [startRejoin, parted, faulted, setLink_notes, failed, List.length_map]
      exact raise_notes_congr _ _ _ rfl rfl
  · refine ⟨_, exec_transmitFailure hr hl hf hw, ?_⟩
    rw [if_pos (by omega), thresholdFault_eq]
    obtain ⟨hdep, hnotes, hbeacon, hkeeps⟩ := startRejoin_callLost (s := faulted (failed s)) hc hm
    have hlink : (faulted (failed s)).link = { s.link with
        failures := 16, fails := min 255 (s.link.fails + 1)
        queue := s.link.queue.map (fun f => { f with onLine := false }) } := by
      simp [faulted, failed, countFail, hn]
    have hdown : (faulted (failed s)).notes =
        (raise .linkDown (min 255 (s.link.fails + 1)) s.link.queue.length s).notes := by
      simp only [faulted, failed, List.length_map]
      exact raise_notes_congr _ _ _ rfl rfl
    have hcall : (raise .callAbandoned 2 (faulted (failed s)).dep.callNumber (faulted (failed s))).notes =
        (raise .callAbandoned 2 s.dep.callNumber
          (raise .linkDown (min 255 (s.link.fails + 1)) s.link.queue.length s)).notes :=
      raise_notes_congr _ _ _ hdown rfl
    refine ⟨hdep, ?_, hbeacon.seenFrom ?_ rfl, hkeeps⟩
    · rw [hnotes]
      refine ite_congr rfl (fun _ => ?_) fun _ => hcall
      exact raise_notes_congr _ _ _ hcall rfl
    · simp only [hlink, hd]
      rfl

end Sys2Proof.Machine
end

section
/-! SUPPORT. Routine changes of the transmit queue, the own beacon and the directory, as a relation that every shared
operation falls under: what no departure, no arrival and no end of an attempt on the link brings. -/

namespace Sys2Proof.Machine

/-! ## The relation -/

/-- What the laws of the floor link and of the directory read, with the commands that wait. -/
structure Net where
  straps : Straps
  link : Link
  dir : Directory
  pending : List Instr

/-- The view of a state. -/
def netOf (s : State) : Net := { straps := s.straps, link := s.link, dir := s.dir, pending := s.pending }

/-- A link that differs at most in the quiet timer, the objection and the waiting beacon. -/
def Link.Near (l m : Link) : Prop :=
  m = { l with quiet := m.quiet, objection := m.objection, beaconWaiting := m.beaconWaiting }

/-- Every directory entry was refreshed within three of its intervals (R89). -/
abbrev Fresh (s : State) : Prop := ∀ e ∈ s.dir.entries, e.since < 3 * e.interval

/-- A directory that may take the place of the one of `s`: the beacon timer stands as it was, and its laws hold where they
held; the law of the entries only where `p` holds. -/
structure Shelving (p : Prop) (s : State) (d : Directory) : Prop where
  timer : d.timer = s.dir.timer
  law : p → DirectoryLaw s → DirectoryLaw (setDir d s)
  interval : IntervalLaw s → IntervalLaw (setDir d s)
  fresh : Fresh s → p → DirectoryLaw s → Fresh (setDir d s)

/-- Steps that change no more of the link and the directory than frames handed over, the own beacon, and directory
entries that keep the directory's laws, where `p` holds. -/
inductive Routine (p : Prop) : State → State → Prop where
  /-- Nothing of the link and the directory changes. -/
  | same {s t : State} (h : netOf t = netOf s) : Routine p s t
  /-- A frame other than the own beacon is placed (R79). -/
  | hand {s t : State} {b : Body} (hb : (b.kind == .beacon) = false) (h : handFrame b s = some t) : Routine p s t
  /-- The own beacon is handed over (R79). -/
  | place (s : State) : Routine p s (placeBeacon s).1
  /-- The beacon timer restarts (R86). -/
  | timer (n : Nat) (s : State) : Routine p s (restartBeaconTimer n s)
  /-- The directory changes as its laws allow, the beacon timer aside. -/
  | shelf {s : State} {d : Directory} (h : Shelving p s d) : Routine p s (setDir d s)
  /-- The quiet timer, the objection or the waiting beacon changes. -/
  | near {s : State} {l : Link} (h : s.link.Near l) : Routine p s (setLink l s)
  /-- One after another. -/
  | trans {s t u : State} (h1 : Routine p s t) (h2 : Routine p t u) : Routine p s u

namespace Routine

variable {p : Prop} {s t u : State}

theorem refl (s : State) : Routine p s s := .same rfl

/-- A step that leaves the link and the directory, after a routine one. -/
theorem thenSame (h : Routine p s t) (hn : netOf u = netOf t) : Routine p s u := h.trans (.same hn)

/-- A routine step after one that leaves the link and the directory. -/
theorem after (h : Routine p t u) (hn : netOf t = netOf s) : Routine p s u := (same hn).trans h

theorem foldl {α : Type} {f : State → α → State} (h : ∀ s a, Routine p s (f s a)) (l : List α) (s : State) :
    Routine p s (l.foldl f s) := by
  induction l generalizing s with
  | nil => exact .refl s
  | cons a l ih => exact (h s a).trans (ih _)

/-- Routine steps folded over a list with something kept beside the state. -/
theorem foldlWith {α β : Type} {f : State × β → α → State × β} (h : ∀ acc a, Routine p acc.1 (f acc a).1) (l : List α)
    (acc : State × β) : Routine p acc.1 (l.foldl f acc).1 := by
  induction l generalizing acc with
  | nil => exact .refl acc.1
  | cons a l ih => exact (h acc a).trans (ih _)

/-- Routine on both sides of a test. -/
theorem ite {q : Prop} [Decidable q] (h1 : q → Routine p s t) (h2 : ¬ q → Routine p s u) :
    Routine p s (if q then t else u) := by
  split
  · next h => exact h1 h
  · next h => exact h2 h

end Routine

variable {p : Prop} (s : State)

/-! ## The transmit queue and the own beacon -/

theorem raise_routine (k : NoticeKind) (a b : Nat) : Routine p s (raise k a b s) := .same rfl

theorem handOrDrop_routine {b : Body} (hb : (b.kind == .beacon) = false) : Routine p s (handOrDrop b s) := by
  unfold handOrDrop
  cases h : handFrame b s with
  | none => exact .refl s
  | some t => exact .hand hb h

theorem beaconedChange_routine : Routine p s (beaconedChange s) := by
  have hi : Routine p s (setDir { s.dir with interval := 4 } s) :=
    .shelf ⟨rfl, fun _ => id, fun _ => List.mem_cons_self, fun h _ _ => h⟩
  exact (hi.trans (.place _)).trans (.timer 4 _)

theorem announce_routine (a : State) : Routine p s (announce a s) :=
  .ite (fun _ => beaconedChange_routine s) fun _ => .refl s

theorem handFree_routine : Routine p s (handFree s) := .ite (fun _ => .refl s) fun _ => beaconedChange_routine s

theorem recomputeUrgency_routine : Routine p s (recomputeUrgency s) := by
  have h : Routine p s (withUrgency s) := .same rfl
  rw [recomputeUrgency_eq]
  exact .ite (fun _ => h.trans (beaconedChange_routine _)) fun _ => h

theorem askReceipt_routine (label origin : Nat) : Routine p s (askReceipt label origin s).1 := by
  unfold askReceipt
  split
  · next h => exact .hand rfl h
  · exact .same rfl

/-! ## Groups and transfers -/

theorem buildList_routine (before l : List ClosedGroup) : Routine p s (buildList s before l).1 := by
  induction l generalizing s before with
  | nil => exact .refl s
  | cons g l ih =>
    unfold buildList
    split
    · split
      · next t h => exact (Routine.hand rfl h).trans (ih t _)
      · exact ih s _
    · exact ih s _

theorem buildReady_routine : Routine p s (buildReady s) := (buildList_routine s [] _).thenSame rfl

theorem net_of_keepAsm {s t : State} (h : keepAsm t = keepAsm s) : netOf t = netOf s := (congrArg netOf h :)

theorem tidyGroups_routine : Routine p s (tidyGroups s) :=
  (buildReady_routine _).after (net_of_keepAsm (serveWaiting_keep s))

theorem releasePending_routine : Routine p s (releasePending s) := (buildReady_routine _).after rfl

theorem closeAll_net {close : OpenGroup → State → State} (h : ∀ g s, keepAsm (close g s) = keepAsm s) :
    netOf (closeAll close s) = netOf s := net_of_keepAsm (closeAll_keep close h s)

theorem endRunGroups_routine : Routine p s (endRunGroups s) := by
  refine Routine.trans (.same ?_) (buildReady_routine _)
  split
  · exact closeAll_net s closeOpen_keep
  · rw [foldl_keep netOf _ fun t b => net_of_keepAsm (closeEmpty_keep b t)]
    exact closeAll_net s closeOpen_keep

theorem selectTarget_routine (notify : Bool) (label : Nat) : Routine p s (selectTarget notify label s) := by
  unfold selectTarget
  split
  · exact .refl s
  · split
    · refine (tidyGroups_routine _).after ?_
      exact (net_of_keepAsm (joinGroup_keep _ _ (setTransferState label _ s))).trans rfl
    · exact .ite (fun _ => (raise_routine _ _ _ _).after rfl) fun _ => .same rfl

theorem reselect_routine (back parked : List Nat) : Routine p s (reselect back parked s) := by
  refine Routine.trans ?_ (Routine.foldl (fun u l => selectTarget_routine u _ l) _ _)
  exact (Routine.foldl (f := fun u l => goBack l u) (fun _ _ => .same rfl) back s).trans (tidyGroups_routine _)

theorem removeEntry_routine (label : Nat) : Routine p s (removeEntry label s) :=
  (tidyGroups_routine _).after rfl

theorem applyDone_routine (bay : Nat) (parked : List Nat) : Routine p s (applyDone bay parked s) :=
  (Routine.foldl (f := fun t l => raise .missed l bay (setTransferState l .parked t)) (fun _ _ => .same rfl) _ s).trans
    (reselect_routine _ _ _)

theorem completeOffer_routine (target : Nat) : Routine p s (completeOffer target s) := by
  unfold completeOffer
  split
  · exact .refl s
  · exact .same rfl

/-! ## Departure Control -/

theorem checkReady_routine : Routine p s (checkReady s) := by rw [checkReady_eq]; exact .same rfl

theorem setDepState_routine (d : Option DepState) : Routine p s (setDepState d s) :=
  (beaconedChange_routine _).after rfl

theorem startCall_routine : Routine p s (startCall s) := by
  refine Routine.thenSame (Routine.trans ?_ (setDepState_routine _ (some .calling))) rfl
  refine Routine.thenSame (t := handOrDrop (.call { bay := s.straps.bay, number := (s.dep.callNumber + 1) % 256 })
    (setDep { s.dep with callNumber := (s.dep.callNumber + 1) % 256 } s)) ?_ rfl
  exact (handOrDrop_routine _ rfl).after rfl

theorem autoStart_routine (c : StartCause) : Routine p s (autoStart c s) :=
  .ite (fun _ => startCall_routine s) fun _ => .ite (fun _ => .refl s) fun _ => .same rfl

theorem checkAutoclose_routine : Routine p s (checkAutoclose s) :=
  .ite (fun _ => (autoStart_routine _ _).after rfl) fun _ => .same rfl

theorem settle_routine : Routine p s (settle s) := (checkReady_routine s).trans (checkAutoclose_routine _)

theorem returnToOpen_routine : Routine p s (returnToOpen s) := (setDepState_routine _ _).after rfl

theorem settleReturn_routine : Routine p s (settleReturn s) := (checkReady_routine s).thenSame rfl

theorem abandonCall_routine (c : AbandonCause) : Routine p s (abandonCall c s) :=
  .trans ((returnToOpen_routine s).thenSame (u := raise .callAbandoned c.code (returnToOpen s).dep.callNumber _) rfl)
    (settleReturn_routine _)

theorem linkLost_routine : Routine p s (linkLost s) := .ite (fun _ => abandonCall_routine s _) fun _ => .refl s

theorem retryStart_routine : Routine p s (retryStart s) :=
  .ite (fun _ => .ite (fun _ => (startCall_routine _).after rfl) fun _ => .same rfl) fun _ => .refl s

theorem removeHold_routine (label : Nat) : Routine p s (removeHold label s) :=
  (announce_routine _ _).after rfl

theorem voidHolds_routine (q : Hold → Bool) : Routine p s (voidHolds q s) := by
  have h := Routine.foldl (p := p) (fun u l => removeHold_routine u l) ((s.store.holds.filter q).map (·.label)) s
  exact .ite (fun _ => h) fun _ => h.thenSame rfl

theorem askDone_routine : Routine p s (askDone s) := by
  unfold askDone
  split
  · next h => exact .hand rfl h
  · exact .same rfl

theorem enterClosed_routine (c : CloseCause) : Routine p s (enterClosed c s) := by
  have hdoor (u : State) : Routine p u (closedDoor u) := (beaconedChange_routine (setDep (closedDep u) u)).after rfl
  have h := ((voidHolds_routine (p := p) s fun _ => true).trans (askDone_routine _)).trans (hdoor _)
  rw [enterClosed_eq]
  refine h.thenSame ?_
  generalize closedDoor _ = u
  rfl

theorem holdGone_routine : Routine p s (holdGone s) := .ite (fun _ => enterClosed_routine s _) fun _ => .refl s

theorem cutoffReached_routine : Routine p s (cutoffReached s) := by
  unfold cutoffReached
  split
  · exact .ite (fun _ => autoStart_routine s _) fun _ => .same rfl
  · exact enterClosed_routine s _
  · exact .refl s

theorem receiptAgain_routine (n : NamedRecord) : Routine p s (receiptAgain n s) :=
  .ite (fun _ => askReceipt_routine s _ _) fun _ => .refl s

theorem reconcileOne_routine (n : NamedRecord) (acc : State × List NamedRecord) :
    Routine p acc.1 (reconcileOne n acc).1 := by
  unfold reconcileOne
  split
  · split
    · exact (announce_routine _ _).after rfl
    · exact .refl _
  · exact .refl _

theorem answerClosing_routine (ns : List NamedRecord) : Routine p s (answerClosing ns s) :=
  .foldl (fun t _ => .foldl (fun u _ => handOrDrop_routine u rfl) _ t) _ s

theorem reconcileOthers_routine (ns : List NamedRecord) : Routine p s (reconcileOthers ns s) := by
  exact (Routine.foldlWith (fun acc n => reconcileOne_routine n acc) ns (s, [])).trans (answerClosing_routine _ _)

theorem reconcileNamed_routine (ns : List NamedRecord) : Routine p s (reconcileNamed ns s) :=
  (Routine.foldl (fun t n => receiptAgain_routine t n) ns s).trans (reconcileOthers_routine _ _)

theorem windowOutcome_routine : Routine p s (windowOutcome s) :=
  .ite (fun _ => enterClosed_routine s _) fun _ =>
    .ite (fun _ => (enterClosed_routine _ _).after rfl)
      fun _ => (setDepState_routine _ _).after rfl

theorem endWindow_routine : Routine p s (endWindow s) :=
  ((voidHolds_routine s _).trans (reconcileNamed_routine _ _)).trans (windowOutcome_routine _)

/-! ## Free room offered -/

theorem offerDone_routine : Routine p s (offerDone s) := by
  unfold offerDone
  split
  · split
    · next h => exact (Routine.hand rfl h).thenSame rfl
    · exact .refl s
  · exact .refl s

theorem offerLaneReceipt_routine (e : LaneEntry) : Routine p s (offerLaneReceipt e s) := by
  unfold offerLaneReceipt
  split
  · next h => exact (Routine.hand rfl h).thenSame rfl
  · exact .refl s

theorem offerDeckReceipt_routine (e : DeckEntry) : Routine p s (offerDeckReceipt e s) := by
  unfold offerDeckReceipt
  split
  · next h => exact (Routine.hand rfl h).thenSame rfl
  · exact .refl s

theorem offerRoom_routine : Routine p s (offerRoom s) := by
  refine Routine.trans (Routine.trans ?_ (Routine.foldl (fun x e => offerDeckReceipt_routine x e) _ _))
    (buildReady_routine _)
  exact (offerDone_routine s).trans (.foldl (fun x e => offerLaneReceipt_routine x e) _ _)

/-! ## The clock -/

theorem cutoffTests_routine (before cutoff : Nat) : Routine p s (cutoffTests before cutoff s) := by
  rw [cutoffTests_eq]
  have h : Routine p s (warnCutoff cutoff s) := .same rfl
  exact .ite (fun _ => h.trans (cutoffReached_routine _)) fun _ => h

theorem recomputeM_routine : Routine p s (recomputeM s) := by
  unfold recomputeM
  split
  · exact .refl s
  · refine Routine.trans ?_ (cutoffTests_routine _ _ _)
    exact (recomputeUrgency_routine _).after rfl

end Sys2Proof.Machine
end

section
/-! SUPPORT. What a routine step keeps: the line state and its counts, the beacon timer's rule, the transmit queue's limits
and order, and the directory's laws. -/

namespace Sys2Proof.Machine

variable {p : Prop} {s t : State}

theorem link_of_net (h : netOf t = netOf s) : t.link = s.link := congrArg Net.link h
theorem dir_of_net (h : netOf t = netOf s) : t.dir = s.dir := congrArg Net.dir h
theorem straps_of_net (h : netOf t = netOf s) : t.straps = s.straps := congrArg Net.straps h
theorem pending_of_net (h : netOf t = netOf s) : t.pending = s.pending := congrArg Net.pending h

/-! ## The transmit queue -/

/-- The limits and the order of a queue (R69, R78). -/
def QueueOk (q : List Queued) : Prop :=
  q.length ≤ 16 ∧ lowCount q ≤ 12 ∧ beaconCount q ≤ 1 ∧ q.Pairwise (fun f g => f.key ≤ g.key)
    ∧ (q.filter (·.onLine)).length ≤ 1

/-- A frame placed keeps the limits where its class finds room, and is the only BEACON where it is one. -/
theorem QueueOk.insert {f : Queued} {q : List Queued} (h : QueueOk q) (hlen : q.length < 16)
    (hlow : 2 ≤ f.body.kind.cls → lowCount q < 12) (hb : isBeacon f = true → beaconCount q = 0)
    (hf : f.onLine = false) : QueueOk (insertQueued f q) := by
  obtain ⟨-, hl, hbc, hs, ho⟩ := h
  refine ⟨?_, ?_, ?_, insertQueued_sorted hs, ?_⟩
  · rw [insertQueued_length]; exact hlen
  · rw [lowCount_insertQueued]
    split
    · next hc => exact hlow hc
    · exact hl
  · unfold beaconCount at hbc hb ⊢
    rw [insertQueued_filter_length]
    split
    · next hk => rw [hb hk]
    · exact hbc
  · rw [insertQueued_filter_length, hf]; exact ho

/-- Frames taken out keep the limits and the order. -/
theorem QueueOk.sublist {q r : List Queued} (h : QueueOk q) (hs : List.Sublist r q) : QueueOk r := by
  obtain ⟨hlen, hl, hbc, hp, ho⟩ := h
  exact ⟨hs.length_le.trans hlen, ((hs.filter _).length_le).trans hl, ((hs.filter _).length_le).trans hbc, hp.sublist hs,
    ((hs.filter _).length_le).trans ho⟩

theorem any_insertQueued {q : List Queued} {f : Queued} (c : Queued → Bool) (hf : c f = false) (h : q.any c = false) :
    (insertQueued f q).any c = false := by
  simp only [List.any_eq_false, mem_insertQueued] at h ⊢
  rintro g (rfl | hg)
  · simp [hf]
  · exact h g hg

/-- Everything handing over the own beacon can do (R79). -/
theorem placeBeacon_cases (s : State) :
    (placeBeacon s).1 = noteBeaconed (setLink { s.link with beaconWaiting := true } s)
      ∨ (∃ f ∈ s.link.queue, isBeacon f = true ∧ (placeBeacon s).1 = queueBeacon (s.link.queue.filter (!isBeacon ·)) s)
      ∨ (s.link.queue.find? isBeacon = none ∧ hasRoom 3 s.link.queue = true
        ∧ (placeBeacon s).1 = queueBeacon s.link.queue s)
      ∨ (placeBeacon s).1 = s := by
  unfold placeBeacon
  split
  · next f hf =>
    split
    · exact .inl rfl
    · exact .inr (.inl ⟨f, List.mem_of_find?_eq_some hf, List.find?_some hf, rfl⟩)
  · next hf =>
    split
    · next hr => exact .inr (.inr (.inl ⟨hf, hr, rfl⟩))
    · exact .inr (.inr (.inr rfl))

/-- Where a queue holds a BEACON, the queue without it has room for one. -/
theorem QueueOk.withoutBeacon {q : List Queued} {f : Queued} (h : QueueOk q) (hm : f ∈ q) (hf : isBeacon f = true) :
    QueueOk (q.filter (!isBeacon ·)) ∧ (q.filter (!isBeacon ·)).length < 16
      ∧ lowCount (q.filter (!isBeacon ·)) < 12 := by
  have hcls (g : Queued) (hg : isBeacon g = true) : 2 ≤ g.body.kind.cls := by
    rw [beq_iff_eq.1 hg]; decide
  obtain ⟨hlen, hl, -⟩ := id h
  refine ⟨h.sublist List.filter_sublist, ?_, ?_⟩
  · exact (List.length_filter_lt_length_iff_exists.2 ⟨f, hm, by simp [hf]⟩).trans_le hlen
  · refine Nat.lt_of_lt_of_le ?_ hl
    unfold lowCount
    rw [List.filter_filter, List.filter_congr (fun g _ => Bool.and_comm _ _), ← List.filter_filter]
    exact List.length_filter_lt_length_iff_exists.2
      ⟨f, List.mem_filter.2 ⟨hm, by simpa using hcls f hf⟩, by simp [hf]⟩

theorem beaconCount_eq_zero {q : List Queued} (h : ∀ g ∈ q, isBeacon g = false) : beaconCount q = 0 := by
  simpa [beaconCount] using h

theorem placeBeacon_queueOk (h : QueueOk s.link.queue) : QueueOk (placeBeacon s).1.link.queue := by
  rcases placeBeacon_cases s with e | ⟨f, hm, hf, e⟩ | ⟨hn, hr, e⟩ | e <;> rw [e]
  · exact h
  · obtain ⟨hq, hlen, hlow⟩ := h.withoutBeacon hm hf
    refine hq.insert hlen (fun _ => hlow) (fun _ => beaconCount_eq_zero fun g hg => ?_) rfl
    simpa using (List.mem_filter.1 hg).2
  · obtain ⟨hlen, hlow⟩ := (hasRoom_iff _ _).1 hr
    exact h.insert hlen (fun _ => hlow.resolve_left (by decide))
      (fun _ => beaconCount_eq_zero fun g hg => by simpa using List.find?_eq_none.1 hn g hg) rfl
  · exact h

theorem handFrame_queueOk {b : Body} (hb : (b.kind == .beacon) = false) (h : handFrame b s = some t)
    (hq : QueueOk s.link.queue) : QueueOk t.link.queue := by
  rcases handFrame_cases b s with ⟨-, e⟩ | ⟨hr, e⟩
  · cases h.symm.trans e
  · cases h.symm.trans e
    obtain ⟨hlen, hlow⟩ := (hasRoom_iff _ _).1 hr
    exact hq.insert hlen (fun hc => hlow.resolve_left (Nat.not_lt.2 hc)) (fun hk => absurd (hb.symm.trans hk) (by decide)) rfl

/-- A routine step keeps the limits and the order of the queue. -/
theorem Routine.queueOk (h : Routine p s t) (hq : QueueOk s.link.queue) : QueueOk t.link.queue := by
  induction h with
  | same h => rw [link_of_net h]; exact hq
  | hand hb h => exact handFrame_queueOk hb h hq
  | place s => exact placeBeacon_queueOk hq
  | timer => exact hq
  | shelf => exact hq
  | near h => rw [h]; exact hq
  | trans _ _ ih1 ih2 => exact ih2 (ih1 hq)

/-! ## The marks of the present attempt -/

/-- No frame is on the line. -/
def Unmarked (q : List Queued) : Prop := q.any (·.onLine) = false

theorem Unmarked.insert {q : List Queued} {f : Queued} (h : Unmarked q) (hf : f.onLine = false) :
    Unmarked (insertQueued f q) := any_insertQueued _ hf h

theorem Unmarked.filter {q : List Queued} (h : Unmarked q) (c : Queued → Bool) : Unmarked (q.filter c) := by
  simp only [Unmarked, List.any_eq_false, List.mem_filter] at h ⊢
  exact fun g hg => h g hg.1

theorem placeBeacon_unmarked (h : Unmarked s.link.queue) : Unmarked (placeBeacon s).1.link.queue := by
  rcases placeBeacon_cases s with e | ⟨f, -, -, e⟩ | ⟨-, -, e⟩ | e <;> rw [e]
  · exact h
  · exact (h.filter _).insert rfl
  · exact h.insert rfl
  · exact h

theorem handFrame_unmarked {b : Body} (h : handFrame b s = some t) (hq : Unmarked s.link.queue) :
    Unmarked t.link.queue := by
  rcases handFrame_cases b s with ⟨-, e⟩ | ⟨-, e⟩
  · cases h.symm.trans e
  · cases h.symm.trans e; exact hq.insert rfl

/-- A routine step puts no frame on the line. -/
theorem Routine.unmarked (h : Routine p s t) (hq : Unmarked s.link.queue) : Unmarked t.link.queue := by
  induction h with
  | same h => rw [link_of_net h]; exact hq
  | hand hb h => exact handFrame_unmarked h hq
  | place s => exact placeBeacon_unmarked hq
  | timer => exact hq
  | shelf => exact hq
  | near h => rw [h]; exact hq
  | trans _ _ ih1 ih2 => exact ih2 (ih1 hq)

/-! ## The line state and its counts -/

/-- The link without what a routine step may change. -/
def wireOf (l : Link) : Link := { l with queue := [], quiet := none, objection := false, beaconWaiting := false }

theorem line_of_wire {l m : Link} (h : wireOf l = wireOf m) : l.line = m.line := (congrArg Link.line h :)

theorem placeBeacon_wire (s : State) : wireOf (placeBeacon s).1.link = wireOf s.link := by
  rcases placeBeacon_cases s with e | ⟨f, -, -, e⟩ | ⟨-, -, e⟩ | e <;> rw [e] <;> rfl

theorem placeBeacon_timer (s : State) : (placeBeacon s).1.dir.timer = s.dir.timer := by
  rcases placeBeacon_cases s with e | ⟨f, -, -, e⟩ | ⟨-, -, e⟩ | e <;> rw [e] <;> rfl

theorem placeBeacon_shelf (s : State) : (placeBeacon s).1.dir.entries = s.dir.entries
    ∧ (placeBeacon s).1.dir.changes = s.dir.changes ∧ (placeBeacon s).1.dir.interval = s.dir.interval := by
  rcases placeBeacon_cases s with e | ⟨f, -, -, e⟩ | ⟨-, -, e⟩ | e <;> rw [e] <;> exact ⟨rfl, rfl, rfl⟩

theorem placeBeacon_straps (s : State) : (placeBeacon s).1.straps = s.straps :=
  straps_of_keepBeacon (placeBeacon_keep s)

theorem placeBeacon_pending (s : State) : (placeBeacon s).1.pending = s.pending :=
  pending_of_keepBeacon (placeBeacon_keep s)

theorem handFrame_eq {b : Body} (h : handFrame b s = some t) : ∃ q, t = setQueue q s := by
  rcases handFrame_cases b s with ⟨-, e⟩ | ⟨-, e⟩
  · cases h.symm.trans e
  · cases h.symm.trans e; exact ⟨_, rfl⟩

/-- A routine step keeps the line state, its marks, timers and counts. -/
theorem Routine.wire (h : Routine p s t) : wireOf t.link = wireOf s.link := by
  induction h with
  | same h => rw [link_of_net h]
  | hand hb h => obtain ⟨q, rfl⟩ := handFrame_eq h; rfl
  | place s => exact placeBeacon_wire s
  | timer => rfl
  | shelf => rfl
  | near h => rw [h]; rfl
  | trans _ _ ih1 ih2 => exact ih2.trans ih1

theorem Routine.line (h : Routine p s t) : t.link.line = s.link.line := line_of_wire h.wire

theorem Routine.straps (h : Routine p s t) : t.straps = s.straps := by
  induction h with
  | same h => exact straps_of_net h
  | hand hb h => obtain ⟨q, rfl⟩ := handFrame_eq h; rfl
  | place s => exact placeBeacon_straps s
  | timer => rfl
  | shelf => rfl
  | near => rfl
  | trans _ _ ih1 ih2 => exact ih2.trans ih1

theorem Routine.pending (h : Routine p s t) : t.pending = s.pending := by
  induction h with
  | same h => exact pending_of_net h
  | hand hb h => obtain ⟨q, rfl⟩ := handFrame_eq h; rfl
  | place s => exact placeBeacon_pending s
  | timer => rfl
  | shelf => rfl
  | near => rfl
  | trans _ _ ih1 ih2 => exact ih2.trans ih1

/-- The beacon timer runs exactly in JOINED (R86). -/
abbrev TimerLaw (s : State) : Prop := s.dir.timer.isSome = true ↔ s.link.line = .joined

theorem restartBeaconTimer_law (n : Nat) (s : State) : TimerLaw (restartBeaconTimer n s) := by
  by_cases h : s.link.line = .joined <;> simp [TimerLaw, restartBeaconTimer, h]

/-- A routine step keeps the beacon timer's rule. -/
theorem Routine.timerLaw (h : Routine p s t) (hs : TimerLaw s) : TimerLaw t := by
  induction h with
  | same h => rw [TimerLaw, link_of_net h, dir_of_net h]; exact hs
  | hand hb h => obtain ⟨q, rfl⟩ := handFrame_eq h; exact hs
  | place s =>
    rw [TimerLaw, placeBeacon_timer, line_of_wire (placeBeacon_wire s)]; exact hs
  | timer n s => exact restartBeaconTimer_law n s
  | shelf h => rw [TimerLaw, setDir_dir, h.timer]; exact hs
  | near h => rw [h]; exact hs
  | trans _ _ ih1 ih2 => exact ih2 (ih1 hs)

/-! ## The directory -/

theorem directoryLaw_congr (hs : t.straps = s.straps) (he : t.dir.entries = s.dir.entries)
    (hc : t.dir.changes = s.dir.changes) : DirectoryLaw t ↔ DirectoryLaw s := by
  simp only [DirectoryLaw, hs, he, hc]

/-- A routine step keeps the directory's laws. -/
theorem Routine.directoryLaw (h : Routine p s t) (hp : p) (hs : DirectoryLaw s) : DirectoryLaw t := by
  induction h with
  | same h => exact (directoryLaw_congr (straps_of_net h) (by rw [dir_of_net h]) (by rw [dir_of_net h])).2 hs
  | hand hb h => obtain ⟨q, rfl⟩ := handFrame_eq h; exact hs
  | place s =>
    obtain ⟨he, hc, -⟩ := placeBeacon_shelf s
    exact (directoryLaw_congr (placeBeacon_straps s) he hc).2 hs
  | timer => exact hs
  | shelf h => exact h.law hp hs
  | near => exact hs
  | trans _ _ ih1 ih2 => exact ih2 (ih1 hs)

theorem Routine.intervalLaw (h : Routine p s t) (hs : IntervalLaw s) : IntervalLaw t := by
  induction h with
  | same h => rw [IntervalLaw, dir_of_net h]; exact hs
  | hand hb h => obtain ⟨q, rfl⟩ := handFrame_eq h; exact hs
  | place s => rw [IntervalLaw, (placeBeacon_shelf s).2.2]; exact hs
  | timer => exact hs
  | shelf h => exact h.interval hs
  | near => exact hs
  | trans _ _ ih1 ih2 => exact ih2 (ih1 hs)

/-- A routine step leaves every entry refreshed within three of its intervals, where it was so. -/
theorem Routine.fresh (h : Routine p s t) (hp : p) (hd : DirectoryLaw s) (hs : Fresh s) : Fresh t := by
  induction h with
  | same h => rw [Fresh, dir_of_net h]; exact hs
  | hand hb h => obtain ⟨q, rfl⟩ := handFrame_eq h; exact hs
  | place s => rw [Fresh, (placeBeacon_shelf s).1]; exact hs
  | timer => exact hs
  | shelf h => exact h.fresh hs hp hd
  | near => exact hs
  | trans h1 _ ih1 ih2 => exact ih2 (h1.directoryLaw hp hd) (ih1 hd hs)

end Sys2Proof.Machine
end

section
/-! SUPPORT. The requests, the frames taken and the timers' expiries that are routine for the link and the directory. -/

namespace Sys2Proof.Machine

variable {p : Prop} {s : State}

/-! ## Requests -/

theorem RefusedIn.routine {tip : Bool} {r : Result} (h : RefusedIn tip s r) : Routine p s r.1 := by
  obtain ⟨k, -, ⟨-, e⟩ | ⟨-, e⟩ | ⟨-, -, e⟩⟩ := h <;> rw [e] <;> exact .same rfl

theorem takeDock_routine (d : Docking) : Routine p s (takeDock d s) := by
  have h : netOf (dockTimed d s) = netOf s := by rw [dockTimed_eq]; rfl
  have hw : Routine p s (dockWarned d s) := ((beaconedChange_routine (dockTimed d s)).after h).thenSame rfl
  rw [takeDock_eq]
  exact hw.trans (checkAutoclose_routine _)

theorem dockBody_routine (d : DockParams) : Routine p s (dockBody d s).1 := by
  rcases dockBody_cases d s with h | ⟨d, rd, -, -, e⟩
  · exact h.routine
  · rw [e]; exact takeDock_routine d

theorem declareBody_routine (label depot mass : Nat) : Routine p s (declareBody label depot mass s).1 := by
  rcases declareBody_cases label depot mass s with h | ⟨d, rd, -, -, -, -, e⟩
  · exact h.routine
  · rw [e]; exact .same rfl

theorem tipStartBody_routine (mode : TipModeArg) : Routine p s (tipStartBody mode s).1 := by
  rcases tipStartBody_cases mode s with h | ⟨rd, -, e | ⟨n, -, e⟩⟩
  · exact h.routine
  · rw [e]; exact .same rfl
  · rw [e]; exact .same rfl

theorem terminateRun_routine (s : State) (reason : TipReason) (emptied : Bool) :
    Routine p s (terminateRun reason emptied s) := by
  rw [terminateRun_eq]
  exact (endRunGroups_routine s).thenSame rfl

theorem tipEndBody_routine : Routine p s (tipEndBody s).1 := by
  rcases tipEndBody_cases s with h | ⟨rd, e⟩
  · exact h.routine
  · rw [e]; exact terminateRun_routine _ _ _

theorem countTip_routine (s : State) (x : Tipped) : Routine p s (countTip x s) := by
  rw [countTip_eq]
  exact .ite (fun _ => (terminateRun_routine _ _ _).after rfl) fun _ =>
    .ite (fun _ => (terminateRun_routine _ _ _).after rfl) fun _ => .same rfl

theorem takeOff_net (x : Tipped) (s : State) : netOf (takeOff x s) = netOf s := by
  unfold takeOff
  split
  · rfl
  · split <;> rfl

theorem routeToLane_routine (s : State) (x : Tipped) (rank : Nat) : Routine p s (routeToLane x rank s) := by
  refine Routine.trans ?_ (settle_routine _)
  exact (announce_routine _ _).after rfl

theorem tipOffBody_routine (label : Nat) (depot mass : Option Nat) :
    Routine p s (tipOffBody label depot mass s).1 := by
  rcases tipOffBody_cases label depot mass s with h | ⟨x, -, -, e⟩
  · exact h.routine
  rw [e]
  rcases tipPallet_cases x s with h | ⟨rd, ⟨r, e⟩ | e⟩
  · exact RefusedIn.routine (tip := false) h
  · rw [e]
    exact ((routeToLane_routine _ x r).after (takeOff_net x s)).trans (countTip_routine _ x)
  · rw [e]
    refine Routine.trans ?_ (countTip_routine _ x)
    exact (selectTarget_routine (addEntry x.label x.depot x.mass (takeOff x s)) true x.label).after (takeOff_net x s)

theorem loadBody_routine (label : Nat) : Routine p s (loadBody label s).1 := by
  rcases loadBody_cases label s with h | ⟨x, rd, -, -, -, -, e⟩
  · exact h.routine
  · rw [e]
    refine Routine.trans ?_ (settle_routine _)
    exact (recomputeUrgency_routine _).after rfl

theorem unloadBody_routine : Routine p s (unloadBody s).1 := by
  rcases unloadBody_cases s with h | ⟨x, rd, -, -, e⟩
  · exact h.routine
  · rw [e]
    refine Routine.trans ?_ (settle_routine _)
    exact (recomputeUrgency_routine _).after rfl

theorem arriveHeld_routine (h : Hold) (depot rank mass : Nat) : Routine p s (arriveHeld h depot rank mass s).1 := by
  refine Routine.trans ?_ (holdGone_routine _)
  refine Routine.trans ?_ (settle_routine _)
  exact (askReceipt_routine _ _ _).after rfl

theorem arriveUnannounced_routine (label depot rank mass : Nat) (origin : Option Nat) :
    Routine p s (arriveUnannounced label depot rank mass origin s).1 := by
  unfold arriveUnannounced
  split
  · exact .refl s
  · exact .refl s
  · refine Routine.trans ?_ (settle_routine _)
    refine Routine.trans ?_ (askReceipt_routine _ _ _)
    exact (announce_routine _ _).after rfl

theorem arriveBody_routine (label depot mass : Nat) (origin : Option Nat) :
    Routine p s (arriveBody label depot mass origin s).1 := by
  rcases arriveBody_cases label depot mass origin s with h | ⟨rank, -, -, -, ⟨h, -, -, e⟩ | ⟨-, e⟩⟩
  · exact h.routine
  · rw [e]; exact arriveHeld_routine h _ _ _
  · rw [e]; exact arriveUnannounced_routine _ _ _ _ _

theorem abandonLane_net (lane : List LaneEntry) (s : State) : netOf (abandonLane lane s) = netOf s :=
  foldl_keep netOf (fun t (e : LaneEntry) => addEntry e.label e.depot e.mass t) (fun _ _ => rfl) lane s

theorem takeDepart_routine (abandon : Bool) : Routine p s (takeDepart abandon s) := by
  refine Routine.trans ?_ (Routine.foldl (fun x (e : LaneEntry) => selectTarget_routine x true e.label) _ _)
  refine Routine.trans ?_ ((beaconedChange_routine _).after ((abandonLane_net _ _).trans rfl :))
  exact .ite (fun _ => terminateRun_routine _ _ _) fun _ => .refl s

theorem departBody_routine (abandon : Bool) : Routine p s (departBody abandon s).1 := by
  rcases departBody_cases abandon s with h | ⟨rd, -, e⟩
  · exact h.routine
  · rw [e]; exact takeDepart_routine abandon

theorem withdrawBody_routine (label : Nat) : Routine p s (withdrawBody label s).1 := by
  unfold withdrawBody
  split
  · exact .refl s
  split
  · exact .refl s
  split
  · exact removeEntry_routine s label
  split
  · exact .refl s
  · next h => exact (Routine.hand rfl h).trans (removeEntry_routine _ label)

theorem intakeBody_routine {take : State → State} (h : Routine p s (take s)) : Routine p s (intakeBody take s).1 := by
  unfold intakeBody
  split
  · exact .refl s
  · exact h

theorem takeHalt_routine : Routine p s (takeHalt s) :=
  .ite (fun _ => .refl s) fun _ => (handFree_routine _).after rfl

theorem takeResume_routine : Routine p s (takeResume s) :=
  .ite (fun _ => .ite (fun _ => (beaconedChange_routine _).after rfl) fun _ => .same rfl) fun _ => .refl s

theorem closeBody_routine : Routine p s (closeBody s).1 := by
  unfold closeBody
  split
  · exact .refl s
  split
  · exact .refl s
  split
  · exact .refl s
  · exact .ite (fun _ => startCall_routine s) fun _ => .refl s

theorem takeReopen_routine : Routine p s (takeReopen s) := by
  have h : Routine p s (settleReturn (returnToOpen s)) := (returnToOpen_routine s).trans (settleReturn_routine _)
  unfold takeReopen
  split
  · exact h
  · exact h
  · exact .same rfl
  · exact .refl s

theorem reopenBody_routine : Routine p s (reopenBody s).1 := by
  unfold reopenBody
  split
  · exact .refl s
  split
  · exact .refl s
  · exact takeReopen_routine

theorem setCutoffBody_routine (cutoff : Nat) : Routine p s (setCutoffBody cutoff s).1 := by
  rcases setCutoffBody_cases cutoff s with h | ⟨d, rd, -, -, e⟩
  · exact h.routine
  · rw [e]
    exact (recomputeM_routine { s with docking := some { d with cutoff := cutoff } }).after rfl

theorem setExpectedBody_routine (expected : Nat) : Routine p s (setExpectedBody expected s).1 := by
  rcases setExpectedBody_cases expected s with h | ⟨d, rd, -, e⟩
  · exact h.routine
  · rw [e]
    refine Routine.trans ?_ (settle_routine _)
    exact (recomputeUrgency_routine _).after rfl

theorem setClockBody_routine (minute : Option Nat) : Routine p s (setClockBody minute s).1 := by
  rcases setClockBody_cases minute s with h | ⟨k, rd, -, e⟩
  · exact h.routine
  · rw [e]; exact (recomputeM_routine _).after rfl

theorem setNoticesBody_routine (mask : FlagWord) (mode : Option DeclineMode) :
    Routine p s (setNoticesBody mask mode s).1 := by
  unfold setNoticesBody
  split
  · exact .refl s
  split
  · exact .refl s
  · exact .same rfl

theorem readDeckBody_routine (position : Nat) : Routine p s (readDeckBody position s).1 := by
  unfold readDeckBody
  split
  · exact .refl s
  · exact .same rfl

/-! ## Frames taken -/

theorem evalItem_routine (origin : Nat) (acc : State × List AnswerItem) (i : OfferItem) :
    Routine p acc.1 (evalItem origin acc i).1 := by
  rcases evalItem_cases origin acc i with e | ⟨h, -, e⟩ <;> rw [e] <;> exact .same rfl

theorem noteGroup_net (m : OfferMsg) (s : State) : netOf (noteGroup m s) = netOf s := by
  rcases noteGroup_cases (s := s) m with e | ⟨-, e⟩
  · rw [e]
  · rw [e]; rfl

theorem answerOffer_routine (s : State) (m : OfferMsg) (items : List AnswerItem) :
    Routine p s (answerOffer m items s) := .ite (fun _ => .refl s) fun _ => handOrDrop_routine s rfl

theorem evalOffer_routine (m : OfferMsg) : Routine p s (evalOffer m s) := by
  refine Routine.trans ?_ (settle_routine _)
  refine Routine.trans ?_ (announce_routine _ s)
  exact ((Routine.foldlWith (evalItem_routine m.origin) m.items (s, [])).trans (answerOffer_routine _ m _)).thenSame
    (noteGroup_net m _)

theorem takeOffer_routine (m : OfferMsg) : Routine p s (takeOffer m s) :=
  .ite (fun _ => evalOffer_routine m) fun _ => .refl s

theorem declineCurrent_net (bay label : Nat) (v : Verdict) (s : State) :
    netOf (declineCurrent bay label v s) = netOf s := by
  unfold declineCurrent
  dsimp only
  split <;> rfl

theorem answerItem_routine (bay : Nat) (acc : State × List Nat) (i : AnswerItem) :
    Routine p acc.1 (answerItem bay acc i).1 := by
  unfold answerItem
  split
  · exact .refl _
  split
  · exact .refl _
  dsimp only
  split
  · exact .same rfl
  · exact .same (declineCurrent_net _ _ _ _)
  · exact handOrDrop_routine _ rfl
  · exact .refl _

theorem takeAnswer_routine (m : AnswerMsg) : Routine p s (takeAnswer m s) :=
  .ite (fun _ => (Routine.foldlWith (answerItem_routine m.target) m.items (s, [])).trans (reselect_routine _ _ _))
    fun _ => .refl s

theorem unname_net (label : Nat) (s : State) : netOf (unname label s) = netOf s := by
  unfold unname
  split <;> rfl

theorem takeRelease_routine (m : ReleaseMsg) : Routine p s (takeRelease m s) := by
  refine .ite (fun _ => ?_) fun _ => .refl s
  split
  · refine .ite (fun _ => ?_) fun _ => .refl s
    refine Routine.trans ?_ (holdGone_routine _)
    refine Routine.trans ?_ (settle_routine _)
    exact (removeHold_routine _ _).after (unname_net _ s)
  · exact .ite (fun _ => .same rfl) fun _ => .refl s

theorem takeReceipt_routine (m : ReceiptMsg) : Routine p s (takeReceipt m s) :=
  .ite (fun _ => .ite (fun _ => (removeEntry_routine s _).thenSame rfl) fun _ => .ite (fun _ => .same rfl) fun _ => .refl s)
    fun _ => .refl s

theorem nameAccepted_routine (m : CallMsg) : Routine p s (nameAccepted m s) :=
  .foldl (fun t _ => handOrDrop_routine t rfl) _ s

theorem takeCall_routine (m : CallMsg) : Routine p s (takeCall m s) :=
  (nameAccepted_routine m).trans (reselect_routine _ _ _)

theorem takeHold_routine (m : HoldMsg) : Routine p s (takeHold m s) := by
  refine .ite (fun _ => ?_) fun _ => .refl s
  split
  · exact .same rfl
  · exact reconcileNamed_routine s _
  · exact .refl s

theorem forgetOrigin_routine (s : State) (bay : Nat) : Routine p s (forgetOrigin bay s) :=
  (settle_routine _).after rfl

theorem takeDone_routine (m : DoneMsg) : Routine p s (takeDone m s) :=
  (applyDone_routine s m.bay []).trans (forgetOrigin_routine _ m.bay)

/-! ## The directory's entries -/

theorem DirEntry.ok.interval_ge {e : DirEntry} (h : e.ok) : 4 ≤ e.interval := by
  obtain ⟨-, -, -, -, -, -, -, hi, -⟩ := h
  exact hi

theorem DirEntry.ok.stamp_le {e : DirEntry} (h : e.ok) : e.stamp ≤ 4294967295 := by
  obtain ⟨-, -, -, -, -, -, -, -, -, hs, -⟩ := h
  exact hs

theorem DirEntry.ok.mark_le {e : DirEntry} (h : e.ok) : ∀ n ∈ e.unreachable, n ≤ 60 := by
  obtain ⟨-, -, -, -, -, -, -, -, -, -, hu, -⟩ := h
  exact hu

theorem mem_putEntry {e x : DirEntry} {l : List DirEntry} (h : x ∈ putEntry e l) : x = e ∨ x ∈ l := by
  induction l with
  | nil => exact .inl (List.mem_singleton.1 h)
  | cons y l ih =>
    rw [putEntry] at h
    split at h
    · exact List.mem_cons.1 h
    split at h
    · exact (List.mem_cons.1 h).imp_right (List.mem_cons_of_mem _)
    · rcases List.mem_cons.1 h with rfl | h
      · exact .inr List.mem_cons_self
      · exact (ih h).imp_right (List.mem_cons_of_mem _)

/-- An entry put in the directory leaves it in bay order (R87). -/
theorem putEntry_sorted {e : DirEntry} {l : List DirEntry} (h : l.Pairwise (fun a b => a.bay < b.bay)) :
    (putEntry e l).Pairwise (fun a b => a.bay < b.bay) := by
  induction l with
  | nil => exact List.pairwise_singleton _ _
  | cons y l ih =>
    obtain ⟨hy, hl⟩ := List.pairwise_cons.1 h
    rw [putEntry]
    split
    · next hlt =>
      refine List.pairwise_cons.2 ⟨fun x hx => ?_, h⟩
      rcases List.mem_cons.1 hx with rfl | hx
      · exact hlt
      · exact hlt.trans (hy x hx)
    split
    · next heq => exact List.pairwise_cons.2 ⟨fun x hx => heq ▸ hy x hx, hl⟩
    · refine List.pairwise_cons.2 ⟨fun x hx => ?_, ih hl⟩
      rcases mem_putEntry hx with rfl | hx
      · omega
      · exact hy x hx

/-- An entry written into the directory is routine where it is a good one, refreshed now. -/
theorem storeEntry_routine {e : DirEntry} (h : p → DirectoryLaw s → (e.bay ≠ s.straps.bay ∧ e.ok) ∧ e.since = 0) :
    Routine p s (storeEntry e s) := by
  refine .shelf ⟨rfl, fun hp hd => ⟨putEntry_sorted hd.1, hd.2.1, fun x hx => ?_⟩, id, fun hf hp hd x hx => ?_⟩
  · rcases mem_putEntry hx with rfl | hx
    · exact (h hp hd).1
    · exact hd.2.2 x hx
  · rcases mem_putEntry hx with rfl | hx
    · obtain ⟨⟨-, hok⟩, hz⟩ := h hp hd
      have := hok.interval_ge
      omega
    · exact hf x hx

theorem advanceCount_routine (s : State) : Routine p s (advanceCount s) := by
  have hle : nextCount s.dir.changes ≤ 4294967295 := by
    unfold nextCount Config.changeLimit
    split <;> omega
  have h : Routine p s (setDir { s.dir with changes := nextCount s.dir.changes } s) :=
    .shelf ⟨rfl, fun _ hd => ⟨hd.1, hle, hd.2.2⟩, id, fun hf _ _ => hf⟩
  exact .ite (fun _ => h.thenSame rfl) fun _ => h

theorem beaconEvent_routine (m : BeaconMsg) (b : BayState) (d : Option DepState) (old : Option DirEntry)
    (parked : List Nat) (s : State) : Routine p s (beaconEvent m b d old parked s) := by
  unfold beaconEvent
  split
  · exact .ite (fun _ => applyDone_routine s _ _) fun _ => reselect_routine s _ _
  · exact .ite (fun _ => applyDone_routine s _ _) fun _ => .ite (fun _ => reselect_routine s _ _) fun _ => .refl s

/-- A sender as the framing lets it through, whose urgency fits its byte. -/
abbrev FairBeacon (m : BeaconMsg) (s : State) : Prop :=
  1 ≤ m.bay ∧ m.bay ≤ 60 ∧ m.bay ≠ s.straps.bay ∧ m.urgency ≤ 255

/-- A sound beacon makes an entry in the ranges of R87. -/
theorem entryOfBeacon_ok {m : BeaconMsg} {b : BayState} {d : Option DepState} {stamp : Nat} {mark : Option Nat}
    (hm : FairBeacon m s) (hsound : beaconSound m b d = true) (hstamp : stamp ≤ 4294967295)
    (hmark : ∀ n ∈ mark, n ≤ 60) : (entryOfBeacon m b d stamp mark).ok := by
  obtain ⟨h1, h60, -, hu⟩ := hm
  simp only [beaconSound, Bool.and_eq_true, decide_eq_true_eq, beq_iff_eq] at hsound
  obtain ⟨⟨hdrops, hmin, hfree, hi4, hi64⟩, hvac⟩ := hsound
  refine ⟨h1, h60, hdrops, hmin, Nat.zero_le _, hu, hfree, hi4, hi64, hstamp, hmark, ?_⟩
  cases b <;> cases d <;> simp_all [entryOfBeacon]

end Sys2Proof.Machine
end

section
/-! SUPPORT. The beacon taken, the timers' expiries and the minute boundary, as routine steps. -/

namespace Sys2Proof.Machine

variable {p : Prop} {s : State}

/-! ## The beacon taken -/

theorem advanceCount_entries (s : State) : (advanceCount s).dir.entries = s.dir.entries := by
  unfold advanceCount
  dsimp only
  split <;> rfl

theorem advanceCount_straps (s : State) : (advanceCount s).straps = s.straps := (advanceCount_routine (p := True) s).straps

theorem noteBeacon_routine {m : BeaconMsg} {b : BayState} {d : Option DepState} (hm : p → FairBeacon m s)
    (hsound : beaconSound m b d = true) : Routine p s (noteBeacon m b d s) := by
  have hcount : Routine p s (advanceCount s) := advanceCount_routine s
  have hbay (hp : p) : m.bay ≠ (advanceCount s).straps.bay := by
    rw [advanceCount_straps]; exact (hm hp).2.2.1
  unfold noteBeacon
  dsimp only
  split
  · refine Routine.trans ?_ (beaconEvent_routine _ _ _ _ _ _)
    exact hcount.trans (storeEntry_routine fun hp hd => ⟨⟨hbay hp, entryOfBeacon_ok (hm hp) hsound hd.2.1 nofun⟩, rfl⟩)
  · next e he =>
    have hmem : e ∈ s.dir.entries := List.mem_of_find?_eq_some he
    refine .ite (fun _ => ?_) fun _ => ?_
    · refine Routine.trans ?_ (beaconEvent_routine _ _ _ _ _ _)
      refine hcount.trans (storeEntry_routine fun hp hd => ⟨⟨hbay hp, entryOfBeacon_ok (hm hp) hsound hd.2.1 ?_⟩, rfl⟩)
      exact (hd.2.2 e (by rw [advanceCount_entries]; exact hmem)).2.mark_le
    · refine Routine.trans ?_ (beaconEvent_routine _ _ _ _ _ _)
      refine storeEntry_routine fun hp hd => ⟨⟨(hm hp).2.2.1, ?_⟩, rfl⟩
      have hok : e.ok := (hd.2.2 e hmem).2
      exact entryOfBeacon_ok (hm hp) hsound hok.stamp_le hok.mark_le

theorem takeBeacon_routine {m : BeaconMsg} (hm : p → FairBeacon m s) : Routine p s (takeBeacon m s) := by
  have h : Routine p s (match beaconStates m with
      | some (b, d) => if beaconSound m b d then noteBeacon m b d s else s
      | none => s) := by
    split
    · exact .ite (fun hsound => noteBeacon_routine hm hsound) fun _ => .refl s
    · exact .refl s
  exact .ite (fun _ => h.trans (forgetOrigin_routine _ _)) fun _ => h

/-! ## The floor link's own steps -/

theorem lineActive_routine (s : State) (drove : Bool) : Routine p s (lineActive drove s) := .near rfl

theorem placeWaiting_routine (s : State) : Routine p s (placeWaiting s) := by
  have h : Routine p s (setLink { s.link with beaconWaiting := false } s) := .near rfl
  exact .ite (fun _ => h.trans (.place _)) fun _ => .refl s

theorem passTime_routine (us : Nat) : Routine p s (passTime us s) := by
  have h : Routine p s (setLink { s.link with
      quiet := if s.link.line = .listening then some (quietAfter us s.link.quiet) else s.link.quiet } s) := .near rfl
  exact h.thenSame rfl

/-! ## Expiries -/

/-- A change of every entry that keeps its bay, its ranges and its freshness is routine. -/
theorem mapEntries_routine {f : DirEntry → DirEntry} (s : State) (hb : ∀ e, (f e).bay = e.bay) (hok : ∀ e, e.ok → (f e).ok)
    (hf : ∀ e, e.since < 3 * e.interval → (f e).since < 3 * (f e).interval) :
    Routine p s (setDir { s.dir with entries := s.dir.entries.map f } s) := by
  refine .shelf ⟨rfl, fun _ hd => ⟨?_, hd.2.1, fun x hx => ?_⟩, id, fun hs _ _ x hx => ?_⟩
  · exact List.pairwise_map.2 (hd.1.imp fun h => by rw [hb, hb]; exact h)
  · obtain ⟨e, he, rfl⟩ := List.mem_map.1 hx
    rw [hb]
    exact ⟨(hd.2.2 e he).1, hok e (hd.2.2 e he).2⟩
  · obtain ⟨e, he, rfl⟩ := List.mem_map.1 hx
    exact hf e (hs e he)

theorem setUnreachable_routine (s : State) (bay : Nat) {mark : Option Nat} (hm : ∀ n ∈ mark, n ≤ 60) :
    Routine p s (setUnreachable bay mark s) := by
  refine mapEntries_routine s (fun e => ?_) (fun e he => ?_) fun e he => ?_
  · split <;> rfl
  · split
    · obtain ⟨h1, h2, h3, h4, h5, h6, h7, h8, h9, h10, -, h12⟩ := he
      exact ⟨h1, h2, h3, h4, h5, h6, h7, h8, h9, h10, hm, h12⟩
    · exact he
  · split <;> exact he

theorem expireUnreachable_routine (s : State) (bay : Nat) : Routine p s (expireUnreachable bay s) := by
  unfold expireUnreachable
  split
  · exact .refl s
  · exact .ite (fun _ => (setUnreachable_routine s bay (by simp)).trans (reselect_routine _ _ _)) fun _ => .refl s

/-- Entries taken out of the directory are routine. -/
theorem filterEntries_routine (s : State) (c : DirEntry → Bool) :
    Routine p s (setDir { s.dir with entries := s.dir.entries.filter c } s) :=
  .shelf ⟨rfl, fun _ hd => ⟨hd.1.sublist List.filter_sublist, hd.2.1, fun x hx => hd.2.2 x (List.mem_filter.1 hx).1⟩, id,
    fun hs _ _ x hx => hs x (List.mem_filter.1 hx).1⟩

theorem expireEntry_routine (s : State) (bay : Nat) : Routine p s (expireEntry bay s) := by
  unfold expireEntry
  split
  · exact .refl s
  · exact .ite (fun _ => (filterEntries_routine s _).trans (reselect_routine _ _ _)) fun _ => .refl s

/-- The interval of the own beacon changed to another of R86 is routine. -/
theorem setInterval_routine (s : State) {n : Nat} (hn : s.dir.interval ∈ [4, 8, 16, 32, 64] → n ∈ [4, 8, 16, 32, 64]) :
    Routine p s (setDir { s.dir with interval := n } s) :=
  .shelf ⟨rfl, fun _ => id, hn, fun hs _ _ => hs⟩

/-- A beacon that is not placed leaves everything as it was (R79). -/
theorem placeBeacon_dropped (h : (placeBeacon s).2 = false) : (placeBeacon s).1 = s := by
  unfold placeBeacon at h ⊢
  split
  · next f hf => rw [hf] at h; dsimp only at h; split at h <;> cases h
  · next hf =>
    rw [hf] at h
    dsimp only at h
    split
    · next hr => rw [if_pos hr] at h; cases h
    · rfl

theorem expireBeacon_routine (s : State) : Routine p s (expireBeacon s) := by
  unfold expireBeacon
  refine .ite (fun hj => ?_) fun _ => .refl s
  dsimp only
  have hn : s.dir.interval ∈ [4, 8, 16, 32, 64] →
      (if contentDiffers s = true then 4 else min 64 (2 * s.dir.interval)) ∈ [4, 8, 16, 32, 64] := by
    simp only [List.mem_cons, List.not_mem_nil, or_false]
    split <;> omega
  generalize (if contentDiffers s = true then 4 else min 64 (2 * s.dir.interval)) = n at hn ⊢
  have h : Routine p s (placeBeacon (setDir { s.dir with interval := n } s)).1 :=
    (setInterval_routine s hn).trans (.place _)
  refine .ite (fun _ => h.trans (.timer n _)) fun hr => ?_
  rw [placeBeacon_dropped (by simpa using hr)]
  exact (Routine.timer s.dir.interval s).thenSame (by simp [restartBeaconTimer, hj.1]; rfl)

theorem tidyOpen_routine (g : OpenGroup) (s : State) : Routine p s (tidyGroups (closeOpen g s)) :=
  (tidyGroups_routine _).after rfl

theorem expireHold_routine (s : State) (target : Nat) : Routine p s (expireHold target s) := by
  unfold expireHold
  split
  · exact .refl s
  · exact .ite (fun _ => tidyOpen_routine _ s) fun _ => .refl s

theorem expireAnswer_routine (s : State) (target group : Nat) : Routine p s (expireAnswer target group s) := by
  unfold expireAnswer
  refine .ite (fun _ => .refl s) fun _ => .ite (fun _ => ?_) fun _ => ?_
  · exact (setUnreachable_routine s target (by simp [Config.unreachableSeconds])).trans (reselect_routine _ _ _)
  · exact (buildReady_routine _).after rfl

theorem expireTravel_routine (s : State) (label : Nat) : Routine p s (expireTravel label s) := by
  unfold expireTravel
  split
  · exact .refl s
  split
  · exact .ite (fun _ => .same rfl) fun _ => .same rfl
  · exact .refl s

theorem expireWindow_routine (s : State) : Routine p s (expireWindow s) :=
  .ite (fun _ => endWindow_routine s) fun _ => .refl s

theorem expireWait_routine (s : State) : Routine p s (expireWait s) :=
  .ite (fun _ => enterClosed_routine s _) fun _ => .refl s

theorem countMinutes_routine (s : State) : Routine p s (countMinutes s) := by
  have h : Routine p s (setDir { s.dir with entries := s.dir.entries.map ageMinutes } s) := by
    refine mapEntries_routine s (fun _ => rfl) (fun e he => ?_) fun _ h => h
    obtain ⟨h1, h2, h3, h4, h⟩ := he
    exact ⟨h1, h2, h3, (Nat.sub_le _ _).trans h4, h⟩
  exact .ite (fun _ => h.thenSame rfl) fun _ => h.thenSame rfl

theorem minuteBoundary_routine (s : State) : Routine p s (minuteBoundary s) := by
  rw [minuteBoundary_eq]
  refine Routine.trans ?_ (countMinutes_routine _)
  refine Routine.trans ?_ (recomputeUrgency_routine _)
  exact (recomputeM_routine _).after rfl

theorem shutterDown_routine (s : State) : Routine p s (shutterDown s) :=
  .ite (fun _ => .refl s) fun _ => .ite (fun _ => (autoStart_routine _ _).after rfl) fun _ => .same rfl

theorem shutterUp_routine (s : State) : Routine p s (shutterUp s) := by
  refine .ite (fun _ => ?_) fun _ => .refl s
  dsimp only
  split
  · exact (abandonCall_routine _ _).after rfl
  · exact (abandonCall_routine _ _).after rfl
  · exact .same rfl
  · exact .same rfl

end Sys2Proof.Machine
end

section
/-! SUPPORT. The laws of the transmit queue, of the line state and of the directory, each kept where it is asked for, by
routine steps and by the floor link's own operations. -/

namespace Sys2Proof.Machine

variable {a b c : Prop} {w : List Instr} {s t : State}

/-! ## The laws together -/

/-- The laws of the line state and of its counts, the beacon timer aside (R62, R65, R68, R75, R77). -/
def WireLaw (p : Straps) (l : Link) : Prop :=
  ((l.line = .detached ↔ strapValid p = false) ∧ l.badStrap = !strapValid p
    ∧ (l.rejoin.isSome = true ↔ l.line = .faulted ∧ l.duplicate = false)
    ∧ (l.duplicate = true → l.line = .faulted) ∧ (l.held = true → l.line = .joined))
  ∧ l.failures ≤ 16 ∧ l.errors ≤ 65535 ∧ l.fails ≤ 255 ∧ (l.line = .listening → l.valid < 3)

theorem lineLaws_iff : LinkLaw s ∧ CountLaw s ↔ WireLaw s.straps s.link ∧ TimerLaw s := by
  unfold LinkLaw CountLaw WireLaw TimerLaw
  tauto

/-- The strap's mark and the counts of the link (R62, R65). -/
abbrev Counted (s : State) : Prop :=
  s.link.badStrap = (!strapValid s.straps) ∧ s.link.failures ≤ 16 ∧ s.link.errors ≤ 65535 ∧ s.link.fails ≤ 255

/-- The laws of the queue where `a` holds, of the line state where `b` holds, and of the directory where `c` holds, with
the commands that wait. -/
structure Laws (a b c : Prop) (w : List Instr) (s : State) : Prop where
  queue : a → QueueOk s.link.queue ∧ OnLineLaw s
  line : b → WireLaw s.straps s.link ∧ TimerLaw s
  shelf : c → DirectoryLaw s ∧ IntervalLaw s
  pending : s.pending = w

/-- What of these laws stands between two line states, neither of them JOINED: no frame is on the line and no beacon timer
runs, and the rejoin timer, the duplicate mark and the frames counted are not looked at. -/
structure Between (a b c : Prop) (w : List Instr) (s : State) : Prop where
  queue : a → QueueOk s.link.queue ∧ Unmarked s.link.queue
  line : b → Counted s ∧ s.link.held = false ∧ s.dir.timer.isSome = false
  left : s.link.line ≠ .joined
  shelf : c → DirectoryLaw s ∧ IntervalLaw s
  pending : s.pending = w

/-! ## Routine steps -/

theorem Routine.laws (h : Routine c s t) (hs : Laws a b c w s) : Laws a b c w t where
  queue ha := ⟨h.queueOk (hs.queue ha).1, fun hl => h.unmarked ((hs.queue ha).2 (by rwa [h.line] at hl))⟩
  line hb := by
    obtain ⟨hw, ht⟩ := hs.line hb
    refine ⟨?_, h.timerLaw ht⟩
    have hwire : WireLaw t.straps (wireOf t.link) ↔ WireLaw s.straps (wireOf s.link) := by rw [h.wire, h.straps]
    exact hwire.2 hw
  shelf hc := ⟨h.directoryLaw hc (hs.shelf hc).1, h.intervalLaw (hs.shelf hc).2⟩
  pending := h.pending.trans hs.pending

theorem Routine.counted {p : Prop} (h : Routine p s t) (hs : Counted s) : Counted t := by
  have hiff (u : State) : Counted u ↔ ((wireOf u.link).badStrap = (!strapValid u.straps) ∧ (wireOf u.link).failures ≤ 16
    ∧ (wireOf u.link).errors ≤ 65535 ∧ (wireOf u.link).fails ≤ 255) := Iff.rfl
  rw [hiff, h.wire, h.straps]
  exact hs

theorem Routine.between (h : Routine c s t) (hs : Between a b c w s) : Between a b c w t where
  queue ha := ⟨h.queueOk (hs.queue ha).1, h.unmarked (hs.queue ha).2⟩
  line hb := by
    obtain ⟨hcount, hheld, htimer⟩ := hs.line hb
    have hne : t.link.line ≠ .joined := by rw [h.line]; exact hs.left
    have ht : TimerLaw t := h.timerLaw (by simp [TimerLaw, htimer, hs.left])
    exact ⟨h.counted hcount, (congrArg Link.held h.wire :).trans hheld, Bool.eq_false_iff.2 fun hsome => hne (ht.1 hsome)⟩
  left := by rw [h.line]; exact hs.left
  shelf hc := ⟨h.directoryLaw hc (hs.shelf hc).1, h.intervalLaw (hs.shelf hc).2⟩
  pending := h.pending.trans hs.pending

theorem Laws.same (hs : Laws a b c w s) (h : netOf t = netOf s) : Laws a b c w t := (Routine.same h).laws hs

/-- A change of the link's marks and counts keeps the laws where it keeps those of the line state. -/
theorem Laws.setLink (hs : Laws a b c w s) {l : Link} (hq : l.queue = s.link.queue) (hl : l.line = s.link.line)
    (hw : b → WireLaw s.straps s.link → WireLaw s.straps l) : Laws a b c w (setLink l s) where
  queue ha := by
    obtain ⟨h1, h2⟩ := hs.queue ha
    exact ⟨hq ▸ h1, fun hn => hq ▸ h2 (hl ▸ hn)⟩
  line hb := by
    obtain ⟨h1, h2⟩ := hs.line hb
    exact ⟨hw hb h1, h2.trans (hl ▸ Iff.rfl)⟩
  shelf := hs.shelf
  pending := hs.pending

/-- A queue put in the place of the present one keeps the laws where it is a good one. -/
theorem Laws.setQueue (hs : Laws a b c w s) {q : List Queued} (hq : QueueOk s.link.queue → QueueOk q)
    (hl : s.link.line ≠ .joined → Unmarked s.link.queue → Unmarked q) : Laws a b c w (setQueue q s) where
  queue ha := ⟨hq (hs.queue ha).1, fun hn => hl hn ((hs.queue ha).2 hn)⟩
  line := hs.line
  shelf := hs.shelf
  pending := hs.pending

/-! ## Frames heard badly -/

theorem countError_laws (hs : Laws a b c w s) : Laws a b c w (countError s) := by
  have h : Laws a b c w (setLink { s.link with errors := min 65535 (s.link.errors + 1) } s) := by
    refine hs.setLink rfl rfl fun _ hw => ?_
    obtain ⟨h1, h2, -, h3⟩ := hw
    exact ⟨h1, h2, min_le_left _ _, h3⟩
  unfold countError
  dsimp only
  split
  · exact (h.setLink (l := { s.link with errors := min 65535 (s.link.errors + 1), half := true }) rfl rfl
      fun _ => id).same rfl
  · exact h

theorem badFrame_laws (hs : Laws a b c w s) : Laws a b c w (badFrame s) :=
  (lineActive_routine _ _).laws (countError_laws hs)

/-! ## The present attempt -/

theorem lowCount_bodies (q : List Queued) :
    lowCount q = ((q.map (·.body)).filter (fun x => decide (2 ≤ x.kind.cls))).length := by
  rw [List.filter_map, List.length_map]; rfl

theorem beaconCount_bodies (q : List Queued) :
    beaconCount q = ((q.map (·.body)).filter (fun x => x.kind == .beacon)).length := by
  rw [List.filter_map, List.length_map]; rfl

/-- The limits and the order hang on the keys and the payloads, with one frame on the line at most. -/
theorem QueueOk.marks {q r : List Queued} (h : QueueOk q) (hk : r.map (·.key) = q.map (·.key))
    (hb : r.map (·.body) = q.map (·.body)) (ho : (r.filter (·.onLine)).length ≤ 1) : QueueOk r := by
  obtain ⟨hlen, hl, hbc, hs, -⟩ := h
  refine ⟨?_, ?_, ?_, ?_, ho⟩
  · have hlength : r.length = q.length := by simpa using congrArg List.length hb
    exact hlength.trans_le hlen
  · rwa [lowCount_bodies, hb, ← lowCount_bodies]
  · rwa [beaconCount_bodies, hb, ← beaconCount_bodies]
  · exact List.pairwise_map.1 (hk ▸ List.pairwise_map.2 hs)

theorem queueOk_offLine {q : List Queued} (h : QueueOk q) : QueueOk (offLine q) :=
  h.marks (by simp [offLine]) (by simp [offLine]) (by simp [offLine, List.filter_map, Function.comp_def])

theorem unmarked_offLine (q : List Queued) : Unmarked (offLine q) := by simp [Unmarked, offLine]

theorem endAttempt_laws (hs : Laws a b c w s) : Laws a b c w (endAttempt s) :=
  (placeWaiting_routine _).laws (hs.setQueue queueOk_offLine fun _ _ => unmarked_offLine _)

/-- Nothing is on the line once an attempt has ended. -/
theorem endAttempt_unmarked (s : State) : Unmarked (endAttempt s).link.queue :=
  (placeWaiting_routine (p := True) _).unmarked (unmarked_offLine s.link.queue)

theorem endAttempt_line (s : State) : (endAttempt s).link.line = s.link.line :=
  (placeWaiting_routine (p := True) (Machine.setQueue (offLine s.link.queue) s)).line

theorem queueOk_markHead {q : List Queued} (h : QueueOk q) (hu : q.find? (·.onLine) = none) : QueueOk (markHead q) := by
  cases q with
  | nil => exact h
  | cons f fs =>
    have hfs : fs.filter (·.onLine) = [] := List.filter_eq_nil_iff.2 fun g hg =>
      List.find?_eq_none.1 hu g (List.mem_cons_of_mem f hg)
    exact h.marks rfl rfl (by simp [markHead, hfs])

theorem startAttempt_laws (hs : Laws a b c w s) : Laws a b c w (startAttempt s) := by
  unfold startAttempt
  split
  · next h => exact hs.setQueue (fun hq => queueOk_markHead hq h.2) fun hn => absurd h.1 hn
  · exact hs

theorem contend_laws (key : Nat) (hs : Laws a b c w s) : Laws a b c w (contend key s) := by
  unfold contend
  split
  · exact hs
  split
  · exact endAttempt_laws hs
  · exact hs

theorem completeAttempt_laws (hs : Laws a b c w s) : Laws a b c w (completeAttempt s) := by
  unfold completeAttempt
  split
  · exact hs
  split
  · next f _ hj =>
    dsimp only
    have h : Laws a b c w (setLink { s.link with queue := s.link.queue.filter (fun g => !g.onLine), failures := 0 } s) := by
      refine ((hs.setQueue (q := s.link.queue.filter (fun g => !g.onLine)) (·.sublist List.filter_sublist)
        fun hn => absurd hj hn).setLink rfl rfl fun _ hw => ?_)
      obtain ⟨h1, -, h2⟩ := hw
      exact ⟨h1, Nat.zero_le _, h2⟩
    refine (offerRoom_routine _).laws ((placeWaiting_routine _).laws ?_)
    split
    · exact (completeOffer_routine _ _).laws h
    · exact h
  · exact hs

end Sys2Proof.Machine
end

section
/-! SUPPORT. The changes of the line state, the clock's second and the restarts, and the laws they keep. -/

namespace Sys2Proof.Machine

variable {a b c : Prop} {w : List Instr} {s t : State}

/-! ## Leaving and entering the line states -/

theorem Laws.counted (hs : Laws a b c w s) (hb : b) : Counted s := by
  obtain ⟨⟨⟨-, h1, -⟩, h3, h4, h5, -⟩, -⟩ := hs.line hb
  exact ⟨h1, h3, h4, h5⟩

/-- Off JOINED, the laws stand as they do between two line states. -/
theorem Laws.between (hs : Laws a b c w s) (hl : s.link.line ≠ .joined) : Between a b c w s where
  queue ha := ⟨(hs.queue ha).1, (hs.queue ha).2 hl⟩
  line hb := by
    obtain ⟨hw, ht⟩ := hs.line hb
    obtain ⟨⟨-, -, -, -, hheld⟩, -⟩ := hw
    exact ⟨hs.counted hb, Bool.eq_false_iff.2 fun h => hl (hheld h), Bool.eq_false_iff.2 fun h => hl (ht.1 h)⟩
  left := hl
  shelf := hs.shelf
  pending := hs.pending

/-- A departure from JOINED with no frame on the line leaves the laws as they stand between two line states (R67). -/
theorem between_leaveJoined {line : LineState} (hl : line ≠ .joined)
    (hq : a → QueueOk s.link.queue ∧ Unmarked s.link.queue) (hcount : b → Counted s)
    (hd : c → DirectoryLaw s ∧ IntervalLaw s) (hp : s.pending = w) : Between a b c w (leaveJoined line s) :=
  (linkLost_routine (parted line s)).between ⟨hq, fun hb => ⟨hcount hb, rfl, rfl⟩, hl, hd, hp⟩

theorem Laws.leaveJoined (hs : Laws a b c w s) (hu : a → Unmarked s.link.queue) {line : LineState} (hl : line ≠ .joined) :
    Between a b c w (leaveJoined line s) :=
  between_leaveJoined hl (fun ha => ⟨(hs.queue ha).1, hu ha⟩) hs.counted hs.shelf hs.pending

theorem leaveJoined_straps (line : LineState) (s : State) : (leaveJoined line s).straps = s.straps :=
  (linkLost_routine (p := True) (parted line s)).straps

theorem Between.startRejoin (hs : Between a b c w s) (hv : b → strapValid s.straps = true) :
    Laws a b c w (startRejoin s) where
  queue ha := ⟨(hs.queue ha).1, fun _ => (hs.queue ha).2⟩
  line hb := by
    obtain ⟨⟨h1, h3, h4, h5⟩, h2, h6⟩ := hs.line hb
    refine ⟨⟨⟨by simp [Machine.startRejoin, Machine.setLink, hv hb], h1, ?_, fun _ => rfl, ?_⟩, h3, h4, h5, nofun⟩, ?_⟩
    · cases hd : s.link.duplicate <;> simp [Machine.startRejoin, Machine.setLink, hd]
    · exact fun h => absurd (h2.symm.trans h) (by decide)
    · simp [TimerLaw, Machine.startRejoin, Machine.setLink, h6]
  shelf := hs.shelf
  pending := hs.pending

theorem Between.enterListening (hs : Between a b c w s) (quiet : Option Nat) (hv : b → strapValid s.straps = true)
    (hd : b → s.link.duplicate = false) : Laws a b c w (enterListening quiet s) where
  queue ha := ⟨(hs.queue ha).1, fun _ => (hs.queue ha).2⟩
  line hb := by
    obtain ⟨⟨h1, -, h4, h5⟩, h2, h6⟩ := hs.line hb
    refine ⟨⟨⟨by simp [Machine.enterListening, Machine.setLink, hv hb], h1, ?_, ?_, ?_⟩, Nat.zero_le _, h4, h5, fun _ => ?_⟩,
      ?_⟩
    · simp [Machine.enterListening, Machine.setLink]
    · exact fun h => absurd ((hd hb).symm.trans h) (by decide)
    · exact fun h => absurd (h2.symm.trans h) (by decide)
    · exact Nat.zero_lt_succ _
    · simp [TimerLaw, Machine.enterListening, Machine.setLink, h6]
  shelf := hs.shelf
  pending := hs.pending

/-- A change of the marks and counts that the laws between two line states do not look at. -/
theorem Between.setLink (hs : Between a b c w s) {l : Link} (hq : l.queue = s.link.queue) (hl : l.line = s.link.line)
    (hb : l.badStrap = s.link.badStrap) (hh : l.held = s.link.held)
    (hn : l.failures = s.link.failures ∧ l.errors = s.link.errors ∧ (s.link.fails ≤ 255 → l.fails ≤ 255)) :
    Between a b c w (setLink l s) where
  queue ha := by rw [Machine.setLink_link, hq]; exact hs.queue ha
  line hb' := by
    obtain ⟨⟨h1, h3, h4, h5⟩, h2, h6⟩ := hs.line hb'
    obtain ⟨n1, n2, n3⟩ := hn
    exact ⟨⟨hb.trans h1, n1.trans_le h3, n2.trans_le h4, n3 h5⟩, hh.trans h2, h6⟩
  left := by rw [Machine.setLink_link, hl]; exact hs.left
  shelf := hs.shelf
  pending := hs.pending

/-- The line state is valid wherever it is not DETACHED (R65). -/
theorem Laws.strapValid (hs : Laws a b c w s) (hl : s.link.line ≠ .detached) (hb : b) : strapValid s.straps = true := by
  obtain ⟨⟨⟨hd, -⟩, -⟩, -⟩ := hs.line hb
  cases h : Machine.strapValid s.straps with
  | true => rfl
  | false => exact absurd (hd.2 h) hl

/-! ## Faults -/

theorem thresholdFault_laws (hs : Laws a b c w s) (hu : Unmarked s.link.queue) (hl : s.link.line = .joined) :
    Laws a b c w (thresholdFault s) := by
  have h : Laws a b c w (countFail s) := by
    refine hs.setLink rfl rfl fun _ hw => ?_
    obtain ⟨h1, h2, h3, -, h4⟩ := hw
    exact ⟨h1, h2, h3, min_le_left _ _, h4⟩
  have hv : b → Machine.strapValid s.straps = true := hs.strapValid (by simp [hl])
  have ht : Laws a b c w (raise .linkDown (countFail s).link.fails (countFail s).link.queue.length (countFail s)) :=
    h.same rfl
  refine (ht.leaveJoined (fun _ => hu) (line := .faulted) nofun).startRejoin fun hb => ?_
  rw [leaveJoined_straps]
  exact hv hb

theorem failAttempt_laws (hs : Laws a b c w s) : Laws a b c w (failAttempt s) := by
  unfold failAttempt
  split
  · next hj =>
    have h : Laws a b c w (setLink { (endAttempt s).link with
        failures := min 16 ((endAttempt s).link.failures + 1) } (endAttempt s)) := by
      refine (endAttempt_laws hs).setLink rfl rfl fun _ hw => ?_
      obtain ⟨h1, -, h2⟩ := hw
      exact ⟨h1, min_le_left _ _, h2⟩
    dsimp only
    split
    · exact thresholdFault_laws h (endAttempt_unmarked s) ((endAttempt_line s).trans hj.1)
    · exact h
  · exact hs

theorem countFail_between (hs : Between a b c w s) : Between a b c w (countFail s) :=
  hs.setLink rfl rfl rfl rfl ⟨rfl, rfl, fun _ => min_le_left _ _⟩

/-- A duplicate bay heard where the station hears at all (R75). -/
theorem duplicateHeard_laws (kind : FrameKind) (hs : Laws a b c w s) (hl : s.link.line ≠ .detached) :
    Laws a b c w (duplicateHeard kind s) := by
  have hv : b → Machine.strapValid s.straps = true := hs.strapValid hl
  rcases duplicateHeard_cases kind s with ⟨hj, e⟩ | ⟨hj, e⟩ | ⟨hj, e⟩ | ⟨hj, -⟩
  · rw [e]
    have hcalm (u : State) : Routine c (Machine.setQueue (offLine u.link.queue) u) (endAttempt u) := placeWaiting_routine _
    have hend := hcalm (countFail (marked kind s))
    refine (between_leaveJoined (line := .faulted) nofun (fun ha => ⟨hend.queueOk (queueOk_offLine (hs.queue ha).1), endAttempt_unmarked _⟩)
      (fun hb => hend.counted ?_) (fun hc => ?_) (hend.pending.trans hs.pending)).startRejoin fun hb => ?_
    · obtain ⟨h1, h2, h3, -⟩ := hs.counted hb
      exact ⟨h1, h2, h3, min_le_left _ _⟩
    · exact ⟨hend.directoryLaw hc (hs.shelf hc).1, hend.intervalLaw (hs.shelf hc).2⟩
    · rw [leaveJoined_straps, hend.straps]; exact hv hb
  · rw [e]
    have h : Between a b c w (marked kind s) := by
      have h0 := (hs.between (by simp [hj])).setLink (l := { s.link with duplicate := true }) rfl rfl rfl rfl
        ⟨rfl, rfl, id⟩
      exact (raise_routine _ _ _ _).between h0
    exact (countFail_between h).startRejoin hv
  · rw [e]
    have h : Laws a b c w (Machine.setLink { s.link with duplicate := true, rejoin := none } s) := by
      refine hs.setLink rfl rfl fun _ hw => ?_
      obtain ⟨⟨h1, h2, -, -, h3⟩, h4⟩ := hw
      exact ⟨⟨h1, h2, by simp, fun _ => hj, h3⟩, h4⟩
    exact h.same rfl
  · exact absurd hj hl

/-! ## Joining and rejoining -/

/-- Entering JOINED from LISTENING, whatever the count of frames and the quiet timer then are (R67). -/
theorem enterJoined_laws (cause : JoinCause) (hs : Laws a b c w s) (hl : s.link.line = .listening) (n : Nat)
    (quiet : Option Nat) :
    Laws a b c w (enterJoined cause (Machine.setLink { s.link with valid := n, quiet := quiet } s)) := by
  have h (u : State) : Routine c u (releasePending (beaconedChange u)) :=
    (beaconedChange_routine u).trans (releasePending_routine _)
  have ht (u : State) : TimerLaw (releasePending (beaconedChange u)) :=
    (releasePending_routine (p := True) _).timerLaw (restartBeaconTimer_law _ _)
  have hu := h (raise .linkUp cause.code s.link.fails
    (Machine.setLink { s.link with line := .joined, valid := n, quiet := quiet } s))
  refine ⟨fun ha => ⟨hu.queueOk (hs.queue ha).1, fun hn => absurd hu.line hn⟩, fun hb => ⟨?_, ht _⟩,
    fun hc => ⟨hu.directoryLaw hc (hs.shelf hc).1, hu.intervalLaw (hs.shelf hc).2⟩, hu.pending.trans hs.pending⟩
  have hwire (v : State) : WireLaw v.straps v.link ↔ WireLaw v.straps (wireOf v.link) := Iff.rfl
  have hv : Machine.strapValid s.straps = true := hs.strapValid (by simp [hl]) hb
  obtain ⟨⟨⟨-, h1, h2, h3, -⟩, h4, h5, h6, -⟩, -⟩ := hs.line hb
  have h7 : s.link.rejoin.isSome = false := by simpa [hl] using h2
  have h8 : s.link.duplicate = false := by simpa [hl] using h3
  refine (hwire _).2 ?_
  rw [show wireOf (enterJoined cause (Machine.setLink { s.link with valid := n, quiet := quiet } s)).link = _ from hu.wire,
    show (enterJoined cause (Machine.setLink { s.link with valid := n, quiet := quiet } s)).straps = _ from hu.straps]
  show WireLaw s.straps (wireOf { s.link with line := .joined, valid := n, quiet := quiet })
  exact ⟨⟨by simp [wireOf, hv], h1, by simp [wireOf, h7], by simp [wireOf, h8], fun _ => rfl⟩, h4, h5, h6, nofun⟩

theorem countTaken_laws (hs : Laws a b c w s) : Laws a b c w (countTaken s) := by
  unfold countTaken
  split
  · next hl =>
    dsimp only
    split
    · exact enterJoined_laws .frames hs hl (s.link.valid + 1) s.link.quiet
    · next hn =>
      refine hs.setLink rfl rfl fun _ hw => ?_
      obtain ⟨h1, h2, h3, h4, -⟩ := hw
      exact ⟨h1, h2, h3, h4, fun _ => Nat.lt_of_not_le hn⟩
  · exact hs

theorem quietJoin_laws (hs : Laws a b c w s) : Laws a b c w (quietJoin s) := by
  unfold quietJoin
  split
  · next hl => exact enterJoined_laws .quiet hs hl s.link.valid (some Config.quietLimit)
  · exact hs

theorem expireRejoin_laws (hs : Laws a b c w s) : Laws a b c w (expireRejoin s) := by
  unfold expireRejoin
  split
  · next h =>
    obtain ⟨hl, hd, -⟩ := h
    exact (hs.between (by simp [hl])).enterListening _ (hs.strapValid (by simp [hl])) fun _ => hd
  · exact hs

theorem takeFrame_laws {key : Nat} {x : Body} {f : State → State} (hs : Laws a b c w s)
    (hf : framingOk key x = true → keyBay key ≠ s.straps.bay →
      Routine c (lineActive false s) (f (lineActive false s))) : Laws a b c w (takeFrame key x f s) := by
  unfold takeFrame
  split
  · exact hs
  next hheard =>
  have hl : s.link.line ≠ .detached := fun h => hheard (by simp [h])
  have hactive : Laws a b c w (lineActive false s) := (lineActive_routine s false).laws hs
  split
  · exact badFrame_laws hs
  next hok =>
  split
  · exact duplicateHeard_laws _ hactive hl
  next hbay =>
  exact countTaken_laws ((hf (by simpa using hok) hbay).laws hactive)

/-! ## The clock's second -/

/-- An entry is refreshed, or another bay's. -/
abbrev FreshBut (bays : List Nat) (s : State) : Prop :=
  ∀ e ∈ s.dir.entries, e.since < 3 * e.interval ∨ e.bay ∈ bays

theorem expireEntry_entries (bay : Nat) (s : State) : (expireEntry bay s).dir.entries = s.dir.entries
    ∧ (∀ e, dirEntry s bay = some e → e.since < 3 * e.interval)
    ∨ (expireEntry bay s).dir.entries = s.dir.entries.filter (fun x => x.bay != bay) := by
  unfold expireEntry
  split
  · next h => exact .inl ⟨rfl, fun e he => nomatch h.symm.trans he⟩
  next e he =>
  split
  · exact .inr (by rw [reselect_dir]; rfl)
  · next hn =>
    refine .inl ⟨rfl, fun x hx => ?_⟩
    obtain rfl : e = x := Option.some.inj (he.symm.trans hx)
    omega

theorem dirEntry_of_mem {e : DirEntry} (hd : s.dir.entries.Pairwise (fun a b => a.bay < b.bay)) (he : e ∈ s.dir.entries) :
    dirEntry s e.bay = some e := by
  obtain ⟨as, bs, h⟩ := List.append_of_mem he
  rw [h] at hd
  unfold dirEntry
  rw [h, List.find?_append, List.find?_eq_none.2 fun x hx => ?_]
  · simp
  · have := (List.pairwise_append.1 hd).2.2 x hx e List.mem_cons_self
    simp only [beq_iff_eq]
    omega

/-- Once a bay's entry has been looked at, it is fresh or gone. -/
theorem expireEntry_fresh {bay : Nat} {bays : List Nat} (hd : DirectoryLaw s) (hf : FreshBut (bay :: bays) s) :
    FreshBut bays (expireEntry bay s) := by
  intro e he
  rcases expireEntry_entries bay s with ⟨hsame, hx⟩ | hgone
  · rw [hsame] at he
    rcases hf e he with h | h
    · exact .inl h
    rcases List.mem_cons.1 h with rfl | h
    · exact .inl (hx e (dirEntry_of_mem hd.1 he))
    · exact .inr h
  · rw [hgone, List.mem_filter] at he
    rcases hf e he.1 with h | h
    · exact .inl h
    · exact .inr ((List.mem_cons.1 h).resolve_left (by simpa using he.2))

theorem expireEntries_fresh (bays : List Nat) (hd : DirectoryLaw s) (hf : FreshBut bays s) :
    Fresh (bays.foldl (fun t x => expireEntry x t) s) := by
  induction bays generalizing s with
  | nil => exact fun e he => (hf e he).resolve_right List.not_mem_nil
  | cons bay bays ih =>
    exact ih ((expireEntry_routine (p := True) s bay).directoryLaw trivial hd) (expireEntry_fresh hd hf)

/-- The expiries after the directory entries' own. -/
def expireOthers (s : State) : State :=
  let c := (s.dir.entries.map (·.bay)).foldl (fun t x => expireUnreachable x t) s
  let d := (c.asm.openGroups.map (·.target)).foldl (fun t x => expireHold x t) c
  let sends := d.table.filterMap (fun e =>
    match e.state with
    | .offered t g _ (.left 0) => some (t, g)
    | _ => none)
  let e := sends.foldl (fun t x => expireAnswer x.1 x.2 t) d
  let f := (e.table.map (·.label)).foldl (fun t x => expireTravel x t) e
  retryStart (expireWait (expireWindow f))

theorem expireOthers_routine {p : Prop} (s : State) : Routine p s (expireOthers s) := by
  unfold expireOthers
  dsimp only
  refine Routine.trans ?_ (retryStart_routine _)
  refine Routine.trans ?_ (expireWait_routine _)
  refine Routine.trans ?_ (expireWindow_routine _)
  refine Routine.trans ?_ (.foldl (fun t x => expireTravel_routine t x) _ _)
  refine Routine.trans ?_ (.foldl (fun t (x : Nat × Nat) => expireAnswer_routine t x.1 x.2) _ _)
  refine Routine.trans ?_ (.foldl (fun t x => expireHold_routine t x) _ _)
  exact .foldl (fun t x => expireUnreachable_routine t x) _ _

/-- The expiries due: the rejoin timer's, the beacon's, the directory entries', and the others (Log 5). -/
theorem expireDue_stages (s : State) : expireDue s = expireOthers
    (((expireBeacon (expireRejoin s)).dir.entries.map (·.bay)).foldl (fun t x => expireEntry x t)
      (expireBeacon (expireRejoin s))) := rfl

theorem expireDue_laws (hs : Laws a b c w s) : Laws a b c w (expireDue s) ∧ (c → Fresh (expireDue s)) := by
  have h : Laws a b c w (expireBeacon (expireRejoin s)) := (expireBeacon_routine _).laws (expireRejoin_laws hs)
  rw [expireDue_stages]
  generalize expireBeacon (expireRejoin s) = u at h
  have hentries : Routine c u ((u.dir.entries.map (·.bay)).foldl (fun t x => expireEntry x t) u) :=
    .foldl (fun t x => expireEntry_routine t x) _ u
  refine ⟨(expireOthers_routine _).laws (hentries.laws h), fun hc => ?_⟩
  have hd : DirectoryLaw u := (h.shelf hc).1
  refine (expireOthers_routine (p := True) _).fresh trivial (hentries.directoryLaw hc hd) (expireEntries_fresh _ hd ?_)
  exact fun e he => .inr (List.mem_map_of_mem he)

theorem countEntry_ok {e : DirEntry} (h : e.ok) (hf : e.since < 3 * e.interval) : (countEntry e).ok := by
  obtain ⟨h1, h2, h3, h4, -, h6, h7, h8, h9, h10, h11, h12⟩ := h
  refine ⟨h1, h2, h3, h4, hf, h6, h7, h8, h9, h10, fun n hn => ?_, h12⟩
  obtain ⟨k, hk, rfl⟩ := Option.map_eq_some_iff.1 hn
  exact (Nat.sub_le _ _).trans (h11 k hk)

theorem countSeconds_laws (hs : Laws a b c w s) (hf : c → Fresh s) : Laws a b c w (countSeconds s) where
  queue := hs.queue
  line hb := by
    obtain ⟨⟨⟨h1, h2, h3, h4⟩, h5⟩, ht⟩ := hs.line hb
    exact ⟨⟨⟨h1, h2, by simpa [countSeconds] using h3, h4⟩, h5⟩, by simpa [TimerLaw, countSeconds] using ht⟩
  shelf hc := by
    obtain ⟨⟨h1, h2, h3⟩, h4⟩ := hs.shelf hc
    refine ⟨⟨List.pairwise_map.2 h1, h2, fun x hx => ?_⟩, h4⟩
    obtain ⟨e, he, rfl⟩ := List.mem_map.1 hx
    exact ⟨(h3 e he).1, countEntry_ok (h3 e he).2 (hf hc e he)⟩
  pending := hs.pending

end Sys2Proof.Machine
end

section
/-! PROOF. The transmit queue, the line state and the directory keep their laws under every command (O6, O9, O10). -/

namespace Sys2Proof.Machine

variable {a b c : Prop} {w : List Instr} {s t : State}

/-! ## The Time Base -/

theorem secondTick_laws (hs : Laws a b c w s) : Laws a b c w (secondTick s) := by
  obtain ⟨h, hf⟩ := expireDue_laws hs
  have ht := countSeconds_laws h hf
  unfold secondTick
  dsimp only
  generalize countSeconds (expireDue s) = u at ht
  split
  · exact (minuteBoundary_routine _).laws (ht.same rfl)
  · exact ht.same rfl

theorem makeBoundary_laws (byOscillator : Bool) (hs : Laws a b c w s) : Laws a b c w (makeBoundary byOscillator s) :=
  secondTick_laws (hs.same rfl)

theorem alignSecond_laws (hs : Laws a b c w s) : Laws a b c w (alignSecond s) := by
  unfold alignSecond
  split
  · exact hs.same rfl
  · exact makeBoundary_laws false hs

theorem recomputeM_laws (hs : Laws a b c w s) : Laws a b c w (recomputeM s) := (recomputeM_routine s).laws hs

theorem enterFallback_laws (cause : FallbackCause) (hs : Laws a b c w s) : Laws a b c w (enterFallback cause s) :=
  recomputeM_laws (hs.same rfl)

theorem enterReference_laws (hs : Laws a b c w s) : Laws a b c w (enterReference s) := by
  have h : Laws a b c w (setTime { s.time with source := .reference, goodRun := Config.goodPulses, badRun := 0 } s) :=
    hs.same rfl
  exact recomputeM_laws ((alignSecond_laws h).same rfl)

theorem goodPulse_laws (hs : Laws a b c w s) : Laws a b c w (goodPulse s) := by
  unfold goodPulse
  split
  · exact alignSecond_laws (hs.same rfl)
  · exact hs.same rfl
  split
  · exact enterReference_laws hs
  · exact hs.same rfl

theorem badPulse_laws (hs : Laws a b c w s) : Laws a b c w (badPulse s) := by
  unfold badPulse
  split
  · split
    · exact enterFallback_laws _ hs
    · exact hs.same rfl
  · exact hs
  · exact hs.same rfl

theorem silenceEvent_laws (hs : Laws a b c w s) : Laws a b c w (silenceEvent s) := by
  unfold silenceEvent
  split
  · exact enterFallback_laws _ hs
  · exact hs
  · exact hs.same rfl

theorem passTime_laws (us : Nat) (hs : Laws a b c w s) : Laws a b c w (passTime us s) := (passTime_routine us).laws hs

theorem pulseArrives_laws (hs : Laws a b c w s) : Laws a b c w (pulseArrives s) := by
  have h : Laws a b c w (setTime { s.time with sincePulse := some 0, silence := 0 } s) := hs.same rfl
  unfold pulseArrives
  dsimp only
  split
  · exact h
  split
  · exact goodPulse_laws h
  · exact badPulse_laws h

theorem silencePassed_laws (hs : Laws a b c w s) : Laws a b c w (silencePassed s) :=
  silenceEvent_laws ((passTime_laws (Config.silenceLimit - s.time.silence) hs).same rfl)

theorem oscillatorBoundary_laws (hs : Laws a b c w s) : Laws a b c w (oscillatorBoundary s) :=
  makeBoundary_laws true (passTime_laws _ hs)

/-! ## Counters, restarts and power-on -/

theorem readCounters_laws (hs : Laws a b c w s) : Laws a b c w (readCountersBody s).1 := by
  refine hs.setLink rfl rfl fun _ hw => ?_
  obtain ⟨⟨h1, h2, h3, h4, -⟩, h5, -, -, h6⟩ := hw
  exact ⟨⟨h1, h2, h3, h4, fun h => by simpa using h⟩, h5, Nat.zero_le _, Nat.zero_le _, h6⟩

theorem queueOk_nil : QueueOk [] := by
  refine ⟨?_, ?_, ?_, List.Pairwise.nil, ?_⟩ <;> decide

/-- The link and the directory as power-on and CLEAR BAY leave them meet every law (R163, R165). -/
theorem laws_initial (hq : s.link.queue = []) (hl : b → WireLaw s.straps s.link) (hj : s.link.line ≠ .joined)
    (hd : s.dir = Directory.initial) (hp : s.pending = w) : Laws a b c w s where
  queue _ := ⟨hq ▸ queueOk_nil, fun _ => by rw [hq]; rfl⟩
  line hb := ⟨hl hb, by simp [TimerLaw, hd, Directory.initial, hj]⟩
  shelf _ := by simp [DirectoryLaw, IntervalLaw, hd, Directory.initial]
  pending := hp

theorem initial_line_ne_joined (p : Straps) : (Link.initial p).line ≠ .joined := by
  unfold Link.initial
  dsimp only
  split <;> decide

theorem wireLaw_initial (p : Straps) : WireLaw p (Link.initial p) := by
  cases h : strapValid p <;> simp [WireLaw, Link.initial, h]

theorem clearBay_laws (hs : Laws a b c w s) : Laws a b c w (clearBay s) := by
  refine laws_initial rfl (fun hb => ?_) (initial_line_ne_joined s.straps) rfl hs.pending
  obtain ⟨⟨h1, -, h2⟩, h3⟩ := wireLaw_initial s.straps
  exact ⟨⟨h1, (hs.counted hb).1, h2⟩, h3⟩

theorem powerOn_laws (p : Straps) (shutter : Bool) : Laws a b c w (State.powerOn p shutter w) :=
  laws_initial rfl (fun _ => wireLaw_initial p) (initial_line_ne_joined p) rfl rfl

theorem holdReset_laws (hs : Laws a b c w s) : Laws a b c w (holdReset s) :=
  (hs.setQueue queueOk_offLine fun _ _ => unmarked_offLine _).same rfl

/-! ## RESTART LINK -/

theorem flushFrame_net (x : Body) (s : State) : netOf (flushFrame x s) = netOf s := by
  cases x <;> rfl

/-- The queue flushed is the queue empty, with no beacon waiting (R82). -/
theorem flushQueue_net (s : State) :
    netOf (flushQueue s) = netOf (setLink { s.link with queue := [], beaconWaiting := false } s) := by
  have h : netOf (s.link.queue.foldl (fun u f => flushFrame f.body u) s) = netOf s :=
    foldl_keep netOf (fun u (f : Queued) => flushFrame f.body u) (fun u f => flushFrame_net f.body u) _ s
  obtain ⟨h1, h2, h3, h4⟩ : _ ∧ _ ∧ _ ∧ _ := ⟨straps_of_net h, link_of_net h, dir_of_net h, pending_of_net h⟩
  unfold flushQueue
  generalize s.link.queue.foldl (fun u f => flushFrame f.body u) s = t at h1 h2 h3 h4
  simp [netOf, h1, h2, h3, h4]

/-- The state of a RESTART LINK once the queue is flushed and the marks are cleared (R82). -/
def cleared (s : State) : State :=
  setLink { (flushQueue s).link with duplicate := false, rejoin := none } (flushQueue s)

/-- The link emptied and its marks cleared (R82). -/
def wiped (s : State) : State :=
  setLink { s.link with queue := [], beaconWaiting := false, duplicate := false, rejoin := none } s

theorem cleared_net (s : State) : netOf (cleared s) = netOf (wiped s) := by
  have h := flushQueue_net s
  obtain ⟨h1, h2, h3, h4⟩ : _ ∧ _ ∧ _ ∧ _ := ⟨straps_of_net h, link_of_net h, dir_of_net h, pending_of_net h⟩
  unfold cleared wiped
  generalize flushQueue s = t at h1 h2 h3 h4
  simp only [setLink_link, setLink_straps, setLink_dir, setLink_pending] at h1 h2 h3 h4
  simp only [netOf, setLink_link, setLink_straps, setLink_dir, setLink_pending, h1, h2, h3, h4]

/-- The state of a RESTART LINK once JOINED is left (R82). -/
def quitted (s : State) : State :=
  if (cleared s).link.line = .joined then leaveJoined .listening (cleared s) else cleared s

theorem restartLink_stages (s : State) : restartLink s = offerRoom (if strapValid (quitted s).straps then
    enterListening none (quitted s) else setLink { (quitted s).link with line := .detached, failures := 0 } (quitted s)) := rfl

theorem Between.same (hs : Between a b c w s) (h : netOf t = netOf s) : Between a b c w t := (Routine.same h).between hs

theorem quitted_between (hs : Laws a b c w s) : Between a b c w (quitted s) := by
  have hnet := cleared_net s
  have hline : (cleared s).link.line = s.link.line := (congrArg Link.line (link_of_net hnet) :)
  unfold quitted
  split
  · refine between_leaveJoined (by decide) (fun _ => ?_) (fun hb => ?_) (fun hc => ?_) ?_
    · rw [link_of_net hnet]; exact ⟨queueOk_nil, rfl⟩
    · exact (Routine.same (p := True) hnet).counted (hs.counted hb)
    · have h := Routine.same (p := True) hnet
      exact ⟨h.directoryLaw trivial (hs.shelf hc).1, h.intervalLaw (hs.shelf hc).2⟩
    · exact (pending_of_net hnet).trans hs.pending
  · next hj =>
    have h := hs.between (hline ▸ hj)
    exact Between.same (s := wiped s) ⟨fun _ => ⟨queueOk_nil, rfl⟩, h.line, h.left, h.shelf, h.pending⟩ hnet

theorem quitted_straps (s : State) : (quitted s).straps = s.straps := by
  unfold quitted
  split
  · exact (leaveJoined_straps _ _).trans (straps_of_net (s := wiped s) (cleared_net s))
  · exact straps_of_net (s := wiped s) (cleared_net s)

/-- The duplicate mark and the rejoin timer are cleared before the line state is looked at (R82). -/
theorem quitted_marks (s : State) : (quitted s).link.duplicate = false ∧ (quitted s).link.rejoin = none := by
  have hl := link_of_net (cleared_net s)
  have h : (cleared s).link.duplicate = false ∧ (cleared s).link.rejoin = none := by rw [hl]; exact ⟨rfl, rfl⟩
  unfold quitted
  split
  · have hw := (linkLost_routine (p := True) (parted .listening (cleared s))).wire
    exact ⟨(congrArg Link.duplicate hw :).trans h.1, (congrArg Link.rejoin hw :).trans h.2⟩
  · exact h

/-- DETACHED entered with an invalid strap (R65). -/
theorem Between.enterDetached (hs : Between a b c w s) (hv : strapValid s.straps = false)
    (hm : s.link.duplicate = false ∧ s.link.rejoin = none) :
    Laws a b c w (Machine.setLink { s.link with line := .detached, failures := 0 } s) where
  queue ha := ⟨(hs.queue ha).1, fun _ => (hs.queue ha).2⟩
  line hb := by
    obtain ⟨⟨h1, -, h4, h5⟩, h2, h6⟩ := hs.line hb
    exact ⟨⟨⟨by simp [hv], h1, by simp [hm.2], by simp [hm.1], by simp [h2]⟩, Nat.zero_le _, h4, h5, nofun⟩,
      by simp [TimerLaw, h6]⟩
  shelf := hs.shelf
  pending := hs.pending

theorem restartLink_laws (hs : Laws a b c w s) : Laws a b c w (restartLink s) := by
  have h := quitted_between hs
  rw [restartLink_stages]
  refine (offerRoom_routine _).laws ?_
  split
  · next hv => exact h.enterListening none (fun _ => hv) fun _ => (quitted_marks s).1
  · next hv => exact h.enterDetached (by simpa using hv) (quitted_marks s)

/-! ## Every command -/

theorem live_laws {f : State → State} (hs : Laws a b c w s) (hf : Laws a b c w (f s)) : Laws a b c w (live f s) :=
  live_keeps (P := Laws a b c w) hs hf

theorem live_routine {f : State → State} (hf : Routine c s (f s)) (hs : Laws a b c w s) : Laws a b c w (live f s) :=
  live_laws hs (hf.laws hs)

theorem request_laws {h : ReqHead} {r : Request} {body : State → Result} (hs : Laws a b c w s)
    (hb : Laws a b c w (body s).1) : Laws a b c w (request h r body s) :=
  request_keeps (P := Laws a b c w) (fun _ _ h => h.same rfl) hs hb

theorem request_routine {h : ReqHead} {r : Request} {body : State → Result} (hb : Routine c s (body s).1)
    (hs : Laws a b c w s) : Laws a b c w (request h r body s) := request_laws hs (hb.laws hs)

theorem heard_laws {f : State → State} (hs : Laws a b c w s) (hf : s.link.line ≠ .detached → Laws a b c w (f s)) :
    Laws a b c w (heard f s) := by
  refine live_laws hs ?_
  split
  · exact hs
  · next h => exact hf h

theorem replyDone_laws (hs : Laws a b c w s) : Laws a b c w (replyDone s) := by
  unfold replyDone nextReply
  split
  · split <;> exact hs.same rfl
  · exact hs

theorem refuseFrame_laws (seq : Nat) (k : RefusalCode) (hs : Laws a b c w s) : Laws a b c w (refuseFrame seq k s) := by
  refine live_laws hs ?_
  split <;> exact hs.same rfl

/-- A beacon that the framing lets through comes from another bay of 1..60. -/
theorem fairBeacon_of_framing {key : Nat} {m : BeaconMsg} (hw : m.wf = true) (hok : framingOk key (.beacon m) = true)
    (hbay : keyBay key ≠ s.straps.bay) : FairBeacon m s := by
  simp only [framingOk, bayOk, Bool.and_eq_true, decide_eq_true_eq] at hok
  obtain ⟨⟨-, -, hsend⟩, h1, h2⟩ := hok
  have hsend : m.bay = keyBay key := hsend.symm
  simp only [BeaconMsg.wf, Bool.and_eq_true] at hw
  obtain ⟨⟨⟨-, hu⟩, -⟩, -⟩ := hw
  refine ⟨hsend ▸ h1, hsend ▸ h2, hsend ▸ hbay, ?_⟩
  simp only [fits8, decide_eq_true_eq] at hu
  omega

theorem exec_laws (i : Instr) (hw : c → i.wf = true) (hs : Laws a b c w s) (h : exec i s = .next t) :
    Laws a b c w t := by
  cases i <;> cases h
  case dock h d => exact request_routine (dockBody_routine d) hs
  case declare h label depot mass => exact request_routine (declareBody_routine label depot mass) hs
  case tipStart h mode => exact request_routine (tipStartBody_routine mode) hs
  case tipOff h label depot mass => exact request_routine (tipOffBody_routine label depot mass) hs
  case tipEnd h => exact request_routine tipEndBody_routine hs
  case load h label => exact request_routine (loadBody_routine label) hs
  case unloadBack h => exact request_routine unloadBody_routine hs
  case arrive h label depot mass origin => exact request_routine (arriveBody_routine label depot mass origin) hs
  case depart h abandon => exact request_routine (departBody_routine abandon) hs
  case withdraw h label => exact request_routine (withdrawBody_routine label) hs
  case haltIntake h => exact request_routine (intakeBody_routine takeHalt_routine) hs
  case resumeIntake h => exact request_routine (intakeBody_routine takeResume_routine) hs
  case close h => exact request_routine closeBody_routine hs
  case reopen h => exact request_routine reopenBody_routine hs
  case setCutoff h cutoff => exact request_routine (setCutoffBody_routine cutoff) hs
  case setExpected h expected => exact request_routine (setExpectedBody_routine expected) hs
  case setClock h minute => exact request_routine (setClockBody_routine minute) hs
  case setNotices h mask mode => exact request_routine (setNoticesBody_routine mask mode) hs
  case readDeck h position => exact request_routine (readDeckBody_routine position) hs
  case clearBay h => exact request_laws hs (clearBay_laws hs)
  case restartLink h => exact request_laws hs (restartLink_laws hs)
  case readCounters h => exact request_laws hs (readCounters_laws hs)
  case readNotice | readSummary => exact request_routine (.same rfl) hs
  case readStatus | readLane | readHolds | readTransfer | readDirectory => exact request_laws hs hs
  case beacon key m =>
    refine takeFrame_laws hs fun hok hbay => takeBeacon_routine fun hc => ?_
    exact fairBeacon_of_framing (Bool.and_eq_true_iff.1 (hw hc)).2 hok hbay
  case offer key m => exact takeFrame_laws hs fun _ _ => takeOffer_routine m
  case answer key m => exact takeFrame_laws hs fun _ _ => takeAnswer_routine m
  case release key m => exact takeFrame_laws hs fun _ _ => takeRelease_routine m
  case receipt key m => exact takeFrame_laws hs fun _ _ => takeReceipt_routine m
  case call key m => exact takeFrame_laws hs fun _ _ => takeCall_routine m
  case hold key m => exact takeFrame_laws hs fun _ _ => takeHold_routine m
  case done key m => exact takeFrame_laws hs fun _ _ => takeDone_routine m
  case badFrameHeard => exact heard_laws hs fun _ => badFrame_laws hs
  case objectedFrameDropped => exact heard_laws hs fun _ => (lineActive_routine s false).laws hs
  case duplicateBay kind =>
    exact heard_laws hs fun hl => duplicateHeard_laws kind ((lineActive_routine s false).laws hs) hl
  case quietGapStart => exact live_laws hs (startAttempt_laws hs)
  case lostContention heard => exact live_laws hs (contend_laws heard hs)
  case transmitFailure => exact live_laws hs (failAttempt_laws hs)
  case transmitComplete => exact live_laws hs (completeAttempt_laws hs)
  case queueRoomOffered => exact live_routine (offerRoom_routine s) hs
  case quietTimerExpiry => exact live_laws hs (quietJoin_laws hs)
  case rejoinTimerExpiry => exact live_laws hs (expireRejoin_laws hs)
  case hallClockPulse elapsed => exact live_laws hs (pulseArrives_laws (passTime_laws elapsed hs))
  case pulseSilence => exact live_laws hs (silencePassed_laws hs)
  case secondBoundary => exact live_laws hs (oscillatorBoundary_laws hs)
  case beaconTimerExpiry => exact live_routine (expireBeacon_routine s) hs
  case directoryEntryExpiry bay => exact live_routine (expireEntry_routine s bay) hs
  case unreachableMarkExpiry bay => exact live_routine (expireUnreachable_routine s bay) hs
  case holdTimerExpiry target => exact live_routine (expireHold_routine s target) hs
  case answerTimerExpiry target group => exact live_routine (expireAnswer_routine s target group) hs
  case travelTimerExpiry label => exact live_routine (expireTravel_routine s label) hs
  case callWindowEnd => exact live_routine (expireWindow_routine s) hs
  case waitLimitExpiry => exact live_routine (expireWait_routine s) hs
  case automaticStart => exact live_routine (retryStart_routine s) hs
  case shutterClosed => exact live_routine (shutterDown_routine s) hs
  case shutterOpened => exact live_routine (shutterUp_routine s) hs
  case powerOn straps shutter => exact hs.pending ▸ powerOn_laws straps shutter
  case resetAsserted => exact holdReset_laws hs
  case busy seq => exact live_laws hs (by split <;> exact hs.same rfl)
  case badFrame | unknown | interByteTimeout => exact refuseFrame_laws _ _ hs
  case replySent => exact live_laws hs (replyDone_laws hs)
  case nonStartByteDiscarded byte => exact hs

/-- The laws over a step: the front command leaves the queue of commands (Log 2). -/
theorem step_laws (hw : c → ∀ i ∈ s.pending, i.wf = true) (hs : Laws a b c s.pending s) (h : step s = .next t) :
    Laws a b c s.pending.tail t := by
  unfold step at h
  split at h
  · next hp => cases h; exact hp ▸ hs
  · next i rest hp =>
    have hrest : Laws a b c rest (s.withPending rest) := ⟨hs.queue, hs.line, hs.shelf, rfl⟩
    rw [hp]
    exact exec_laws i (fun hc => hw hc i (hp ▸ List.mem_cons_self)) hrest h

/-- Settles O6: frames are placed where they find room, and JOINED is left only with the attempt ended. -/
theorem everyStepKeepsTheTransmitQueue : Obligations.EveryStepKeepsTheTransmitQueue := by
  unfold Obligations.EveryStepKeepsTheTransmitQueue
  intro s t hs h
  have hlaws : Laws True False False s.pending s := ⟨fun _ => hs, nofun, nofun, rfl⟩
  exact (step_laws nofun hlaws h).queue trivial

/-- Settles O9: each change of the line state sets what goes with it, and routine steps leave the link alone. -/
theorem everyStepKeepsTheLineState : Obligations.EveryStepKeepsTheLineState := by
  unfold Obligations.EveryStepKeepsTheLineState
  intro s t hs h
  have hlaws : Laws False True False s.pending s := ⟨nofun, fun _ => lineLaws_iff.1 hs, nofun, rfl⟩
  exact lineLaws_iff.2 ((step_laws nofun hlaws h).line trivial)

/-- Settles O10: a beacon makes a good entry, and the entries that reach three intervals have gone by the time that the
next second counts. -/
theorem everyStepKeepsTheDirectory : Obligations.EveryStepKeepsTheDirectory := by
  unfold Obligations.EveryStepKeepsTheDirectory
  intro s t hs h
  obtain ⟨hd, hi, hw⟩ := hs
  have hlaws : Laws False False True s.pending s := ⟨nofun, nofun, fun _ => ⟨hd, hi⟩, rfl⟩
  have ht := step_laws (fun _ => hw) hlaws h
  obtain ⟨hd', hi'⟩ := ht.shelf trivial
  exact ⟨hd', hi', fun i hmem => hw i (List.mem_of_mem_tail (ht.pending ▸ hmem))⟩

end Sys2Proof.Machine
end

section
/-! SUPPORT. The free room of the queue offered (R81): what the owed DONE, the owed RECEIPTs and the groups that may be
built each find. -/

namespace Sys2Proof.Machine

variable {s t : State}

/-! ## One frame of class 0 -/

/-- A frame of class 0 other than an OFFER is placed exactly where a slot is free (R79). -/
theorem handFrame_urgent {b : Body} (hc : b.kind.cls = 0) (hk : keyFor s b = (framed b s).key) :
    (s.link.queue.length < 16 ∧ handFrame b s = some (setQueue (insertQueued (framed b s) s.link.queue) s))
      ∨ (16 ≤ s.link.queue.length ∧ handFrame b s = none) := by
  have hroom : hasRoom 0 s.link.queue = true ↔ s.link.queue.length < 16 := by simp [hasRoom_iff]
  rcases handFrame_cases b s with ⟨hr, e⟩ | ⟨hr, e⟩
  · rw [hc, Bool.eq_false_iff] at hr
    exact .inr ⟨Nat.le_of_not_lt fun h => hr (hroom.2 h), e⟩
  · rw [hc] at hr
    refine .inl ⟨hroom.1 hr, e.trans ?_⟩
    rw [hk]
    rfl

/-- A frame placed leaves the others in their order (R78). -/
theorem sublist_insertQueued (f : Queued) (q : List Queued) : q.Sublist (insertQueued f q) := by
  induction q with
  | nil => exact List.nil_sublist _
  | cons g q ih =>
    rw [insertQueued]
    split
    · exact List.sublist_cons_self _ _
    · exact ih.cons_cons g

/-- The RECEIPT of a label, addressed to an origin (R133). -/
def receiptFor (s : State) (origin label : Nat) : Body := .receipt { bay := s.straps.bay, origin := origin, label := label }

theorem keyFor_receiptFor (s u : State) (origin label : Nat) :
    keyFor u (receiptFor s origin label) = (framed (receiptFor s origin label) u).key := rfl

/-! ## Marks served one after another -/

section Serving

variable {α : Type} (body : α → Body) (clear : α → State → State)

/-- One mark served: its frame is placed and the mark cleared, or nothing happens. -/
def serveMark (x : State) (e : α) : State :=
  match handFrame (body e) x with
  | some t => clear e t
  | none => x

/-- A mark cleared leaves what a frame's key and its place hang on. -/
structure Clears (clear : α → State → State) : Prop where
  link : ∀ e t, (clear e t).link = t.link
  straps : ∀ e t, (clear e t).straps = t.straps
  urgency : ∀ e t, (clear e t).urgency = t.urgency
  queue : ∀ e t q, setQueue q (clear e t) = clear e (setQueue q t)

/-- Marks served one after another, as far as the room goes (R81): `done` are those that were served. -/
structure MarksServed (l : List α) (s t : State) (done : List α) : Prop where
  state : t = done.foldl (fun u e => clear e u) (setQueue t.link.queue s)
  sub : done ⊆ l
  rest : ∀ e ∈ l, e ∈ done ∨ 16 ≤ t.link.queue.length
  first : s.link.queue.length < 16 → ∀ e ∈ l.head?, e ∈ done
  placed : ∀ e ∈ done, framed (body e) s ∈ t.link.queue
  stays : s.link.queue.Sublist t.link.queue
  only : ∀ f ∈ t.link.queue, f ∈ s.link.queue ∨ ∃ e ∈ done, f = framed (body e) s

variable {body clear}

theorem Clears.foldl_link (h : Clears clear) (l : List α) (s : State) :
    (l.foldl (fun u e => clear e u) s).link = s.link := foldl_keep State.link _ (fun u e => h.link e u) l s

theorem serveMarks (hc : Clears clear) (hcls : ∀ e, (body e).kind.cls = 0)
    (hkey : ∀ e u, keyFor u (body e) = (framed (body e) u).key) (l : List α) (s : State) :
    ∃ done, MarksServed body clear l s (l.foldl (serveMark body clear) s) done := by
  induction l generalizing s with
  | nil => exact ⟨[], rfl, List.Subset.refl _, nofun, nofun, nofun, List.Sublist.refl _, fun f hf => .inl hf⟩
  | cons e l ih =>
    rw [List.foldl_cons]
    rcases handFrame_urgent (hcls e) (hkey e s) with ⟨hlen, hh⟩ | ⟨hlen, hh⟩
    · have hstep : serveMark body clear s e = clear e (setQueue (insertQueued (framed (body e) s) s.link.queue) s) := by
        rw [serveMark, hh]
      rw [hstep]
      obtain ⟨done, h⟩ := ih (clear e (setQueue (insertQueued (framed (body e) s) s.link.queue) s))
      have hframed (b : Body) : framed b (clear e (setQueue (insertQueued (framed (body e) s) s.link.queue) s)) = framed b s := by
        simp [framed, hc.straps, hc.urgency]
      have hin : (insertQueued (framed (body e) s) s.link.queue).Sublist
          (l.foldl (serveMark body clear) (clear e (setQueue (insertQueued (framed (body e) s) s.link.queue) s))).link.queue := by
        have := h.stays
        rwa [hc.link] at this
      refine ⟨e :: done, ?_, ?_, ?_, fun _ x hx => ?_, ?_, (sublist_insertQueued _ _).trans hin, fun f hf => ?_⟩
      · have := h.state
        rwa [hc.queue] at this
      · exact List.cons_subset_cons _ h.sub
      · intro x hx
        rcases List.mem_cons.1 hx with rfl | hx
        · exact .inl List.mem_cons_self
        · exact (h.rest x hx).imp_left (List.mem_cons_of_mem _)
      · obtain rfl : e = x := Option.some.inj hx
        exact List.mem_cons_self
      · intro x hx
        rcases List.mem_cons.1 hx with rfl | hx
        · exact hin.subset (mem_insertQueued.2 (.inl rfl))
        · have := h.placed x hx
          rwa [hframed] at this
      · rcases h.only f hf with h1 | ⟨x, hx, h1⟩
        · rw [hc.link] at h1
          rcases mem_insertQueued.1 h1 with rfl | h1
          · exact .inr ⟨e, List.mem_cons_self, rfl⟩
          · exact .inl h1
        · exact .inr ⟨x, List.mem_cons_of_mem _ hx, h1.trans (hframed _)⟩
    · have hstep : serveMark body clear s e = s := by rw [serveMark, hh]
      rw [hstep]
      obtain ⟨done, h⟩ := ih s
      refine ⟨done, h.state, fun x hx => List.mem_cons_of_mem _ (h.sub hx), fun x hx => ?_, fun hn => absurd hlen (by omega),
        h.placed, h.stays, h.only⟩
      rcases List.mem_cons.1 hx with rfl | hx
      · exact .inr (hlen.trans h.stays.length_le)
      · exact h.rest x hx

end Serving

/-! ## The owed RECEIPTs of the lane and of the deck -/

/-- The receipt-owed mark of a lane entry cleared (R35). -/
def clearLane (e : LaneEntry) (s : State) : State := { s with lane := setLaneOwed e.label false s.lane }

/-- The receipt-owed mark of a deck entry cleared (R7). -/
def clearDeck (e : DeckEntry) (s : State) : State := { s with deck := setDeckOwed e.label false s.deck }

theorem clears_lane : Clears clearLane := ⟨fun _ _ => rfl, fun _ _ => rfl, fun _ _ => rfl, fun _ _ _ => rfl⟩
theorem clears_deck : Clears clearDeck := ⟨fun _ _ => rfl, fun _ _ => rfl, fun _ _ => rfl, fun _ _ _ => rfl⟩

theorem setLaneOwed_eq (label : Nat) (b : Bool) (l : List LaneEntry) :
    setLaneOwed label b l = l.map (fun e => { e with owed := if e.label = label then b else e.owed }) := by
  refine List.map_congr_left fun e _ => ?_
  split <;> rfl

theorem setDeckOwed_eq (label : Nat) (b : Bool) (d : Deck) : setDeckOwed label b d = { d with
    entries := d.entries.map (fun e => { e with owed := if e.label = label ∧ e.tag = .outbound then b else e.owed }) } := by
  unfold setDeckOwed
  congr 1
  refine List.map_congr_left fun e _ => ?_
  split <;> rfl

/-- The lane once the RECEIPTs of some entries are queued: their labels' marks are clear, the others stand. -/
theorem clearLane_foldl (l : List LaneEntry) (s : State) : l.foldl (fun u e => clearLane e u) s = { s with
    lane := s.lane.map (fun x => { x with owed := x.owed && !l.any (fun e => e.label == x.label) }) } := by
  induction l generalizing s with
  | nil => simp
  | cons e l ih =>
    rw [List.foldl_cons, ih]
    simp only [clearLane, setLaneOwed_eq, List.map_map, List.any_cons, Function.comp_def]
    congr 1
    refine List.map_congr_left fun x _ => ?_
    by_cases h : x.label = e.label
    · simp [h]
    · have hne : (e.label == x.label) = false := by simpa using Ne.symm h
      simp [h, hne]

/-- The deck once the RECEIPTs of some entries are queued: their labels' OUTBOUND marks are clear, the others stand. -/
theorem clearDeck_foldl (l : List DeckEntry) (s : State) : l.foldl (fun u e => clearDeck e u) s = { s with
    deck := { s.deck with entries := s.deck.entries.map (fun x =>
      { x with owed := x.owed && !(x.tag == .outbound && l.any (fun e => e.label == x.label)) }) } } := by
  induction l generalizing s with
  | nil => simp
  | cons e l ih =>
    rw [List.foldl_cons, ih]
    simp only [clearDeck, setDeckOwed_eq, List.map_map, List.any_cons, Function.comp_def]
    congr 2
    refine List.map_congr_left fun x _ => ?_
    have hin : (Tag.inbound == Tag.outbound) = false := rfl
    by_cases h : x.label = e.label
    · cases x.tag <;> simp [h, hin]
    · have hne : (e.label == x.label) = false := by simpa using Ne.symm h
      simp [h, hne]

/-- Two folds agree where their steps do, on the states that a rule keeps. -/
theorem foldl_congr_of {α : Type} {f g : State → α → State} {P : State → Prop} (h : ∀ x e, P x → f x e = g x e)
    (hp : ∀ x e, P x → P (f x e)) (l : List α) (hs : P s) : l.foldl f s = l.foldl g s := by
  induction l generalizing s with
  | nil => rfl
  | cons e l ih => rw [List.foldl_cons, List.foldl_cons, ← h s e hs, ih (hp s e hs)]

/-- The RECEIPTs owed on the lane, served as far as the room goes (R35, R81). -/
theorem offerLane_served (l : List LaneEntry) (s : State) : ∃ done,
    MarksServed (fun e => receiptFor s e.origin e.label) clearLane l s (l.foldl (fun x e => offerLaneReceipt e x) s) done := by
  have h := foldl_congr_of (s := s) (P := fun x => x.straps = s.straps) (f := fun x e => offerLaneReceipt e x)
    (g := serveMark (fun e => receiptFor s e.origin e.label) clearLane)
    (fun x e hx => by unfold offerLaneReceipt serveMark receiptFor; rw [hx]; rfl)
    (fun x e hx => (offerLaneReceipt_routine (p := True) x e).straps.trans hx) l rfl
  rw [h]
  exact serveMarks clears_lane (fun _ => rfl) (fun e u => keyFor_receiptFor s u e.origin e.label) l s

/-- The RECEIPTs owed on the deck, served as far as the room goes (R7, R81). -/
theorem offerDeck_served (l : List DeckEntry) (s : State) : ∃ done,
    MarksServed (fun e => receiptFor s 0 e.label) clearDeck l s (l.foldl (fun x e => offerDeckReceipt e x) s) done := by
  have h := foldl_congr_of (s := s) (P := fun x => x.straps = s.straps) (f := fun x e => offerDeckReceipt e x)
    (g := serveMark (fun e => receiptFor s 0 e.label) clearDeck)
    (fun x e hx => by unfold offerDeckReceipt serveMark receiptFor; rw [hx]; rfl)
    (fun x e hx => (offerDeckReceipt_routine (p := True) x e).straps.trans hx) l rfl
  rw [h]
  exact serveMarks clears_deck (fun _ => rfl) (fun e u => keyFor_receiptFor s u 0 e.label) l s

/-! ## The owed DONE -/

/-- Everything the offer of room to DONE can do (R81). -/
theorem offerDone_cases (s : State) :
    (s.dep.doneOwed = false ∧ offerDone s = s) ∨ (16 ≤ s.link.queue.length ∧ offerDone s = s)
      ∨ (s.dep.doneOwed = true ∧ s.link.queue.length < 16 ∧ offerDone s = setDep { s.dep with doneOwed := false }
        (setQueue (insertQueued (framed (.done { bay := s.straps.bay }) s) s.link.queue) s)) := by
  unfold offerDone
  split
  next ho =>
    rcases handFrame_urgent (s := s) (b := .done { bay := s.straps.bay }) rfl rfl with ⟨hlen, hh⟩ | ⟨hlen, hh⟩
    · refine .inr (.inr ⟨ho, hlen, ?_⟩)
      rw [hh]
      rfl
    · refine .inr (.inl ⟨hlen, ?_⟩)
      rw [hh]
  next ho => exact .inl ⟨by simpa using ho, rfl⟩

/-! ## The groups that may be built -/

/-- A group as it stood, or IN QUEUE where it could be built (R104). -/
def BuiltFrom (g x : ClosedGroup) : Prop := x = g ∨ (g.inQueue = false ∧ g.pending = false ∧ x = { g with inQueue := true })

/-- What going through the send list leaves (R104): each group in its place, and the OFFERs of those built in the queue. -/
structure Built (l r : List ClosedGroup) (s t : State) : Prop where
  groups : List.Forall₂ BuiltFrom l r
  state : t = setQueue t.link.queue s
  stays : s.link.queue.Sublist t.link.queue
  only : ∀ f ∈ t.link.queue, f ∈ s.link.queue ∨ (f.onLine = false
    ∧ ∃ x ∈ r, x.inQueue = true ∧ x.pending = false ∧ f.body = offerBody s x)

theorem offerBody_setQueue (q : List Queued) (s : State) (g : ClosedGroup) :
    offerBody (setQueue q s) g = offerBody s g := rfl

theorem buildList_built (s : State) (before l : List ClosedGroup) :
    ∃ r, (buildList s before l).2 = before ++ r ∧ Built l r s (buildList s before l).1 := by
  induction l generalizing s before with
  | nil => exact ⟨[], by simp [buildList], .nil, rfl, List.Sublist.refl _, fun f hf => .inl hf⟩
  | cons g l ih =>
    have hskip : ∃ r, (buildList s (before ++ [g]) l).2 = before ++ r ∧ Built (g :: l) r s (buildList s (before ++ [g]) l).1 := by
      obtain ⟨r, he, hb⟩ := ih s (before ++ [g])
      refine ⟨g :: r, by simpa using he, hb.groups.cons (.inl rfl), hb.state, hb.stays, fun f hf => ?_⟩
      refine (hb.only f hf).imp_right ?_
      rintro ⟨ho, x, hx, h⟩
      exact ⟨ho, x, List.mem_cons_of_mem _ hx, h⟩
    unfold buildList
    split
    next hbuild =>
      simp only [buildable, Bool.and_eq_true, Bool.not_eq_true'] at hbuild
      obtain ⟨⟨⟨hin, hpend⟩, -⟩, -⟩ := hbuild
      rcases handFrame_cases (offerBody s g) s with ⟨-, e⟩ | ⟨-, e⟩
      · rw [e]; exact hskip
      · rw [e]
        dsimp only
        obtain ⟨r, he, hb⟩ := ih (setQueue (insertQueued ⟨keyFor s (offerBody s g), offerBody s g, false⟩ s.link.queue) s)
          (before ++ [{ g with inQueue := true }])
        refine ⟨{ g with inQueue := true } :: r, by simpa using he, hb.groups.cons (.inr ⟨hin, hpend, rfl⟩), hb.state,
          (sublist_insertQueued _ _).trans hb.stays, fun f hf => ?_⟩
        rcases hb.only f hf with h | ⟨ho, x, hx, h⟩
        · rcases mem_insertQueued.1 h with rfl | h
          · exact .inr ⟨rfl, _, List.mem_cons_self, rfl, hpend, rfl⟩
          · exact .inl h
        · exact .inr ⟨ho, x, List.mem_cons_of_mem _ hx, h⟩
    next => exact hskip

/-- The groups that may be built, built (R104). -/
theorem buildReady_built (s : State) : ∃ r u, buildReady s = setAsm { s.asm with sendList := r } u
    ∧ Built s.asm.sendList r s u := by
  obtain ⟨r, he, hb⟩ := buildList_built s [] s.asm.sendList
  refine ⟨r, _, ?_, hb⟩
  unfold buildReady
  dsimp only
  rw [he, List.nil_append]
  congr 1
  rw [hb.state]
  rfl

/-! ## The whole offer -/

/-- The mark that the lane keeps where the RECEIPTs of some entries were queued. -/
def keptLane (served : List LaneEntry) (x : LaneEntry) : LaneEntry :=
  { x with owed := x.owed && !served.any (fun e => e.label == x.label) }

/-- The mark that the deck keeps where the RECEIPTs of some entries were queued. -/
def keptDeck (served : List DeckEntry) (x : DeckEntry) : DeckEntry :=
  { x with owed := x.owed && !(x.tag == .outbound && served.any (fun e => e.label == x.label)) }

/-- What the free room offered does from `s` to `t` (R81): `lane` and `deck` are the entries whose RECEIPTs were queued. -/
structure RoomOffered (s t : State) (lane : List LaneEntry) (deck : List DeckEntry) : Prop where
  state : t = { s with
    dep := { s.dep with doneOwed := s.dep.doneOwed && decide (16 ≤ s.link.queue.length) }
    lane := s.lane.map (keptLane lane), deck := { s.deck with entries := s.deck.entries.map (keptDeck deck) }
    asm := { s.asm with sendList := t.asm.sendList }, link := { s.link with queue := t.link.queue } }
  done : s.dep.doneOwed = true → s.link.queue.length < 16 → framed (.done { bay := s.straps.bay }) s ∈ t.link.queue
  laneSub : lane ⊆ s.lane.filter (·.owed)
  laneFirst : s.dep.doneOwed = false → s.link.queue.length < 16 → ∀ e ∈ (s.lane.filter (·.owed)).head?, e ∈ lane
  laneRest : ∀ e ∈ s.lane.filter (·.owed), e ∈ lane ∨ 16 ≤ t.link.queue.length
  lanePlaced : ∀ e ∈ lane, framed (receiptFor s e.origin e.label) s ∈ t.link.queue
  deckSub : deck ⊆ s.deck.entries.filter (·.owed)
  deckRest : ∀ e ∈ s.deck.entries.filter (·.owed), e ∈ deck ∨ 16 ≤ t.link.queue.length
  deckPlaced : ∀ e ∈ deck, framed (receiptFor s 0 e.label) s ∈ t.link.queue
  groups : List.Forall₂ BuiltFrom s.asm.sendList t.asm.sendList
  stays : s.link.queue.Sublist t.link.queue
  only : ∀ f ∈ t.link.queue, f ∈ s.link.queue
    ∨ (s.dep.doneOwed = true ∧ f = framed (.done { bay := s.straps.bay }) s)
    ∨ (∃ e ∈ lane, f = framed (receiptFor s e.origin e.label) s) ∨ (∃ e ∈ deck, f = framed (receiptFor s 0 e.label) s)
    ∨ (f.onLine = false ∧ ∃ x ∈ t.asm.sendList, x.inQueue = true ∧ x.pending = false ∧ f.body = offerBody s x)

/-- What offering the room to DONE leaves, in one form. -/
theorem offerDone_served (s : State) : ∃ q, offerDone s = { s with
      dep := { s.dep with doneOwed := s.dep.doneOwed && decide (16 ≤ s.link.queue.length) }
      link := { s.link with queue := q } }
    ∧ s.link.queue.Sublist q
    ∧ (s.dep.doneOwed = true → s.link.queue.length < 16 → framed (.done { bay := s.straps.bay }) s ∈ q)
    ∧ (s.dep.doneOwed = false → q = s.link.queue)
    ∧ ∀ f ∈ q, f ∈ s.link.queue ∨ (s.dep.doneOwed = true ∧ f = framed (.done { bay := s.straps.bay }) s) := by
  rcases offerDone_cases s with ⟨ho, e⟩ | ⟨hlen, e⟩ | ⟨ho, hlen, e⟩
  · refine ⟨s.link.queue, ?_, List.Sublist.refl _, ?_, fun _ => rfl, fun f hf => .inl hf⟩
    · rw [e]; exact (state_eq rfl rfl rfl rfl rfl rfl rfl rfl rfl rfl rfl rfl rfl rfl rfl (by rw [ho, Bool.false_and, ← ho]) rfl)
    · exact fun h => absurd (ho.symm.trans h) (by decide)
  · refine ⟨s.link.queue, ?_, List.Sublist.refl _, fun _ h => absurd hlen (by omega), fun _ => rfl, fun f hf => .inl hf⟩
    rw [e, decide_eq_true hlen, Bool.and_true]
  · refine ⟨_, ?_, sublist_insertQueued _ _, fun _ _ => mem_insertQueued.2 (.inl rfl),
      fun h => absurd (ho.symm.trans h) (by decide), fun f hf => ?_⟩
    · rw [e, decide_eq_false (Nat.not_le.2 hlen), Bool.and_false]
      rfl
    · exact (mem_insertQueued.1 hf).symm.imp_right fun h => ⟨ho, h⟩

/-- The lane as the RECEIPTs offered to it leave it (R35, R81). -/
theorem offerLane_state {l done : List LaneEntry} {s t : State}
    (h : MarksServed (fun e => receiptFor s e.origin e.label) clearLane l s t done) : ∃ q, t = { s with
      lane := s.lane.map (keptLane done), link := { s.link with queue := q } } :=
  ⟨t.link.queue, h.state.trans (clearLane_foldl done _)⟩

/-- The deck as the RECEIPTs offered to it leave it (R7, R81). -/
theorem offerDeck_state {l done : List DeckEntry} {s t : State}
    (h : MarksServed (fun e => receiptFor s 0 e.label) clearDeck l s t done) : ∃ q, t = { s with
      deck := { s.deck with entries := s.deck.entries.map (keptDeck done) }, link := { s.link with queue := q } } :=
  ⟨t.link.queue, h.state.trans (clearDeck_foldl done _)⟩

/-- Everything the free room offered does (R81). -/
theorem offerRoom_offered (s : State) : ∃ lane deck, RoomOffered s (offerRoom s) lane deck := by
  obtain ⟨q1, h1, hstay1, hdone, hsame, honly1⟩ := offerDone_served s
  unfold offerRoom
  dsimp only
  obtain ⟨dl, hl⟩ := offerLane_served ((offerDone s).lane.filter (·.owed)) (offerDone s)
  rw [h1] at hl ⊢
  generalize List.foldl (fun x e => offerLaneReceipt e x) _ _ = s2 at hl ⊢
  obtain ⟨dd, hd⟩ := offerDeck_served (s2.deck.entries.filter (·.owed)) s2
  generalize (s2.deck.entries.filter (·.owed)).foldl (fun x e => offerDeckReceipt e x) s2 = s3 at hd ⊢
  obtain ⟨q2, rfl⟩ := offerLane_state hl
  obtain ⟨q3, rfl⟩ := offerDeck_state hd
  obtain ⟨r, u, hu, hb⟩ := buildReady_built _
  rw [hu]
  obtain ⟨q4, rfl⟩ : ∃ q4, u = setQueue q4 _ := ⟨_, hb.state⟩
  have hstay2 : q1.Sublist q2 := hl.stays
  have hstay3 : q2.Sublist q3 := hd.stays
  have hstay4 : q3.Sublist q4 := hb.stays
  refine ⟨dl, dd, ⟨rfl, ?_, hl.sub, ?_, ?_, ?_, hd.sub, ?_, ?_, hb.groups, ?_, ?_⟩⟩
  · exact fun ho hlen => ((hstay2.trans hstay3).trans hstay4).subset (hdone ho hlen)
  · exact fun ho hlen e he => hl.first (hsame ho ▸ hlen) e he
  · exact fun e he => (hl.rest e he).imp_right fun h => h.trans (hstay3.trans hstay4).length_le
  · exact fun e he => (hstay3.trans hstay4).subset (hl.placed e he)
  · exact fun e he => (hd.rest e he).imp_right fun h => h.trans hstay4.length_le
  · exact fun e he => hstay4.subset (hd.placed e he)
  · exact ((hstay1.trans hstay2).trans hstay3).trans hstay4
  · intro f hf
    rcases hb.only f hf with hf | ⟨ho, x, hx, hin, hp, hbody⟩
    · rcases hd.only f hf with hf | hf
      · rcases hl.only f hf with hf | hf
        · exact (honly1 f hf).imp_right .inl
        · exact .inr (.inr (.inl hf))
      · exact .inr (.inr (.inr (.inl hf)))
    · exact .inr (.inr (.inr (.inr ⟨ho, x, hx, hin, hp, hbody⟩)))

/-- The blocks that the free room offered may change. -/
theorem RoomOffered.frame {lane : List LaneEntry} {deck : List DeckEntry} (h : RoomOffered s t lane deck) : t = { s with
    dep := t.dep, lane := t.lane, deck := t.deck, asm := { s.asm with sendList := t.asm.sendList }
    link := { s.link with queue := t.link.queue } } := by
  have e := h.state
  generalize t.asm.sendList = sl at e ⊢
  generalize t.link.queue = q at e ⊢
  subst e
  rfl

theorem RoomOffered.blocks {lane : List LaneEntry} {deck : List DeckEntry} (h : RoomOffered s t lane deck) : t = { s with
    dep := t.dep, lane := t.lane, deck := t.deck, asm := t.asm, link := { s.link with queue := t.link.queue } } := by
  have e := h.state
  generalize t.asm.sendList = sl at e
  generalize t.link.queue = q at e ⊢
  subst e
  rfl

theorem RoomOffered.lane_eq {lane : List LaneEntry} {deck : List DeckEntry} (h : RoomOffered s t lane deck) :
    t.lane = s.lane.map (keptLane lane) := congrArg State.lane h.state

theorem RoomOffered.deck_eq {lane : List LaneEntry} {deck : List DeckEntry} (h : RoomOffered s t lane deck) :
    t.deck = { s.deck with entries := s.deck.entries.map (keptDeck deck) } := congrArg State.deck h.state

theorem RoomOffered.dep_eq {lane : List LaneEntry} {deck : List DeckEntry} (h : RoomOffered s t lane deck) :
    t.dep = { s.dep with doneOwed := s.dep.doneOwed && decide (16 ≤ s.link.queue.length) } := congrArg State.dep h.state

/-- What is told of the groups in their order stays where it hangs on no phase. -/
theorem map_of_built {β : Type} {φ : ClosedGroup → β} (hφ : ∀ g b, φ { g with inQueue := b } = φ g) {l r : List ClosedGroup}
    (h : List.Forall₂ BuiltFrom l r) : r.map φ = l.map φ := by
  induction h with
  | nil => rfl
  | @cons g x l r hgx _ ih =>
    rw [List.map_cons, List.map_cons, ih]
    obtain rfl | ⟨-, -, rfl⟩ := hgx
    · rfl
    · rw [hφ]

end Sys2Proof.Machine
end

section
/-! PROOF. The completed frame leaves the queue, and the room goes to owed frames (O53). -/

namespace Sys2Proof.Machine

variable {p : Prop} {s t : State}

/-! ## Nothing to serve -/

theorem buildList_idle (before l : List ClosedGroup)
    (h : 16 ≤ s.link.queue.length ∨ ∀ g ∈ l, g.inQueue = true ∨ g.pending = true) :
    buildList s before l = (s, before ++ l) := by
  induction l generalizing before with
  | nil => simp [buildList]
  | cons g l ih =>
    have hrest := ih (before ++ [g]) (h.imp_right fun h x hx => h x (List.mem_cons_of_mem _ hx))
    rw [List.append_assoc, List.singleton_append] at hrest
    unfold buildList
    split
    next hb =>
      rcases h with hlen | h
      · have hroom : handFrame (offerBody s g) s = none := by
          rcases handFrame_cases (offerBody s g) s with ⟨-, e⟩ | ⟨hr, -⟩
          · exact e
          · obtain ⟨hlt, -⟩ := (hasRoom_iff _ _).1 hr
            omega
        rw [hroom]
        exact hrest
      · simp only [buildable, Bool.and_eq_true, Bool.not_eq_true'] at hb
        obtain ⟨⟨⟨hin, hpend⟩, -⟩, -⟩ := hb
        rcases h g List.mem_cons_self with h | h
        · exact absurd (hin.symm.trans h) (by decide)
        · exact absurd (hpend.symm.trans h) (by decide)
    next => exact hrest

theorem buildReady_idle (h : 16 ≤ s.link.queue.length ∨ ∀ g ∈ s.asm.sendList, g.inQueue = true ∨ g.pending = true) :
    buildReady s = s := by
  unfold buildReady
  rw [buildList_idle [] _ h]
  rfl

/-- A full queue serves no mark. -/
theorem handFrame_full (b : Body) (h : 16 ≤ s.link.queue.length) : handFrame b s = none := by
  rcases handFrame_cases b s with ⟨-, e⟩ | ⟨hr, -⟩
  · exact e
  · obtain ⟨hlt, -⟩ := (hasRoom_iff _ _).1 hr
    omega

theorem foldl_fixed {α : Type} {f : State → α → State} (l : List α) (h : ∀ e, f s e = s) : l.foldl f s = s := by
  induction l with
  | nil => rfl
  | cons e l ih => rw [List.foldl_cons, h, ih]

/-- With no room, or with nothing owed or buildable, nothing happens (R81). -/
theorem offerRoom_idle (h : 16 ≤ s.link.queue.length ∨ NothingToSend s) : offerRoom s = s := by
  have hdone : offerDone s = s := by
    rcases offerDone_cases s with ⟨-, e⟩ | ⟨-, e⟩ | ⟨ho, hlen, -⟩
    · exact e
    · exact e
    · rcases h with h | ⟨hno, -⟩
      · omega
      · exact absurd (hno.symm.trans ho) (by decide)
  have hlane : (s.lane.filter (·.owed)).foldl (fun x e => offerLaneReceipt e x) s = s := by
    rcases h with hlen | ⟨-, hno, -⟩
    · exact foldl_fixed _ fun e => by simp only [offerLaneReceipt, handFrame_full _ hlen]
    · rw [List.filter_eq_nil_iff.2 fun e he => by simp [hno e he]]
      rfl
  have hdeck : (s.deck.entries.filter (·.owed)).foldl (fun x e => offerDeckReceipt e x) s = s := by
    rcases h with hlen | ⟨-, -, hno, -⟩
    · exact foldl_fixed _ fun e => by simp only [offerDeckReceipt, handFrame_full _ hlen]
    · rw [List.filter_eq_nil_iff.2 fun e he => by simp [hno e he]]
      rfl
  unfold offerRoom
  dsimp only
  rw [hdone, hlane, hdeck]
  exact buildReady_idle (h.imp_right fun ⟨_, _, _, h⟩ => h)

/-! ## The completed frame -/

/-- A frame other than a BEACON stays in the queue through routine steps (R79). -/
theorem Routine.keepsFrame (h : Routine p s t) {f : Queued} (hf : f ∈ s.link.queue) (hb : isBeacon f = false) :
    f ∈ t.link.queue := by
  induction h with
  | same h => rw [link_of_net h]; exact hf
  | @hand s t b _ h =>
    rcases handFrame_cases b s with ⟨-, e⟩ | ⟨-, e⟩
    · cases h.symm.trans e
    · cases h.symm.trans e; exact mem_insertQueued.2 (.inr hf)
  | place s =>
    rcases placeBeacon_cases s with e | ⟨g, -, -, e⟩ | ⟨-, -, e⟩ | e <;> rw [e]
    · exact hf
    · exact mem_insertQueued.2 (.inr (List.mem_filter.2 ⟨hf, by simp [hb]⟩))
    · exact mem_insertQueued.2 (.inr hf)
    · exact hf
  | timer => exact hf
  | shelf => exact hf
  | near h => rw [h]; exact hf
  | trans _ _ ih1 ih2 => exact ih2 (ih1 hf)

/-- Off the line, a beacon that waited takes its place and waits no more (R79). -/
theorem placeWaiting_state (h : Unmarked s.link.queue) : ∃ q d,
    placeWaiting s = { s with link := { s.link with queue := q, beaconWaiting := false }, dir := d } := by
  unfold placeWaiting
  split
  next hw =>
    rcases hp : (setLink { s.link with beaconWaiting := false } s).link.queue.find? isBeacon with _ | f
    · unfold placeBeacon
      rw [hp]
      dsimp only
      split
      · exact ⟨_, _, rfl⟩
      · exact ⟨s.link.queue, s.dir, rfl⟩
    · have hoff : f.onLine = false := by
        simpa using List.any_eq_false.1 h f (List.mem_of_find?_eq_some hp)
      unfold placeBeacon
      rw [hp]
      dsimp only
      rw [if_neg (by simp [hoff])]
      exact ⟨_, _, rfl⟩
  next hw =>
    have hw : s.link.beaconWaiting = false := by simpa using hw
    exact ⟨s.link.queue, s.dir, by rw [← hw]⟩

/-- The state once the completed frame has left the queue (R73). -/
def freed (s : State) : State :=
  setLink { s.link with queue := s.link.queue.filter (fun g => !g.onLine), failures := 0 } s

theorem freed_unmarked (s : State) : Unmarked (freed s).link.queue := by
  simp [Unmarked, freed, setLink]

theorem exec_transmitComplete {f : Queued} (hr : s.pins.resetHeld = false) (hl : s.link.line = .joined)
    (hf : s.link.queue.find? (·.onLine) = some f) : exec .transmitComplete s = .next (offerRoom (placeWaiting
      (match offerTarget f.body with
        | some target => completeOffer target (freed s)
        | none => freed s))) := by
  refine congrArg Host.Outcome.next ?_
  rw [live_free _ hr]
  unfold completeAttempt onLineFrame
  rw [hf]
  dsimp only
  rw [if_pos hl]
  rfl

/-- What follows the completion, from the state in which its own effects are done. -/
theorem served_after {x : State} (hx : Unmarked x.link.queue) : ∃ t, offerRoom (placeWaiting x) = t
    ∧ t.link.failures = x.link.failures ∧ (∀ g ∈ t.link.queue, g.onLine = false)
    ∧ (∀ g ∈ x.link.queue, isBeacon g = false → g ∈ t.link.queue)
    ∧ (NothingToSend x → x.link.beaconWaiting = false → t.link.queue = x.link.queue)
    ∧ t.asm.sendList.map (·.told) = x.asm.sendList.map (·.told)
    ∧ t = { x with
        link := { x.link with queue := t.link.queue, beaconWaiting := false },
        asm := { x.asm with sendList := t.asm.sendList }, dir := t.dir, lane := t.lane, deck := t.deck,
        dep := t.dep } := by
  have hroutine : Routine True x (offerRoom (placeWaiting x)) := (placeWaiting_routine x).trans (offerRoom_routine _)
  obtain ⟨q, d, hw⟩ := placeWaiting_state hx
  obtain ⟨lane, deck, ho⟩ := offerRoom_offered (placeWaiting x)
  refine ⟨_, rfl, (congrArg Link.failures hroutine.wire :), fun g hg => ?_, fun g hg hb => hroutine.keepsFrame hg hb,
    fun hn hb => ?_, ?_, ?_⟩
  · simpa using List.any_eq_false.1 (hroutine.unmarked hx) g hg
  · have hq : placeWaiting x = x := if_neg (by simp [hb])
    rw [hq, offerRoom_idle (.inr hn)]
  · have hsame : (placeWaiting x).asm = x.asm := by rw [hw]
    rw [← hsame]
    exact map_of_built (fun _ _ => rfl) ho.groups
  · have hframe := ho.frame
    generalize offerRoom (placeWaiting x) = t at hframe ⊢
    rw [hw] at hframe
    generalize t.asm.sendList = sl at hframe ⊢
    generalize t.link.queue = q' at hframe ⊢
    rw [hframe]

theorem isBeacon_eq_false {g : Queued} (h : g.body.kind ≠ .beacon) : isBeacon g = false := by
  simpa [isBeacon] using h

theorem mem_freed {g : Queued} (h : g ∈ s.link.queue) (ho : g.onLine = false) : g ∈ (freed s).link.queue :=
  List.mem_filter.2 ⟨h, by simp [ho]⟩

/-- The state once a completed OFFER is reported (R105). -/
def reported (target : Nat) (g : ClosedGroup) (s : State) : State := { s with
  table := s.table.map (fun e => if e.label ∈ g.members then
    { e with
      state := .offered target (g.number.getD 0)
        (match e.state with | .offered _ _ n _ => if g.resend = true then n + 1 else 1 | _ => 1) (.left 2) } else e)
  asm := { s.asm with sendList := s.asm.sendList.filter (fun x => !(x.target == target && x.inQueue)) } }

theorem completeOffer_reported {target : Nat} {g : ClosedGroup}
    (h : s.asm.sendList.find? (fun x => x.target == target && x.inQueue) = some g) :
    completeOffer target s = reported target g s := by
  unfold completeOffer reported
  rw [h]
  dsimp only
  refine state_eq rfl rfl rfl rfl rfl rfl rfl rfl rfl rfl rfl rfl (List.map_congr_left fun e _ => ?_) rfl rfl rfl rfl
  simp only [List.contains_iff_mem]
  split
  · rfl
  · rfl

theorem offerTarget_eq_none {b : Body} (h : b.kind ≠ .offer) : offerTarget b = none := by
  cases b
  case offer m => exact absurd rfl h
  all_goals rfl

/-- Settles O53: the frame completed leaves the queue, its group leaves the send list, and the room found is offered. -/
theorem completionsFreeTheQueue : Obligations.CompletionsFreeTheQueue := by
  unfold Obligations.CompletionsFreeTheQueue
  refine ⟨fun s f hr hl hf hk => ?_, fun s f m g hr hl hf hm hg _ => ?_, fun s hr ho hroom => ?_,
    fun s e hr ho he hroom => ?_, fun s hr h => ?_⟩
  · have hnone : offerTarget f.body = none := offerTarget_eq_none hk
    obtain ⟨t, ht, h1, h2, h3, h4, h5, h6⟩ := served_after (freed_unmarked s)
    refine ⟨t, ?_, h1, h2, fun x hx hoff hb => h3 x (mem_freed hx hoff) (isBeacon_eq_false hb), fun hn hw => h4 hn hw, h5,
      ?_, ?_⟩
    · rw [exec_transmitComplete hr hl hf, hnone]; exact congrArg _ ht
    · rw [h6]; rfl
    · exact h6
  · obtain ⟨t, ht, h1, h2, h3, h4, h5, h6⟩ := served_after (x := reported m.target g (freed s)) (freed_unmarked s)
    refine ⟨t, ?_, h1, h2, fun x hx hoff hb => h3 x (mem_freed hx hoff) (isBeacon_eq_false hb), fun hn hw => ?_, h5,
      ?_, ?_, ?_, ?_, ?_⟩
    · rw [exec_transmitComplete hr hl hf, hm]
      refine congrArg Host.Outcome.next (Eq.trans ?_ ht)
      exact congrArg (fun x => offerRoom (placeWaiting x)) (completeOffer_reported hg)
    · refine h4 ⟨hn.1, hn.2.1, hn.2.2.1, fun x hx => hn.2.2.2 x (List.mem_filter.1 hx).1⟩ hw
    all_goals rw [h6]; rfl
  · obtain ⟨lane, deck, h⟩ := offerRoom_offered s
    have hlen : s.link.queue.length < 16 := ((hasRoom_iff _ _).1 hroom).1
    refine ⟨offerRoom s, congrArg Host.Outcome.next (live_free _ hr), ?_, h.done ho hlen, h.blocks⟩
    rw [h.dep_eq]
    simp [Nat.not_le.2 hlen]
  · obtain ⟨lane, deck, h⟩ := offerRoom_offered s
    have hlen : s.link.queue.length < 16 := ((hasRoom_iff _ _).1 hroom).1
    refine ⟨offerRoom s, congrArg Host.Outcome.next (live_free _ hr), h.lanePlaced e (h.laneFirst ho hlen e he), ?_, ?_, ?_⟩
    · have hmem := h.laneFirst ho hlen e he
      rw [h.lane_eq]
      intro x hx hlab
      obtain ⟨y, -, rfl⟩ := List.mem_map.1 hx
      have hy : y.label = e.label := hlab
      have hany : lane.any (fun z => z.label == y.label) = true := List.any_eq_true.2 ⟨e, hmem, by simpa using hy.symm⟩
      simp [keptLane, hany]
    · rw [h.lane_eq, List.map_map]
      rfl
    · have hdep : (offerRoom s).dep = s.dep := by
        rw [h.dep_eq, ho, Bool.false_and, ← ho]
      have hb := h.blocks
      rw [hdep] at hb
      exact hb
  · exact congrArg Host.Outcome.next ((live_free _ hr).trans (offerRoom_idle h))

end Sys2Proof.Machine
end

section
/-! SUPPORT. The groups at a RESTART LINK (R106): flushed groups are pending again, and every open group closes as
pending. That none stays open is seen from the closing at the end of a run, which opens and closes the same groups. -/

namespace Sys2Proof.Machine

variable {s t : State} {a b : Assembler}

/-! ## Closing and serving, whatever the run -/

/-- Whether a label is a member of a group of the send list. -/
def sent (a : Assembler) (label : Nat) : Bool := a.sendList.any (fun g => g.members.contains label)

theorem grouped_eq (a : Assembler) (label : Nat) :
    grouped a label = (a.openGroups.any (fun g => g.members.contains label) || sent a label) := rfl

/-- Two states whose groups open, fill and close alike: the numbers that closed groups take are not looked at. -/
structure Alike (s t : State) : Prop where
  table : s.table = t.table
  straps : s.straps = t.straps
  openGroups : s.asm.openGroups = t.asm.openGroups
  sent : ∀ label, sent s.asm label = sent t.asm label

theorem Alike.waitingEntries (h : Alike s t) : waitingEntries s = waitingEntries t := by
  unfold Machine.waitingEntries
  rw [h.table]
  refine List.filter_congr fun e _ => ?_
  simp only [grouped_eq, h.openGroups, h.sent]

theorem sent_append (l : List ClosedGroup) (g : ClosedGroup) (label : Nat) (o : List OpenGroup) (r : List TargetRecord) :
    sent { openGroups := o, sendList := l ++ [g], targets := r } label =
      (l.any (fun g => g.members.contains label) || g.members.contains label) := by
  simp [sent]

theorem sent_closeOpen (g : OpenGroup) (s : State) (label : Nat) :
    sent (closeOpen g s).asm label = (sent s.asm label || g.members.contains label) := sent_append _ _ _ _ _

theorem sent_closePending (g : OpenGroup) (s : State) (label : Nat) :
    sent (closePending g s).asm label = (sent s.asm label || g.members.contains label) := sent_append _ _ _ _ _

theorem sent_closeEmpty (target : Nat) (s : State) (label : Nat) :
    sent (closeEmpty target s).asm label = sent s.asm label :=
  (sent_append _ _ _ _ _).trans (by simp [sent])

theorem sent_closeFull (g : OpenGroup) (s : State) (label : Nat) :
    sent (closeFull g s).asm label = (sent s.asm label || g.members.contains label) := by
  unfold closeFull
  dsimp only
  split
  · rw [sent_closeEmpty, sent_closeOpen]
  · exact sent_closeOpen g s label

theorem closeFull_openGroups (g : OpenGroup) (s : State) :
    (closeFull g s).asm.openGroups = s.asm.openGroups.filter (fun x => x.target != g.target) := by
  unfold closeFull
  dsimp only
  split <;> rfl

theorem Alike.closeFull (h : Alike s t) (g : OpenGroup) : Alike (closeFull g s) (closeFull g t) where
  table := by rw [table_of_keepAsm (closeFull_keep g s), table_of_keepAsm (closeFull_keep g t), h.table]
  straps := by rw [straps_of_keepAsm (closeFull_keep g s), straps_of_keepAsm (closeFull_keep g t), h.straps]
  openGroups := by rw [closeFull_openGroups, closeFull_openGroups, h.openGroups]
  sent label := by rw [sent_closeFull, sent_closeFull, h.sent]

/-- The closing of a RESTART LINK and that of a run's end take the same group away (R102, R106). -/
theorem Alike.closeHead (h : Alike s t) (g : OpenGroup) : Alike (closePending g s) (closeOpen g t) where
  table := h.table
  straps := h.straps
  openGroups := by
    show s.asm.openGroups.filter _ = t.asm.openGroups.filter _
    rw [h.openGroups]
  sent label := by rw [sent_closePending, sent_closeOpen, h.sent]

theorem Alike.joinGroup (h : Alike s t) (label target : Nat) :
    Alike (joinGroup label target s) (joinGroup label target t) := by
  have hsize : groupSize s.straps = groupSize t.straps := by rw [h.straps]
  unfold Machine.joinGroup
  rw [h.openGroups, hsize]
  split
  · dsimp only
    split
    · exact h.closeFull _
    · exact ⟨h.table, h.straps, rfl, h.sent⟩
  · split
    · dsimp only
      split
      · exact h.closeFull _
      · exact ⟨h.table, h.straps, rfl, h.sent⟩
    · exact h

theorem Alike.servePass (h : Alike s t) (es : List TransferEntry) : Alike (servePass es s) (servePass es t) := by
  induction es generalizing s t with
  | nil => exact h
  | cons e es ih =>
    rw [servePass_cons, servePass_cons]
    refine ih ?_
    cases he : e.state with
    | queued target => simpa [Machine.servePass, he] using h.joinGroup e.label target
    | parked => simpa [Machine.servePass, he] using h
    | offered => simpa [Machine.servePass, he] using h
    | accepted => simpa [Machine.servePass, he] using h

theorem Alike.serveLoop (h : Alike s t) (fuel : Nat) : Alike (serveLoop fuel s) (serveLoop fuel t) := by
  induction fuel generalizing s t with
  | zero => exact h
  | succ fuel ih =>
    have hpass := h.servePass (Machine.waitingEntries t)
    unfold Machine.serveLoop
    dsimp only
    rw [h.waitingEntries, hpass.waitingEntries]
    split
    · exact ih hpass
    · exact hpass

theorem Alike.serveWaiting (h : Alike s t) : Alike (serveWaiting s) (serveWaiting t) := by
  unfold Machine.serveWaiting
  rw [h.table]
  exact h.serveLoop _

theorem Alike.closeLoop (h : Alike s t) (fuel : Nat) :
    Alike (closeLoop closePending fuel s) (closeLoop closeOpen fuel t) := by
  induction fuel generalizing s t with
  | zero => exact h
  | succ fuel ih =>
    unfold Machine.closeLoop
    rw [h.openGroups]
    split
    · exact h
    · exact ih (h.closeHead _).serveWaiting

/-- Closing all open groups at a RESTART LINK leaves none open, whether or not a run is active (R106). -/
theorem closeAll_pending_openGroups (s : State) : (closeAll closePending s).asm.openGroups = [] := by
  have h : Alike s { s with run := { s.run with mode := some .openEnded } } := ⟨rfl, rfl, rfl, fun _ => rfl⟩
  rw [closeAll, (h.closeLoop _).openGroups]
  exact closeAll_openGroups (s := { s with run := { s.run with mode := some .openEnded } }) (by simp)

/-! ## The send list grows -/

/-- The send list grows at its end, by groups that are not IN QUEUE. -/
def Appends (a b : Assembler) : Prop := ∃ l, b.sendList = a.sendList ++ l ∧ ∀ x ∈ l, x.inQueue = false

theorem Appends.refl (a : Assembler) : Appends a a := ⟨[], by simp, nofun⟩

theorem Appends.trans {c : Assembler} (h1 : Appends a b) (h2 : Appends b c) : Appends a c := by
  obtain ⟨l, e, hl⟩ := h1
  obtain ⟨m, e', hm⟩ := h2
  refine ⟨l ++ m, by rw [e', e, List.append_assoc], fun x hx => ?_⟩
  exact (List.mem_append.1 hx).elim (hl x) (hm x)

theorem appends_one {x : ClosedGroup} (h : b.sendList = a.sendList ++ [x]) (hx : x.inQueue = false) : Appends a b :=
  ⟨[x], h, fun _ hy => List.mem_singleton.1 hy ▸ hx⟩

theorem closeFull_appends (g : OpenGroup) (s : State) : Appends s.asm (closeFull g s).asm := by
  have h : Appends s.asm (closeOpen g s).asm := appends_one rfl rfl
  unfold closeFull
  dsimp only
  split
  · exact h.trans (appends_one rfl rfl)
  · exact h

theorem joinGroup_appends (label target : Nat) (s : State) : Appends s.asm (joinGroup label target s).asm := by
  unfold joinGroup
  split
  · dsimp only
    split
    · exact closeFull_appends _ s
    · exact .refl _
  · split
    · dsimp only
      split
      · exact closeFull_appends _ s
      · exact .refl _
    · exact .refl _

theorem servePass_appends (es : List TransferEntry) (s : State) : Appends s.asm (servePass es s).asm := by
  induction es generalizing s with
  | nil => exact .refl _
  | cons e es ih =>
    rw [servePass_cons]
    refine Appends.trans ?_ (ih _)
    rcases servePass_singleton e s with he | ⟨target, he⟩ <;> rw [he]
    · exact .refl _
    · exact joinGroup_appends _ _ s

theorem serveLoop_appends (fuel : Nat) (s : State) : Appends s.asm (serveLoop fuel s).asm := by
  induction fuel generalizing s with
  | zero => exact .refl _
  | succ fuel ih =>
    unfold serveLoop
    dsimp only
    split
    · exact (servePass_appends _ s).trans (ih _)
    · exact servePass_appends _ s

theorem closeLoop_pending_appends (fuel : Nat) (s : State) : Appends s.asm (closeLoop closePending fuel s).asm := by
  induction fuel generalizing s with
  | zero => exact .refl _
  | succ fuel ih =>
    unfold closeLoop
    split
    · exact .refl _
    · next g _ _ =>
      have hclose : Appends s.asm (closePending g s).asm := appends_one rfl rfl
      exact (hclose.trans (serveLoop_appends _ _)).trans (ih _)

/-! ## Where no entry waits -/

/-- An open group as a RESTART LINK closes it (R106). -/
def pendingOf (g : OpenGroup) : ClosedGroup :=
  { target := g.target, number := none, members := g.members, kind := .short, resend := false, inQueue := false,
    pending := true }

theorem Alike.refl (s : State) : Alike s s := ⟨rfl, rfl, rfl, fun _ => rfl⟩

theorem Unserved.closePending {g : OpenGroup} {gs : List OpenGroup} (h : s.asm.openGroups = g :: gs) (hs : Unserved s) :
    Unserved (closePending g s) := by
  obtain ⟨hw, hnd⟩ := hs.closeOpen h
  have halike := (Alike.refl s).closeHead g
  exact ⟨halike.waitingEntries.trans hw, halike.openGroups ▸ hnd⟩

/-- With one group to a target, the group that closes leaves the others open. -/
theorem closePending_openGroups {g : OpenGroup} {gs : List OpenGroup} (h : s.asm.openGroups = g :: gs) (hs : Unserved s) :
    (closePending g s).asm.openGroups = gs := by
  have hnd := hs.2
  rw [h, List.map_cons, List.nodup_cons] at hnd
  show s.asm.openGroups.filter (fun x => x.target != g.target) = gs
  rw [h, List.filter_cons_of_neg (by simp), List.filter_eq_self]
  intro x hx
  simpa using fun he : x.target = g.target => hnd.1 (he ▸ List.mem_map_of_mem hx)

/-- Where no entry waits the open groups close as they are, and no number is taken (R106). -/
theorem closeLoop_pending_unserved (fuel : Nat) (hs : Unserved s) (hf : s.asm.openGroups.length ≤ fuel) :
    (closeLoop closePending fuel s).asm.sendList = s.asm.sendList ++ s.asm.openGroups.map pendingOf
      ∧ (closeLoop closePending fuel s).asm.targets = s.asm.targets := by
  induction fuel generalizing s with
  | zero =>
    have hnil : s.asm.openGroups = [] := List.length_eq_zero_iff.1 (by omega)
    simp [closeLoop, hnil]
  | succ fuel ih =>
    unfold closeLoop
    split
    next hnil => simp [hnil]
    next g gs he =>
      have hclosed := hs.closePending he
      have hopen := closePending_openGroups he hs
      rw [serveWaiting, serveLoop_nil _ hclosed.1]
      rw [he, List.length_cons] at hf
      obtain ⟨h1, h2⟩ := ih hclosed (by rw [hopen]; omega)
      rw [h1, h2, hopen, he]
      exact ⟨by simp [closePending, setAsm, dropOpen, pendingOf], rfl⟩

/-! ## The groups restarted -/

/-- A group whose frame is flushed is WAITING and pending (R106). -/
def flushedGroup (g : ClosedGroup) : ClosedGroup := if g.inQueue then { g with inQueue := false, pending := true } else g

/-- The groups of the send list that outlast the flush: a resend with no member is discarded (R104). -/
def flushedList (l : List ClosedGroup) : List ClosedGroup :=
  (l.map flushedGroup).filter (fun g => !(g.resend && g.members.isEmpty))

theorem restartGroups_eq (s : State) :
    restartGroups s = closeAll closePending (setAsm { s.asm with sendList := flushedList s.asm.sendList } s) := rfl

theorem mem_flushedList {x : ClosedGroup} {l : List ClosedGroup} : x ∈ flushedList l ↔
    ∃ g ∈ l, x = flushedGroup g ∧ (g.resend = false ∨ g.members ≠ []) := by
  have hg (g : ClosedGroup) : (flushedGroup g).resend = g.resend ∧ (flushedGroup g).members = g.members := by
    unfold flushedGroup
    split <;> exact ⟨rfl, rfl⟩
  unfold flushedList
  rw [List.mem_filter, List.mem_map]
  constructor
  · rintro ⟨⟨g, hmem, rfl⟩, hk⟩
    rw [(hg g).1, (hg g).2] at hk
    refine ⟨g, hmem, rfl, ?_⟩
    by_cases hr : g.resend = false
    · exact .inl hr
    · refine .inr ?_
      simpa [hr] using hk
  · rintro ⟨g, hmem, rfl, hk⟩
    refine ⟨⟨g, hmem, rfl⟩, ?_⟩
    rw [(hg g).1, (hg g).2]
    rcases hk with hk | hk
    · simp [hk]
    · simp [hk]

theorem sent_flushedList (s : State) (label : Nat) (o : List OpenGroup) (r : List TargetRecord) :
    sent { openGroups := o, sendList := flushedList s.asm.sendList, targets := r } label = sent s.asm label := by
  rw [Bool.eq_iff_iff]
  simp only [sent, List.any_eq_true, mem_flushedList]
  constructor
  · rintro ⟨x, ⟨g, hg, rfl, -⟩, hx⟩
    refine ⟨g, hg, ?_⟩
    unfold flushedGroup at hx
    split at hx <;> exact hx
  · rintro ⟨g, hg, hx⟩
    refine ⟨flushedGroup g, ⟨g, hg, rfl, .inr ?_⟩, ?_⟩
    · rintro hnil
      simp [hnil] at hx
    · unfold flushedGroup
      split <;> exact hx

/-- What a RESTART LINK leaves of the groups, before the room is offered (R106). -/
structure GroupsRestarted (s : State) (a : Assembler) : Prop where
  openGroups : a.openGroups = []
  keeps : flushedList s.asm.sendList ⊆ a.sendList
  waiting : ∀ x ∈ a.sendList, x.inQueue = false
  unserved : Unserved s → a.sendList = flushedList s.asm.sendList ++ s.asm.openGroups.map pendingOf
    ∧ a.targets = s.asm.targets

theorem restartGroups_restarted (s : State) : GroupsRestarted s (restartGroups s).asm := by
  rw [restartGroups_eq]
  generalize hu : setAsm { s.asm with sendList := flushedList s.asm.sendList } s = u
  have happ : Appends u.asm (closeAll closePending u).asm := closeLoop_pending_appends _ u
  have halike : Alike u s := by
    subst hu
    exact ⟨rfl, rfl, rfl, fun label => sent_flushedList s label _ _⟩
  have hlist : u.asm.sendList = flushedList s.asm.sendList := by rw [← hu]; rfl
  obtain ⟨l, hl, hoff⟩ := happ
  refine ⟨closeAll_pending_openGroups u, ?_, fun x hx => ?_, fun hs => ?_⟩
  · rw [hl, hlist]; exact List.subset_append_left _ _
  · rw [hl, hlist] at hx
    rcases List.mem_append.1 hx with hx | hx
    · obtain ⟨g, -, rfl, -⟩ := mem_flushedList.1 hx
      unfold flushedGroup
      split
      · rfl
      · next h => simpa using h
    · exact hoff x hx
  · have hus : Unserved u := ⟨halike.waitingEntries.trans hs.1, halike.openGroups ▸ hs.2⟩
    obtain ⟨h1, h2⟩ := closeLoop_pending_unserved (u.asm.openGroups.length + u.table.length) hus (Nat.le_add_right _ _)
    exact ⟨by rw [closeAll, h1, hlist, halike.openGroups], by rw [closeAll, h2, ← hu]; rfl⟩

end Sys2Proof.Machine
end

section
/-! SUPPORT. What RESTART LINK flushes is owed or pending again, and what the emptied queue may then hold (R82, R106). -/

namespace Sys2Proof.Machine

variable {s t w : State} {lost : Bool}

/-! ## The flush -/

/-- The receipt-owed mark of a lane entry once a queue is flushed (R82). -/
def flushedLane (q : List Queued) (e : LaneEntry) : LaneEntry := { e with owed := e.owed || receiptQueued q e.label }

/-- The receipt-owed mark of a deck entry once a queue is flushed (R82). -/
def flushedDeck (q : List Queued) (e : DeckEntry) : DeckEntry :=
  { e with owed := e.owed || (e.tag == .outbound && receiptQueued q e.label) }

/-- The marks of lane, deck and Departure Control once the frames of a queue are flushed (R82). -/
def flushMarks (q : List Queued) (s : State) : State :=
  { s with
    lane := s.lane.map (flushedLane q), deck := { s.deck with entries := s.deck.entries.map (flushedDeck q) }
    dep := { s.dep with doneOwed := s.dep.doneOwed || q.any (fun f => f.body.kind == .done) } }

/-- With no RECEIPT and no DONE to flush the marks stay. -/
theorem flushMarks_none {q : List Queued} (hr : ∀ label, receiptQueued q label = false)
    (hd : q.any (fun f => f.body.kind == .done) = false) (s : State) : flushMarks q s = s := by
  have hlane : s.lane.map (flushedLane q) = s.lane := by
    refine (List.map_congr_left fun e _ => ?_).trans (List.map_id _)
    simp [flushedLane, hr]
  have hdeck : s.deck.entries.map (flushedDeck q) = s.deck.entries := by
    refine (List.map_congr_left fun e _ => ?_).trans (List.map_id _)
    simp [flushedDeck, hr]
  simp [flushMarks, hlane, hdeck, hd]

/-- One frame flushed (R82). -/
theorem flushFrame_eq (f : Queued) (s : State) : flushFrame f.body s = flushMarks [f] s := by
  obtain ⟨key, b, onLine⟩ := f
  cases b
  case receipt m =>
    refine state_eq rfl rfl rfl rfl rfl ?_ ?_ rfl rfl rfl rfl rfl rfl rfl rfl ?_ rfl
    · show setDeckOwed m.label true s.deck = _
      rw [setDeckOwed_eq]
      congr 1
      refine List.map_congr_left fun e _ => ?_
      by_cases h : e.label = m.label
      · cases ht : e.tag <;> simp [flushedDeck, receiptQueued, h, ht]
      · have hne : (m.label == e.label) = false := by simpa using Ne.symm h
        simp [flushedDeck, receiptQueued, h, hne]
    · show setLaneOwed m.label true s.lane = _
      rw [setLaneOwed_eq]
      refine List.map_congr_left fun e _ => ?_
      by_cases h : e.label = m.label
      · simp [flushedLane, receiptQueued, h]
      · have hne : (m.label == e.label) = false := by simpa using Ne.symm h
        simp [flushedLane, receiptQueued, h, hne]
    · have hk : ((Body.receipt m).kind == .done) = false := rfl
      simp [flushFrame, flushMarks, hk]
  case done m =>
    have hlane : s.lane.map (flushedLane [⟨key, .done m, onLine⟩]) = s.lane := by
      refine (List.map_congr_left fun e _ => ?_).trans (List.map_id _)
      simp [flushedLane, receiptQueued]
    have hdeck : s.deck.entries.map (flushedDeck [⟨key, .done m, onLine⟩]) = s.deck.entries := by
      refine (List.map_congr_left fun e _ => ?_).trans (List.map_id _)
      simp [flushedDeck, receiptQueued]
    simp [flushMarks, flushFrame, setDep, hlane, hdeck, Body.kind]
  all_goals exact (flushMarks_none (fun _ => rfl) rfl s).symm

theorem receiptQueued_cons (f : Queued) (q : List Queued) (label : Nat) :
    receiptQueued (f :: q) label = (receiptQueued [f] label || receiptQueued q label) := by
  simp [receiptQueued]

theorem flushMarks_cons (f : Queued) (q : List Queued) (s : State) :
    flushMarks q (flushFrame f.body s) = flushMarks (f :: q) s := by
  rw [flushFrame_eq]
  refine state_eq rfl rfl rfl rfl rfl ?_ ?_ rfl rfl rfl rfl rfl rfl rfl rfl ?_ rfl
  · simp only [flushMarks, List.map_map]
    congr 1
    refine List.map_congr_left fun e _ => ?_
    simp [flushedDeck, receiptQueued_cons f q, Bool.or_assoc, Bool.and_or_distrib_left]
  · simp only [flushMarks, List.map_map]
    refine List.map_congr_left fun e _ => ?_
    simp [flushedLane, receiptQueued_cons f q, Bool.or_assoc]
  · simp [flushMarks, Bool.or_assoc]

theorem flushFrames_eq (q : List Queued) (s : State) : q.foldl (fun u f => flushFrame f.body u) s = flushMarks q s := by
  induction q generalizing s with
  | nil => exact (flushMarks_none (fun _ => rfl) rfl s).symm
  | cons f q ih => rw [List.foldl_cons, ih, flushMarks_cons]

/-- The state of a RESTART LINK once the frames are flushed, before the groups restart. -/
def drained (s : State) : State :=
  setLink { s.link with queue := [], beaconWaiting := false } (flushMarks s.link.queue s)

theorem cleared_eq (s : State) : cleared s = { flushMarks s.link.queue s with
    link := { s.link with queue := [], beaconWaiting := false, duplicate := false, rejoin := none }
    asm := (restartGroups (drained s)).asm } := by
  have hflush : flushQueue s = restartGroups (drained s) := by
    unfold flushQueue
    rw [flushFrames_eq]
    rfl
  unfold cleared
  rw [hflush]
  refine state_eq ?_ ?_ ?_ ?_ ?_ ?_ ?_ ?_ ?_ ?_ ?_ ?_ ?_ rfl ?_ ?_ ?_ <;> simp [drained]

theorem drained_restarted (s : State) : GroupsRestarted s (restartGroups (drained s)).asm := by
  obtain ⟨h1, h2, h3, h4⟩ := restartGroups_restarted (drained s)
  exact ⟨h1, h2, h3, h4⟩

/-! ## The emptied queue offered to what is owed -/

/-- The state `w` in which a RESTART LINK taken in `s` offers the room: the queue is flushed, and holds at most the beacon
of a call lost. -/
structure Emptied (lost : Bool) (s w : State) : Prop where
  straps : w.straps = s.straps
  table : w.table = s.table
  lane : w.lane = s.lane.map (flushedLane s.link.queue)
  deck : w.deck = { s.deck with entries := s.deck.entries.map (flushedDeck s.link.queue) }
  doneOwed : w.dep.doneOwed = (s.dep.doneOwed || s.link.queue.any (fun f => f.body.kind == .done))
  asm : GroupsRestarted s w.asm
  length : w.link.queue.length ≤ 1
  beacon : ∀ f ∈ w.link.queue, f.onLine = false ∧ lost = true ∧ f.body = .beacon (buildBeacon w)

section Offered

variable {lane : List LaneEntry} {deck : List DeckEntry}

theorem RoomOffered.port_eq (h : RoomOffered s t lane deck) : t.port = s.port := (congrArg State.port h.state :)
theorem RoomOffered.notes_eq (h : RoomOffered s t lane deck) : t.notes = s.notes := (congrArg State.notes h.state :)
theorem RoomOffered.link_eq (h : RoomOffered s t lane deck) : t.link = { s.link with queue := t.link.queue } :=
  (congrArg State.link h.frame :)
theorem RoomOffered.docking_eq (h : RoomOffered s t lane deck) : t.docking = s.docking := (congrArg State.docking h.state :)
theorem RoomOffered.store_eq (h : RoomOffered s t lane deck) : t.store = s.store := (congrArg State.store h.state :)
theorem RoomOffered.urgency_eq (h : RoomOffered s t lane deck) : t.urgency = s.urgency := (congrArg State.urgency h.state :)
theorem RoomOffered.straps_eq (h : RoomOffered s t lane deck) : t.straps = s.straps := (congrArg State.straps h.state :)
theorem RoomOffered.time_eq (h : RoomOffered s t lane deck) : t.time = s.time := (congrArg State.time h.state :)
theorem RoomOffered.dir_eq (h : RoomOffered s t lane deck) : t.dir = s.dir := (congrArg State.dir h.state :)

theorem RoomOffered.outboundCount (h : RoomOffered s t lane deck) : outboundCount t.deck = outboundCount s.deck := by
  rw [h.deck_eq]
  simp [Machine.outboundCount, List.filter_map, Function.comp_def, keptDeck]

/-- The beaconed values hang on no receipt-owed mark and no frame (R84). -/
theorem RoomOffered.contentNow (h : RoomOffered s t lane deck) : contentNow t = contentNow s := by
  refine contentNow_congr h.docking_eq ?_ ?_ h.outboundCount ?_ (by rw [h.store_eq]) h.urgency_eq
  · rw [h.dep_eq]
  · rw [h.dep_eq]
  · rw [h.lane_eq, List.length_map]

theorem RoomOffered.buildBeacon (h : RoomOffered s t lane deck) : buildBeacon t = buildBeacon s := by
  unfold Machine.buildBeacon
  rw [h.contentNow, h.straps_eq, h.docking_eq, h.time_eq, h.dir_eq]

theorem zip_map_eq {α β : Type} (φ : α → β) (l : List α) : l.zip (l.map φ) = l.map (fun x => (x, φ x)) := by
  induction l with
  | nil => rfl
  | cons x l ih => rw [List.map_cons, List.zip_cons_cons, ih, List.map_cons]

theorem offerBody_congr {u : State} (hs : u.straps = s.straps) (ht : u.table = s.table) (g : ClosedGroup) :
    offerBody u g = offerBody s g := by
  simp only [offerBody, offerItems, entryOf, hs, ht]

/-- A frame that stands in the queue after the room is offered may stand there (R81, R82). -/
theorem Emptied.queuedAgain (hw : Emptied lost s w) (h : RoomOffered w t lane deck) {f : Queued}
    (hf : f ∈ t.link.queue) : queuedAgain lost s t f = true := by
  unfold Machine.queuedAgain
  rcases h.only f hf with hf | ⟨ho, rfl⟩ | ⟨e, he, rfl⟩ | ⟨e, he, rfl⟩ | ⟨ho, x, hx, hin, hp, hbody⟩
  · obtain ⟨hoff, hlost, hbody⟩ := hw.beacon f hf
    rw [hoff, hbody, h.buildBeacon]
    simp [hlost]
  · rw [hw.doneOwed] at ho
    simp only [framed, hw.straps, ho]
    simp
  · obtain ⟨hmem, howed⟩ := List.mem_filter.1 (h.laneSub he)
    rw [hw.lane] at hmem
    obtain ⟨e0, he0, rfl⟩ := List.mem_map.1 hmem
    have hany : s.lane.any (fun x => x.label == e0.label && x.origin == e0.origin
        && (x.owed || receiptQueued s.link.queue x.label)) = true :=
      List.any_eq_true.2 ⟨e0, he0, by simpa [flushedLane] using howed⟩
    simp [framed, receiptFor, hw.straps, flushedLane, hany]
  · obtain ⟨hmem, howed⟩ := List.mem_filter.1 (h.deckSub he)
    rw [hw.deck] at hmem
    obtain ⟨e0, he0, rfl⟩ := List.mem_map.1 hmem
    have hex : ∃ x ∈ s.deck.entries, x.label = e0.label
        ∧ (x.owed = true ∨ receiptQueued s.link.queue x.label = true) := by
      simp only [flushedDeck, Bool.or_eq_true, Bool.and_eq_true] at howed
      exact ⟨e0, he0, rfl, howed.imp_right (·.2)⟩
    simp only [framed, receiptFor, hw.straps, flushedDeck, Bool.and_eq_true, Bool.or_eq_true, List.any_eq_true, beq_iff_eq]
    exact ⟨by decide, by simp, .inr (by simpa using hex)⟩
  · rw [ho, hbody, offerBody_congr hw.straps hw.table]
    have hany : t.asm.sendList.any (fun g => g.inQueue && !g.pending && offerBody s x == offerBody s g) = true :=
      List.any_eq_true.2 ⟨x, hx, by simp [hin, hp]⟩
    exact hany

/-- Each group of a send list stands in its place after the room is offered. -/
theorem exists_builtFrom {l r : List ClosedGroup} (h : List.Forall₂ BuiltFrom l r) {g : ClosedGroup} (hg : g ∈ l) :
    ∃ x ∈ r, BuiltFrom g x := by
  induction h with
  | nil => cases hg
  | @cons a b l r hab _ ih =>
    rcases List.mem_cons.1 hg with rfl | hg
    · exact ⟨b, List.mem_cons_self, hab⟩
    · obtain ⟨x, hx, hb⟩ := ih hg
      exact ⟨x, List.mem_cons_of_mem _ hx, hb⟩

theorem exists_builtOf {l r : List ClosedGroup} (h : List.Forall₂ BuiltFrom l r) {x : ClosedGroup} (hx : x ∈ r) :
    ∃ g ∈ l, BuiltFrom g x := by
  induction h with
  | nil => cases hx
  | @cons a b l r hab _ ih =>
    rcases List.mem_cons.1 hx with rfl | hx
    · exact ⟨a, List.mem_cons_self, hab⟩
    · obtain ⟨g, hg, hb⟩ := ih hx
      exact ⟨g, List.mem_cons_of_mem _ hg, hb⟩

/-- A pending group stands as it is after the room is offered (R104). -/
theorem mem_of_pending {l r : List ClosedGroup} (h : List.Forall₂ BuiltFrom l r) {g : ClosedGroup} (hg : g ∈ l)
    (hp : g.pending = true) : g ∈ r := by
  obtain ⟨x, hx, rfl | ⟨-, hno, -⟩⟩ := exists_builtFrom h hg
  · exact hx
  · exact absurd (hno.symm.trans hp) (by decide)

theorem Emptied.flushedQueue (hw : Emptied lost s w) (h : RoomOffered w t lane deck) : FlushedQueue lost s t := by
  refine ⟨fun f hf => hw.queuedAgain h hf, fun hg hwait x hx hin => ?_, fun ho => ?_⟩
  · obtain ⟨hlist, -⟩ := hw.asm.unserved ⟨hwait, hg.2.1⟩
    obtain ⟨g, hg, rfl | ⟨hoff, hp, rfl⟩⟩ := exists_builtOf h.groups hx
    · exact absurd ((hw.asm.waiting x hg).symm.trans hin) (by decide)
    · rw [hlist] at hg
      rcases List.mem_append.1 hg with hg | hg
      · obtain ⟨g0, hg0, rfl, -⟩ := mem_flushedList.1 hg
        unfold flushedGroup at hp hoff ⊢
        split at hp
        · cases hp
        · next hq => rw [if_neg hq] at hoff ⊢; rw [← hoff]; exact hg0
      · obtain ⟨g0, -, rfl⟩ := List.mem_map.1 hg
        cases hp
  · have howed : w.dep.doneOwed = true := by
      rw [hw.doneOwed, Bool.or_eq_true, List.any_eq_true]
      exact ho.imp_right fun ⟨f, hf, hk⟩ => ⟨f, hf, beq_iff_eq.2 hk⟩
    have hlen : w.link.queue.length < 16 := hw.length.trans_lt (by decide)
    refine ⟨?_, _, h.done howed hlen, by simp [framed, hw.straps]⟩
    rw [h.dep_eq]
    simp [Nat.not_le.2 hlen]

theorem Emptied.pendingAgain (hw : Emptied lost s w) (h : RoomOffered w t lane deck) : PendingAgain s t := by
  refine ⟨fun g hg hk => ?_, fun hg hwait g hopen => ?_, fun hg hwait => ?_⟩
  · have hmem : flushedGroup g ∈ w.asm.sendList := hw.asm.keeps (mem_flushedList.2 ⟨g, hg, rfl, hk⟩)
    unfold flushedGroup at hmem
    split
    · next hin => rw [if_pos hin] at hmem; exact mem_of_pending h.groups hmem rfl
    · next hin =>
      rw [if_neg hin] at hmem
      obtain ⟨x, hx, rfl | ⟨hoff, -, rfl⟩⟩ := exists_builtFrom h.groups hmem
      · have hoff : x.inQueue = false := by simpa using hin
        exact ⟨x, hx, by rw [← hoff]⟩
      · exact ⟨_, hx, by rw [← hoff]⟩
  · obtain ⟨hlist, -⟩ := hw.asm.unserved ⟨hwait, hg.2.1⟩
    have hmem : pendingOf g ∈ w.asm.sendList := by
      rw [hlist]
      exact List.mem_append_right _ (List.mem_map_of_mem hopen)
    exact mem_of_pending h.groups hmem rfl
  · obtain ⟨-, htargets⟩ := hw.asm.unserved ⟨hwait, hg.2.1⟩
    exact (congrArg (fun x : State => x.asm.targets) h.frame).trans htargets

/-- The labels of the lane differ where every label of the node does (R34). -/
theorem lane_nodup (h : LabelLaw s) : (s.lane.map (·.label)).Nodup := by
  simp only [LabelLaw, allLabels, List.append_assoc] at h
  exact h.of_append_right.of_append_left

theorem deck_nodup (h : LabelLaw s) : (s.deck.entries.map (·.label)).Nodup := by
  simp only [LabelLaw, allLabels, List.append_assoc] at h
  exact h.of_append_left

theorem Emptied.owedAgain (hw : Emptied lost s w) (h : RoomOffered w t lane deck) : OwedAgain s t := by
  have hlane : t.lane = s.lane.map (fun e => keptLane lane (flushedLane s.link.queue e)) := by
    rw [h.lane_eq, hw.lane, List.map_map]; rfl
  have hdeck : t.deck = { s.deck with
      entries := s.deck.entries.map (fun e => keptDeck deck (flushedDeck s.link.queue e)) } := by
    rw [h.deck_eq, hw.deck, List.map_map]; rfl
  have hinLane {e : LaneEntry} (he : e ∈ s.lane) (ho : e.owed = true ∨ receiptQueued s.link.queue e.label = true) :
      flushedLane s.link.queue e ∈ w.lane.filter (·.owed) := by
    rw [hw.lane]
    exact List.mem_filter.2 ⟨List.mem_map_of_mem he, by simpa [flushedLane] using ho⟩
  have hinDeck {e : DeckEntry} (he : e ∈ s.deck.entries) (ht : e.tag = .outbound)
      (ho : e.owed = true ∨ receiptQueued s.link.queue e.label = true) :
      flushedDeck s.link.queue e ∈ w.deck.entries.filter (·.owed) := by
    rw [hw.deck]
    exact List.mem_filter.2 ⟨List.mem_map_of_mem he, by simpa [flushedDeck, ht] using ho⟩
  refine ⟨?_, ?_, ?_, ?_, ?_, fun hlab => ?_, fun hlab => ?_⟩
  · rw [hlane, List.map_map]; rfl
  · rw [hdeck]
  · rw [hdeck, List.map_map]; rfl
  · rw [hlane, zip_map_eq]
    intro p hp howed
    obtain ⟨e, he, rfl⟩ := List.mem_map.1 hp
    simp only [keptLane, flushedLane, Bool.and_eq_true, Bool.or_eq_true, Bool.not_eq_true'] at howed
    obtain ⟨ho, hno⟩ := howed
    refine ⟨ho, (h.laneRest _ (hinLane he ho)).resolve_left fun hmem => ?_⟩
    exact absurd (List.any_eq_false.1 hno _ hmem) (by simp [flushedLane])
  · rw [hdeck, zip_map_eq]
    intro p hp ht howed
    obtain ⟨e, he, rfl⟩ := List.mem_map.1 hp
    have ht : e.tag = .outbound := ht
    simp only [keptDeck, flushedDeck, ht, Bool.and_eq_true, Bool.or_eq_true, Bool.not_eq_true', beq_self_eq_true,
      Bool.true_and] at howed
    obtain ⟨ho, hno⟩ := howed
    refine ⟨ho, (h.deckRest _ (hinDeck he ht ho)).resolve_left fun hmem => ?_⟩
    exact absurd (List.any_eq_false.1 hno _ hmem) (by simp [flushedDeck])
  · rw [hlane, zip_map_eq]
    intro p hp ho
    obtain ⟨e, he, rfl⟩ := List.mem_map.1 hp
    by_cases hserved : flushedLane s.link.queue e ∈ lane
    · exact .inr ⟨_, h.lanePlaced _ hserved, by simp [framed, receiptFor, hw.straps, flushedLane]⟩
    · refine .inl ?_
      have hno : lane.any (fun x => x.label == e.label) = false := by
        rw [List.any_eq_false]
        intro x hx
        have hmem := (List.mem_filter.1 (h.laneSub hx)).1
        rw [hw.lane] at hmem
        obtain ⟨e', he', rfl⟩ := List.mem_map.1 hmem
        intro heq
        obtain rfl : e' = e := List.inj_on_of_nodup_map (lane_nodup hlab) he' he (by simpa [flushedLane] using heq)
        exact hserved hx
      simpa [keptLane, flushedLane, hno] using ho
  · rw [hdeck, zip_map_eq]
    intro p hp ht ho
    obtain ⟨e, he, rfl⟩ := List.mem_map.1 hp
    have ht : e.tag = .outbound := ht
    by_cases hserved : flushedDeck s.link.queue e ∈ deck
    · exact .inr ⟨_, h.deckPlaced _ hserved, by simp [framed, receiptFor, hw.straps, flushedDeck]⟩
    · refine .inl ?_
      have hno : deck.any (fun x => x.label == e.label) = false := by
        rw [List.any_eq_false]
        intro x hx
        have hmem := (List.mem_filter.1 (h.deckSub hx)).1
        rw [hw.deck] at hmem
        obtain ⟨e', he', rfl⟩ := List.mem_map.1 hmem
        intro heq
        obtain rfl : e' = e := List.inj_on_of_nodup_map (deck_nodup hlab) he' he (by simpa [flushedDeck] using heq)
        exact hserved hx
      simpa [keptDeck, flushedDeck, hno, ht] using ho

end Offered

end Sys2Proof.Machine
end

section
/-! PROOF. RESTART LINK flushes the queue, listens again and queues an owed DONE (O44). -/

namespace Sys2Proof.Machine

variable {s t w : State} {lost : Bool} {lane : List LaneEntry} {deck : List DeckEntry}

/-! ## JOINED left, with and without a call to lose -/

/-- The call is lost with the link (R151). -/
abbrev LosesCall (s : State) : Prop := s.link.line = .joined ∧ s.dep.state = some .calling ∧ 0 < s.time.m

/-- The state of a RESTART LINK that loses no call, once JOINED is left. -/
def quietlyLeft (s : State) : State := { flushMarks s.link.queue s with
  link := { s.link with
    queue := [], beaconWaiting := false, duplicate := false, rejoin := none
    line := if s.link.line = .joined then .listening else s.link.line
    held := if s.link.line = .joined then false else s.link.held }
  dir := if s.link.line = .joined then { s.dir with timer := none } else s.dir
  asm := (restartGroups (drained s)).asm }

theorem cleared_line (s : State) : (cleared s).link.line = s.link.line := by rw [cleared_eq]

theorem quitted_quiet (h : ¬ LosesCall s) : quitted s = quietlyLeft s := by
  unfold quitted
  rw [cleared_line]
  by_cases hj : s.link.line = .joined
  · have hno : (cleared s).dep.state ≠ some .calling ∨ (cleared s).time.m = 0 := by
      rw [cleared_eq]
      by_cases hc : s.dep.state = some .calling
      · exact .inr (Nat.eq_zero_of_not_pos fun hm => h ⟨hj, hc, hm⟩)
      · exact .inl hc
    rw [if_pos hj, leaveJoined_quiet _ hno, cleared_eq]
    unfold quietlyLeft parted
    rw [if_pos hj, if_pos hj, if_pos hj]
    rfl
  · rw [if_neg hj, cleared_eq]
    unfold quietlyLeft
    rw [if_neg hj, if_neg hj, if_neg hj]
    rfl

/-- The state of a RESTART LINK that loses a call, as JOINED is left (R151). -/
def lostFrom (s : State) : State := { flushMarks s.link.queue s with
  link := { s.link with
    queue := [], beaconWaiting := false, duplicate := false, rejoin := none, line := .listening, held := false }
  dir := { s.dir with timer := none }
  asm := (restartGroups (drained s)).asm }

theorem quitted_lost (h : LosesCall s) : quitted s = abandonCall .link (lostFrom s) := by
  obtain ⟨hj, hc, hm⟩ := h
  have hdep : (cleared s).dep.state = some .calling := by rw [cleared_eq]; exact hc
  have htime : 0 < (cleared s).time.m := by rw [cleared_eq]; exact hm
  unfold quitted
  rw [cleared_line, if_pos hj, leaveJoined_calling _ hdep htime, cleared_eq]
  rfl

theorem quietlyLeft_emptied (s : State) : Emptied lost s (quietlyLeft s) :=
  ⟨rfl, rfl, rfl, rfl, rfl, drained_restarted s, Nat.zero_le _, nofun⟩

/-- The beacon of the call lost is all that the emptied queue holds (R138, R151). -/
theorem lostFrom_link (s : State) : (abandonCall .link (lostFrom s)).link = { (lostFrom s).link with
    queue := [framed (.beacon (buildBeacon (abandonCall .link (lostFrom s)))) (abandonCall .link (lostFrom s))] } :=
  (abandonCall_beacon .link (lostFrom s)).1

theorem lostFrom_emptied (s : State) : Emptied true s (abandonCall .link (lostFrom s)) := by
  have hlink := lostFrom_link s
  refine ⟨abandonCall_straps _ _, abandonCall_table _ _, abandonCall_lane _ _, abandonCall_deck _ _, ?_, ?_, ?_, ?_⟩
  · rw [abandonCall_dep]; rfl
  · rw [abandonCall_asm]; exact drained_restarted s
  · rw [hlink]; exact Nat.le_refl 1
  · rw [hlink]
    intro f hf
    rw [List.mem_singleton.1 hf]
    exact ⟨rfl, rfl, rfl⟩

/-- The line state that is entered changes nothing of what is flushed. -/
theorem Emptied.setLink (h : Emptied lost s w) {l : Link} (hq : l.queue = w.link.queue) :
    Emptied lost s (setLink l w) :=
  ⟨h.straps, h.table, h.lane, h.deck, h.doneOwed, h.asm, hq ▸ h.length, fun f hf => h.beacon f (hq ▸ hf)⟩

/-! ## The reply -/

theorem exec_restartLink {h : ReqHead} (ht : Taken h s) (hp : (restartLink s).port = s.port) :
    exec (.restartLink h) s = .next { restartLink s with
      port := replyPort h (.ok .restartLink (.restartLink (restartLink s).link.line s.link.queue.length)) s
        (restartLink s) } := congrArg Host.Outcome.next (request_accepted ht rfl hp)

/-- What the flush and the free room leave, in one. -/
theorem Emptied.restarted (hw : Emptied lost s w) (h : RoomOffered w t lane deck) :
    t.asm.openGroups = [] ∧ FlushedQueue lost s t ∧ OwedAgain s t ∧ PendingAgain s t :=
  ⟨(congrArg (fun x : State => x.asm.openGroups) h.frame).trans hw.asm.openGroups, hw.flushedQueue h, hw.owedAgain h,
    hw.pendingAgain h⟩

/-- The state in which the room is offered with a valid strap: LISTENING, just entered (R66). -/
theorem restartLink_valid (hv : strapValid s.straps = true) :
    restartLink s = offerRoom (enterListening none (quitted s)) := by
  rw [restartLink_stages, quitted_straps, if_pos hv]

/-- The state in which the room is offered with an invalid strap: DETACHED (R65). -/
theorem restartLink_invalid (hv : strapValid s.straps = false) : restartLink s =
    offerRoom (setLink { (quitted s).link with line := .detached, failures := 0 } (quitted s)) := by
  rw [restartLink_stages, quitted_straps, if_neg (by simp [hv])]

theorem not_losesCall (h : s.link.line ≠ .joined ∨ s.dep.state ≠ some .calling ∨ s.time.m = 0) : ¬ LosesCall s := by
  rintro ⟨hj, hc, hm⟩
  rcases h with h | h | h
  · exact h hj
  · exact h hc
  · omega

/-- What Departure Control tells hangs on no receipt-owed mark (R139, R141). -/
theorem RoomOffered.readyNow (h : RoomOffered s t lane deck) : readyNow t = readyNow s := by
  unfold Machine.readyNow
  rw [h.dep_eq, h.store_eq, h.lane_eq, List.isEmpty_map]

theorem RoomOffered.autocloseNow (h : RoomOffered s t lane deck) : autocloseNow t = autocloseNow s := by
  unfold Machine.autocloseNow expectedLoad
  rw [h.dep_eq, h.docking_eq, h.outboundCount]

theorem lostFrom_outboundCount (s : State) : outboundCount (lostFrom s).deck = outboundCount s.deck := by
  simp [outboundCount, lostFrom, flushMarks, List.filter_map, Function.comp_def, flushedDeck]

/-- The notices of the call lost (R151). -/
theorem lostFrom_notes (s : State) : (abandonCall .link (lostFrom s)).notes =
    if readyNow (abandonCall .link (lostFrom s)) && !s.dep.ready then
      (raise .ready (outboundCount s.deck) (expectedLoad s) (raise .callAbandoned 2 s.dep.callNumber s)).notes
    else (raise .callAbandoned 2 s.dep.callNumber s).notes := by
  rw [abandonCall_notes, lostFrom_outboundCount]
  rfl

/-- The directory after the call lost: the interval, the last content, and no timer outside JOINED (R85, R86). -/
theorem lostFrom_dir (s : State) : (abandonCall .link (lostFrom s)).dir = { s.dir with
    interval := 4, timer := none, last := contentNow (abandonCall .link (lostFrom s)) } :=
  (abandonCall_beacon .link (lostFrom s)).2

/-- The state `y` that a RESTART LINK taken in `s` reaches when it leaves JOINED with a call to lose (R151). -/
structure CallDropped (s y : State) : Prop where
  link : y.link = { (lostFrom s).link with queue := [framed (.beacon (buildBeacon y)) y] }
  dir : y.dir = { s.dir with interval := 4, timer := none, last := contentNow y }
  dep : y.dep = { reopenedDep (lostFrom s) with ready := readyNow y, autoWas := autocloseNow y }
  notes : y.notes = if readyNow y && !s.dep.ready then
      (raise .ready (outboundCount s.deck) (expectedLoad s) (raise .callAbandoned 2 s.dep.callNumber s)).notes
    else (raise .callAbandoned 2 s.dep.callNumber s).notes
  changes : y = { lostFrom s with dep := y.dep, notes := y.notes, link := y.link, dir := y.dir }

theorem callDropped (s : State) : CallDropped s (abandonCall .link (lostFrom s)) :=
  ⟨lostFrom_link s, lostFrom_dir s, abandonCall_dep .link (lostFrom s), lostFrom_notes s,
    abandonCall_changes .link (lostFrom s)⟩

section Dropped

variable {y : State} (hy : CallDropped s y) (ho : RoomOffered (enterListening none y) t lane deck)
include hy ho

theorem CallDropped.offered_link : t.link = { s.link with
    line := .listening, quiet := none, valid := 0, failures := 0, rejoin := none, duplicate := false
    queue := t.link.queue, beaconWaiting := false, held := false } := by
  refine ho.link_eq.trans ?_
  rw [enterListening, setLink_link, hy.link]
  rfl

theorem CallDropped.offered_dir : t.dir = { s.dir with interval := 4, timer := none, last := contentNow t } := by
  rw [ho.contentNow]
  exact ho.dir_eq.trans hy.dir

theorem CallDropped.offered_beacon : ∃ f ∈ t.link.queue, f.body = .beacon (buildBeacon t) := by
  refine ⟨framed (.beacon (buildBeacon y)) y, ho.stays.subset ?_, ?_⟩
  · rw [enterListening, setLink_link, hy.link]
    exact List.mem_singleton_self _
  · rw [ho.buildBeacon]; rfl

theorem CallDropped.offered_dep : t.dep = { s.dep with
    state := some .openBay, window := none, allowance := none, named := [], doneOwed := t.dep.doneOwed
    ready := readyNow t, autoWas := autocloseNow t } := by
  have hready : readyNow t = readyNow y := ho.readyNow
  have hauto : autocloseNow t = autocloseNow y := ho.autocloseNow
  have hdep : t.dep = { y.dep with doneOwed := t.dep.doneOwed } := by rw [ho.dep_eq]; rfl
  rw [hready, hauto]
  refine hdep.trans ?_
  rw [hy.dep]
  rfl

theorem CallDropped.offered_notes : t.notes =
    (if readyNow t && !s.dep.ready then
      (raise .ready (outboundCount s.deck) (expectedLoad s) (raise .callAbandoned 2 s.dep.callNumber s)).notes
    else (raise .callAbandoned 2 s.dep.callNumber s).notes) := by
  have hready : readyNow t = readyNow y := ho.readyNow
  rw [hready]
  exact ho.notes_eq.trans hy.notes

end Dropped

/-- The blocks that a RESTART LINK that loses a call may change. -/
theorem CallDropped.offered_blocks {y : State} {l : Link} (hy : CallDropped s y)
    (ho : RoomOffered (setLink l y) t lane deck) : t = { s with
    link := t.link, dir := t.dir, asm := t.asm, lane := t.lane, deck := t.deck, dep := t.dep, notes := t.notes } := by
  obtain ⟨d, n, k, dir, rfl⟩ : ∃ d n k dir, y = { lostFrom s with dep := d, notes := n, link := k, dir := dir } :=
    ⟨_, _, _, _, hy.changes⟩
  have hb := ho.blocks
  rw [hb]
  rfl

/-- Whichever way JOINED is left, the queue is emptied, and no block changes but those of the call lost. -/
theorem quitted_emptied (s : State) : Emptied (decide (LosesCall s)) s (quitted s)
    ∧ ((LosesCall s ∧ CallDropped s (quitted s)) ∨ quitted s = quietlyLeft s) := by
  by_cases h : LosesCall s
  · rw [quitted_lost h, decide_eq_true h]
    exact ⟨lostFrom_emptied s, .inl ⟨h, callDropped s⟩⟩
  · rw [quitted_quiet h]
    exact ⟨quietlyLeft_emptied s, .inr rfl⟩

/-- Settles O44: the room is offered from a queue that holds at most the beacon of a call lost. -/
theorem restartLinkListensAgain : Obligations.RestartLinkListensAgain := by
  unfold Obligations.RestartLinkListensAgain
  refine ⟨fun h s ht hv hcalm => ?_, fun h s ht hv hj hc hm => ?_, fun h s ht hv => ?_⟩
  · have hq := quitted_quiet (not_losesCall hcalm)
    have he : Emptied false s (enterListening none (quietlyLeft s)) := (quietlyLeft_emptied s).setLink rfl
    obtain ⟨lane, deck, ho⟩ := offerRoom_offered (enterListening none (quietlyLeft s))
    have hr : restartLink s = offerRoom (enterListening none (quietlyLeft s)) := by rw [restartLink_valid hv, hq]
    rw [← hr] at ho
    obtain ⟨h1, h2, h3, h4⟩ := he.restarted ho
    have hport : (restartLink s).port = s.port := ho.port_eq.trans rfl
    have hlink := ho.link_eq
    have hdir := ho.dir_eq
    have hnotes := ho.notes_eq
    have hdep := ho.dep_eq
    have hblocks := ho.blocks
    have hexec := exec_restartLink ht hport
    generalize restartLink s = t at *
    refine ⟨_, hexec, hlink, h1, h2, h3, h4, hdir, ?_, hnotes, ?_, ?_⟩
    · show t.dep = _
      rw [hdep]; rfl
    · show replyPort h _ s t = _
      rw [hlink]; rfl
    · show { t with port := _ } = _
      rw [hblocks]
      rfl
  · have he : Emptied true s (enterListening none (abandonCall .link (lostFrom s))) := (lostFrom_emptied s).setLink rfl
    have hr : restartLink s = offerRoom (enterListening none (abandonCall .link (lostFrom s))) := by
      rw [restartLink_valid hv, quitted_lost ⟨hj, hc, hm⟩]
    have hy := callDropped s
    generalize abandonCall .link (lostFrom s) = y at he hr hy
    obtain ⟨lane, deck, ho⟩ := offerRoom_offered (enterListening none y)
    rw [← hr] at ho
    obtain ⟨h1, h2, h3, h4⟩ := he.restarted ho
    have hlink := hy.offered_link ho
    have hdir := hy.offered_dir ho
    have hbeacon := hy.offered_beacon ho
    have hdep := hy.offered_dep ho
    have hnotes := hy.offered_notes ho
    have hblocks := hy.offered_blocks ho
    have hexec := exec_restartLink ht (congrArg State.port hblocks :)
    generalize restartLink s = t at *
    refine ⟨_, hexec, ?_, h1, h2, h3, h4, hdir, hbeacon, hdep, hnotes, ?_, ?_⟩
    · rw [if_pos hj]; exact hlink
    · show replyPort h _ s t = _
      rw [hlink]
      rfl
    · show { t with port := _ } = _
      rw [hblocks]
  · obtain ⟨hdup, hrejoin⟩ := quitted_marks s
    have hr := restartLink_invalid hv
    obtain ⟨he, hway⟩ := quitted_emptied s
    generalize quitted s = y at hdup hrejoin hr he hway
    have hw := he.setLink (l := { y.link with line := .detached, failures := 0 }) rfl
    obtain ⟨lane, deck, ho⟩ := offerRoom_offered (setLink { y.link with line := .detached, failures := 0 } y)
    rw [← hr] at ho
    obtain ⟨h1, h2, h3, h4⟩ := hw.restarted ho
    have hlink := ho.link_eq
    have hblocks : restartLink s = { s with
        link := (restartLink s).link, dir := (restartLink s).dir, asm := (restartLink s).asm
        lane := (restartLink s).lane, deck := (restartLink s).deck, dep := (restartLink s).dep
        notes := (restartLink s).notes } := by
      rcases hway with ⟨-, hy⟩ | rfl
      · exact hy.offered_blocks ho
      · have hb := ho.blocks
        generalize restartLink s = t at hb
        rw [hb]
        rfl
    have hcalm : s.link.line ≠ .joined ∨ s.dep.state ≠ some .calling ∨ s.time.m = 0 →
        (restartLink s).dir = (if s.link.line = .joined then { s.dir with timer := none } else s.dir)
        ∧ (restartLink s).dep = { s.dep with doneOwed := (restartLink s).dep.doneOwed }
        ∧ (restartLink s).notes = s.notes := by
      intro hno
      obtain rfl : y = quietlyLeft s := hway.resolve_left fun h => not_losesCall hno h.1
      refine ⟨ho.dir_eq, ?_, ho.notes_eq⟩
      rw [ho.dep_eq]
      rfl
    have hexec := exec_restartLink ht (congrArg State.port hblocks :)
    generalize restartLink s = t at *
    refine ⟨_, hexec, ?_, ?_, ?_, h1, h2, h3, h4, hcalm, ?_, ?_⟩
    · show t.link.line = _
      rw [hlink]; rfl
    · show t.link.duplicate = _
      rw [hlink]; exact hdup
    · show t.link.rejoin = _
      rw [hlink]; exact hrejoin
    · show replyPort h _ s t = _
      rw [hlink]
      rfl
    · show { t with port := _ } = _
      rw [hblocks]

end Sys2Proof.Machine
end


section
/-! SUPPORT. Entering JOINED (R66, R67, R86, R106): the pending groups released, the beacon handed over, and what else
stays. -/

namespace Sys2Proof.Machine

variable {s t : State}

/-! ## The pending groups -/

/-- A group of the send list after the join, against what it was before (R106). -/
structure Released (g x : ClosedGroup) : Prop where
  pending : x.pending = false
  numbered : x.number ≠ none
  kept : g.number ≠ none → x.number = g.number
  told : (x.target, x.members, x.kind, x.resend) = (g.target, g.members, g.kind, g.resend)

theorem releaseGroup_released (g : ClosedGroup) (a : Assembler) (hg : g.number = none → g.pending = true) :
    ∃ x, (releaseGroup g a).sendList = a.sendList ++ [x] ∧ Released g x := by
  unfold releaseGroup
  split
  next hn _ => exact ⟨_, rfl, rfl, by simp, fun h => absurd hn h, rfl⟩
  next h =>
    have hn : g.number ≠ none := fun hn => h hn (hg hn)
    exact ⟨_, rfl, rfl, hn, fun _ => rfl, rfl⟩

theorem releaseGroups_released (l : List ClosedGroup) (a : Assembler) (hl : ∀ g ∈ l, g.number = none → g.pending = true) :
    ∃ r, (l.foldl (fun a g => releaseGroup g a) a).sendList = a.sendList ++ r ∧ List.Forall₂ Released l r := by
  induction l generalizing a with
  | nil => exact ⟨[], by simp, .nil⟩
  | cons g l ih =>
    obtain ⟨hg, hl⟩ := List.forall_mem_cons.1 hl
    obtain ⟨x, hx, hgx⟩ := releaseGroup_released g a hg
    obtain ⟨r, hr, hlr⟩ := ih (releaseGroup g a) hl
    exact ⟨x :: r, by rw [List.foldl_cons, hr, hx, List.append_assoc]; rfl, hlr.cons hgx⟩

/-- Building OFFERs afterwards changes no more than the phase of a released group. -/
theorem released_of_built {l m r : List ClosedGroup} (h : List.Forall₂ Released l m) (hb : List.Forall₂ BuiltFrom m r) :
    List.Forall₂ Released l r := by
  induction h generalizing r with
  | nil => cases hb; exact .nil
  | cons hgx _ ih =>
    obtain ⟨hxy, hb⟩ | _ := hb
    refine (ih ‹_›).cons ?_
    obtain rfl | ⟨-, -, rfl⟩ := ‹BuiltFrom _ _›
    · exact hgx
    · exact ⟨hgx.pending, hgx.numbered, hgx.kept, hgx.told⟩

/-- What releasing the pending groups leaves (R106): OFFERs added to the queue, and the groups each in its place. -/
theorem releasePending_cases (hn : NumberLaw s) : ∃ q a, releasePending s = setAsm a (setQueue q s)
    ∧ s.link.queue.Sublist q ∧ List.Forall₂ Released s.asm.sendList a.sendList := by
  obtain ⟨m, hm, hrel⟩ := releaseGroups_released s.asm.sendList { s.asm with sendList := [] } hn
  obtain ⟨r, u, he, hb⟩ := buildReady_built
    (setAsm (s.asm.sendList.foldl (fun a g => releaseGroup g a) { s.asm with sendList := [] }) s)
  rw [setAsm_asm, hm, List.nil_append] at hb
  refine ⟨u.link.queue, { (s.asm.sendList.foldl (fun a g => releaseGroup g a) { s.asm with sendList := [] }) with
    sendList := r }, he.trans ?_, hb.stays, released_of_built hrel hb.groups⟩
  rw [hb.state]
  rfl

/-! ## The join -/

/-- What entering JOINED leaves (R66, R67, R86, R106). -/
structure Joined (c : JoinCause) (s t : State) : Prop where
  line : t.link.line = .joined
  interval : t.dir.interval = 4
  timer : t.dir.timer = some 4
  notes : t.notes = (raise .linkUp c.code s.link.fails s).notes
  beacon : beaconRoom s = true → t.dir.last = contentNow s
    ∧ (t.link.beaconWaiting = true ∨ framed (.beacon (buildBeacon t)) s ∈ t.link.queue)
  groups : List.Forall₂ Released s.asm.sendList t.asm.sendList
  state : t = { s with
    link := { s.link with line := .joined, queue := t.link.queue, beaconWaiting := t.link.beaconWaiting }
    dir := { s.dir with interval := 4, timer := some 4, last := t.dir.last }
    notes := t.notes, asm := t.asm }

/-- The state that enters JOINED hands its beacon over from. -/
def joining (c : JoinCause) (s : State) : State :=
  raise .linkUp c.code s.link.fails (setLink { s.link with line := .joined } s)

theorem linkWithBeacon_sent (h : beaconRoom s = true) : (linkWithBeacon s t).beaconWaiting = true
    ∨ framed (.beacon (buildBeacon t)) t ∈ (linkWithBeacon s t).queue := by
  unfold linkWithBeacon
  split
  next f hf =>
    split
    · exact .inl rfl
    · exact .inr (mem_insertQueued.2 (.inl rfl))
  next hf =>
    have hany : s.link.queue.any isBeacon = false := by simpa using List.find?_eq_none.1 hf
    rw [beaconRoom, hany, Bool.false_or] at h
    rw [if_pos h]
    exact .inr (mem_insertQueued.2 (.inl rfl))

theorem linkWithBeacon_blocks (s t : State) : linkWithBeacon s t = { s.link with
    queue := (linkWithBeacon s t).queue, beaconWaiting := (linkWithBeacon s t).beaconWaiting } := by
  unfold linkWithBeacon
  split <;> split <;> rfl

/-- A beaconed change while JOINED touches the link and the directory alone (R85, R86). -/
theorem beaconedChange_joined {u : State} (hl : u.link.line = .joined) : beaconedChange u = { u with
    link := linkWithBeacon u (withInterval u)
    dir := { u.dir with
      interval := 4, timer := some 4, last := if beaconRoom u then contentNow u else u.dir.last } } := by
  have hlink := beaconedChange_link (u := u) (t := withInterval u) rfl rfl rfl
  have hdir := beaconedChange_dir u
  rw [if_pos hl] at hdir
  rw [← hlink, ← hdir]
  refine state_eq ?_ ?_ ?_ ?_ ?_ ?_ ?_ ?_ ?_ ?_ rfl rfl ?_ ?_ ?_ ?_ ?_ <;> simp

/-- The beacon that goes at the join is the one of the values that stand after it. -/
theorem buildBeacon_joining (c : JoinCause) (s : State) {a : Assembler} {q : List Queued} {l : Link} {b : BeaconContent} :
    buildBeacon (setAsm a (setQueue q { joining c s with
      link := l, dir := { (joining c s).dir with interval := 4, timer := some 4, last := b } }))
      = buildBeacon (withInterval (joining c s)) := (rfl)

theorem enterJoined_joined (c : JoinCause) (hn : NumberLaw s) : Joined c s (enterJoined c s) := by
  obtain ⟨q, a, he, hsub, hrel⟩ := releasePending_cases (s := beaconedChange (joining c s))
    (by rw [NumberLaw, beaconedChange_asm]; exact hn)
  rw [beaconedChange_asm] at hrel
  have hout : enterJoined c s = setAsm a (setQueue q (beaconedChange (joining c s))) := he
  have hroom : beaconRoom (joining c s) = beaconRoom s := rfl
  rw [beaconedChange_joined rfl, hroom] at hout hsub
  rw [hout]
  refine ⟨?_, rfl, rfl, rfl, fun h => ?_, hrel, ?_⟩
  · exact (congrArg Link.line (linkWithBeacon_blocks _ _) :)
  · refine ⟨?_, ?_⟩
    · exact if_pos h
    · rw [buildBeacon_joining]
      exact (linkWithBeacon_sent (s := joining c s) (t := withInterval (joining c s)) h).imp_right fun h => hsub.subset h
  · rw [linkWithBeacon_blocks]
    rfl

end Sys2Proof.Machine
end


section
/-! SUPPORT. The count of frames taken while LISTENING (R66) is read by the join alone: the shared operations do the same
whatever it is. -/

namespace Sys2Proof.Machine

variable {s t : State} {v : Nat}

/-- A state with another count of frames taken (R66). -/
def withValid (v : Nat) (s : State) : State := { s with link := { s.link with valid := v } }

/-- A choice on one test, of images of the alternatives. -/
theorem ite_image {α β : Type} (φ : α → β) {c : Prop} [Decidable c] {a b : α} {a' b' : β} (ha : c → a' = φ a)
    (hb : ¬ c → b' = φ b) : (if c then a' else b') = φ (if c then a else b) := by
  split
  next h => exact ha h
  next h => exact hb h

/-- A choice on a test that does not read the count. -/
theorem ite_withValid {c : Prop} [Decidable c] {a b a' b' : State} (ha : c → a' = withValid v a)
    (hb : ¬ c → b' = withValid v b) : (if c then a' else b') = withValid v (if c then a else b) := ite_image _ ha hb

/-- A fold that gathers something beside the state. -/
theorem foldl_withValid {α β : Type} {f : State × β → α → State × β}
    (hf : ∀ acc a, f (acc.map (withValid v) id) a = (f acc a).map (withValid v) id) (l : List α) (b : β) :
    l.foldl f (withValid v s, b) = (l.foldl f (s, b)).map (withValid v) id :=
  List.foldl_hom (Prod.map (withValid v) id) (init := (s, b)) hf

/-! ## The queue and the beacon -/

theorem handFrame_withValid (b : Body) : handFrame b (withValid v s) = (handFrame b s).map (withValid v) := by
  have hq : (withValid v s).link.queue = s.link.queue := rfl
  unfold handFrame
  rw [hq]
  cases hasRoom b.kind.cls s.link.queue <;> rfl

theorem handOrDrop_withValid (b : Body) : handOrDrop b (withValid v s) = withValid v (handOrDrop b s) := by
  unfold handOrDrop
  rw [handFrame_withValid]
  cases handFrame b s <;> rfl

theorem placeBeacon_withValid : placeBeacon (withValid v s) = ((placeBeacon s).map (withValid v) id) := by
  have hq : (withValid v s).link.queue = s.link.queue := rfl
  unfold placeBeacon
  rw [hq]
  cases s.link.queue.find? isBeacon with
  | some f => dsimp only; cases f.onLine <;> rfl
  | none => cases hasRoom 3 s.link.queue <;> rfl

theorem beaconedChange_withValid : beaconedChange (withValid v s) = withValid v (beaconedChange s) := by
  have h := placeBeacon_withValid (v := v) (s := withInterval s)
  exact (congrArg (fun x : State × Bool => restartBeaconTimer 4 x.1) h :)

theorem announce_withValid (a : State) : announce (withValid v a) (withValid v s) = withValid v (announce a s) :=
  ite_withValid (fun _ => beaconedChange_withValid) fun _ => rfl

theorem askReceipt_withValid (label origin : Nat) :
    (askReceipt label origin (withValid v s)).1 = withValid v (askReceipt label origin s).1 := by
  have hs : (withValid v s).straps = s.straps := rfl
  unfold askReceipt
  rw [hs, handFrame_withValid]
  cases handFrame (.receipt { bay := s.straps.bay, origin := origin, label := label }) s <;> rfl

/-! ## The groups -/

theorem closeFull_withValid (g : OpenGroup) : closeFull g (withValid v s) = withValid v (closeFull g s) :=
  ite_withValid (fun _ => rfl) fun _ => rfl

theorem joinGroup_withValid (label target : Nat) :
    joinGroup label target (withValid v s) = withValid v (joinGroup label target s) := by
  unfold joinGroup
  change (match s.asm.openGroups.find? (fun g => g.target == target) with | some g => _ | none => _) = _
  cases s.asm.openGroups.find? (fun g => g.target == target) with
  | some g => exact ite_withValid (fun _ => closeFull_withValid _) fun _ => rfl
  | none => exact ite_withValid (fun _ => ite_withValid (fun _ => closeFull_withValid _) fun _ => rfl) fun _ => rfl

theorem servePass_withValid (es : List TransferEntry) : servePass es (withValid v s) = withValid v (servePass es s) := by
  refine List.foldl_hom (withValid v) fun t e => ?_
  cases e.state with
  | queued target => exact joinGroup_withValid _ _
  | parked => rfl
  | offered _ _ _ _ => rfl
  | accepted _ _ => rfl

theorem serveLoop_withValid (n : Nat) (s : State) : serveLoop n (withValid v s) = withValid v (serveLoop n s) := by
  induction n generalizing s with
  | zero => rfl
  | succ n ih =>
    have hpass : servePass (waitingEntries (withValid v s)) (withValid v s) = withValid v (servePass (waitingEntries s) s) :=
      servePass_withValid _
    unfold serveLoop
    dsimp only
    rw [hpass]
    exact ite_withValid (fun _ => ih _) fun _ => rfl

theorem serveWaiting_withValid : serveWaiting (withValid v s) = withValid v (serveWaiting s) := serveLoop_withValid _ _

theorem buildList_withValid (s : State) (before l : List ClosedGroup) :
    buildList (withValid v s) before l = (buildList s before l).map (withValid v) id := by
  induction l generalizing s before with
  | nil => rfl
  | cons g l ih =>
    unfold buildList
    split
    · change (match handFrame (offerBody s g) (withValid v s) with | some t => _ | none => _) = _
      rw [handFrame_withValid]
      cases handFrame (offerBody s g) s with
      | some t => exact ih _ _
      | none => exact ih _ _
    · exact ih _ _

theorem buildReady_withValid : buildReady (withValid v s) = withValid v (buildReady s) := by
  have h := buildList_withValid (v := v) s [] s.asm.sendList
  exact (congrArg (fun x : State × List ClosedGroup => setAsm { x.1.asm with sendList := x.2 } x.1) h :)

theorem tidyGroups_withValid : tidyGroups (withValid v s) = withValid v (tidyGroups s) := by
  unfold tidyGroups
  rw [serveWaiting_withValid, buildReady_withValid]

/-! ## Selection -/

theorem selectTarget_withValid (notify : Bool) (label : Nat) :
    selectTarget notify label (withValid v s) = withValid v (selectTarget notify label s) := by
  unfold selectTarget
  change (match entryOf s label with | none => _ | some e => _) = _
  cases entryOf s label with
  | none => rfl
  | some e =>
    change (match chooseBay (s.dir.entries.filter (candidate s e)) with | some d => _ | none => _) = _
    cases hd : chooseBay (s.dir.entries.filter (candidate s e)) with
    | some d =>
      have hj := joinGroup_withValid (v := v) (s := setTransferState label (.queued d.bay) s) label d.bay
      dsimp only
      rw [hd]
      exact (congrArg tidyGroups hj).trans tidyGroups_withValid
    | none =>
      dsimp only
      rw [hd]
      exact ite_withValid (fun _ => rfl) fun _ => rfl

theorem reselect_withValid (back parked : List Nat) :
    reselect back parked (withValid v s) = withValid v (reselect back parked s) := by
  have hback : back.foldl (fun u l => goBack l u) (withValid v s) = withValid v (back.foldl (fun u l => goBack l u) s) :=
    List.foldl_hom (withValid v) fun _ _ => rfl
  unfold reselect
  rw [hback, tidyGroups_withValid]
  exact List.foldl_hom (withValid v) fun _ _ => selectTarget_withValid _ _

theorem removeEntry_withValid (label : Nat) : removeEntry label (withValid v s) = withValid v (removeEntry label s) :=
  tidyGroups_withValid (s := leaveGroups label (setTable (s.table.filter (fun e => e.label != label)) s))

theorem applyDone_withValid (bay : Nat) (parked : List Nat) :
    applyDone bay parked (withValid v s) = withValid v (applyDone bay parked s) := by
  have hmissed : (labelsWhere (acceptedTo bay) s).foldl (fun t l => raise .missed l bay (setTransferState l .parked t))
      (withValid v s) = withValid v ((labelsWhere (acceptedTo bay) s).foldl
        (fun t l => raise .missed l bay (setTransferState l .parked t)) s) :=
    List.foldl_hom (withValid v) fun _ _ => rfl
  unfold applyDone
  exact (congrArg (reselect _ parked) hmissed).trans (reselect_withValid _ _)

/-! ## Departure Control -/

theorem setDepState_withValid (d : Option DepState) : setDepState d (withValid v s) = withValid v (setDepState d s) :=
  beaconedChange_withValid (s := setDep { s.dep with state := d } s)

theorem checkReady_withValid : checkReady (withValid v s) = withValid v (checkReady s) :=
  ite_withValid (fun _ => rfl) fun _ => rfl

/-- The call entered once its CALL has been handed over (R142). -/
def callEntered (t : State) : State :=
  let u := setDepState (some .calling) (setDep { t.dep with named := [], startPending := [], retry := false } t)
  setDep { u.dep with window := some 0, ready := false, autoWas := false } u

theorem callEntered_withValid : callEntered (withValid v s) = withValid v (callEntered s) :=
  congrArg (fun u : State => setDep { u.dep with window := some 0, ready := false, autoWas := false } u)
    (setDepState_withValid (s := setDep { s.dep with named := [], startPending := [], retry := false } s) _)

theorem startCall_eq (s : State) : startCall s = callEntered (handOrDrop
    (.call { bay := s.straps.bay, number := (s.dep.callNumber + 1) % 256 })
    (setDep { s.dep with callNumber := (s.dep.callNumber + 1) % 256 } s)) := rfl

theorem startCall_withValid : startCall (withValid v s) = withValid v (startCall s) := by
  rw [startCall_eq, startCall_eq, ← callEntered_withValid, ← handOrDrop_withValid]
  rfl

theorem autoStart_withValid (c : StartCause) : autoStart c (withValid v s) = withValid v (autoStart c s) :=
  ite_withValid (fun _ => startCall_withValid) fun _ => ite_withValid (fun _ => rfl) fun _ => rfl

theorem checkAutoclose_withValid : checkAutoclose (withValid v s) = withValid v (checkAutoclose s) :=
  ite_withValid (fun _ => autoStart_withValid (s := setDep { s.dep with autoWas := autocloseNow s } s) _) fun _ => rfl

theorem settle_withValid : settle (withValid v s) = withValid v (settle s) :=
  (congrArg checkAutoclose checkReady_withValid).trans checkAutoclose_withValid

/-! ## Holds -/

theorem removeHold_withValid (label : Nat) : removeHold label (withValid v s) = withValid v (removeHold label s) :=
  announce_withValid (s := dropHold label s) s

/-- Holds removed one by one, with the notice of their number (R145). -/
def holdsGone (gone : List Nat) (t : State) : State :=
  if gone.isEmpty then t else raise .voided gone.length t.dep.callNumber t

theorem voidHolds_eq (p : Hold → Bool) (s : State) : voidHolds p s = holdsGone ((s.store.holds.filter p).map (·.label))
    (((s.store.holds.filter p).map (·.label)).foldl (fun u l => removeHold l u) s) := rfl

theorem holdsGone_withValid (gone : List Nat) : holdsGone gone (withValid v s) = withValid v (holdsGone gone s) :=
  ite_withValid (fun _ => rfl) fun _ => rfl

theorem removeHolds_withValid (l : List Nat) : l.foldl (fun u x => removeHold x u) (withValid v s)
    = withValid v (l.foldl (fun u x => removeHold x u) s) := List.foldl_hom (withValid v) fun _ _ => removeHold_withValid _

theorem voidHolds_withValid (p : Hold → Bool) : voidHolds p (withValid v s) = withValid v (voidHolds p s) := by
  rw [voidHolds_eq, voidHolds_eq, ← holdsGone_withValid, ← removeHolds_withValid]
  rfl

theorem askDone_withValid : askDone (withValid v s) = withValid v (askDone s) := by
  have hs : (withValid v s).straps = s.straps := rfl
  unfold askDone
  rw [hs, handFrame_withValid]
  cases handFrame (.done { bay := s.straps.bay }) s <;> rfl

theorem closedDoor_withValid : closedDoor (withValid v s) = withValid v (closedDoor s) :=
  setDepState_withValid (s := setDep { s.dep with lamp := true, window := none, allowance := none, named := [] } s) _

/-- CLOSED entered once the holds are gone and DONE is asked for (R149). -/
def closedEntered (c : CloseCause) (u : State) : State :=
  settle (raise .closed c.code (closedDoor u).dep.callNumber (closedDoor u))

theorem enterClosed_entered (c : CloseCause) (s : State) :
    enterClosed c s = closedEntered c (askDone (voidHolds (fun _ => true) s)) := by
  unfold enterClosed closedEntered askDone
  generalize voidHolds (fun _ => true) s = u
  rfl

theorem closedEntered_withValid (c : CloseCause) : closedEntered c (withValid v s) = withValid v (closedEntered c s) := by
  unfold closedEntered
  rw [closedDoor_withValid, ← settle_withValid]
  rfl

theorem enterClosed_withValid (c : CloseCause) : enterClosed c (withValid v s) = withValid v (enterClosed c s) := by
  rw [enterClosed_entered, enterClosed_entered, voidHolds_withValid, askDone_withValid, closedEntered_withValid]

theorem holdGone_withValid : holdGone (withValid v s) = withValid v (holdGone s) :=
  ite_withValid (fun _ => enterClosed_withValid _) fun _ => rfl

end Sys2Proof.Machine
end


section
/-! SUPPORT. Every frame handed on while LISTENING does the same whatever the count of frames taken is (R64, R66). -/

namespace Sys2Proof.Machine

variable {s t : State} {v : Nat}

/-! ## The directory and DONE -/

theorem advanceCount_withValid : advanceCount (withValid v s) = withValid v (advanceCount s) :=
  ite_withValid (fun _ => rfl) fun _ => rfl

theorem beaconEvent_withValid (m : BeaconMsg) (b : BayState) (d : Option DepState) (old : Option DirEntry)
    (parked : List Nat) : beaconEvent m b d old parked (withValid v s) = withValid v (beaconEvent m b d old parked s) := by
  cases old with
  | none => exact ite_withValid (fun _ => applyDone_withValid _ _) fun _ => reselect_withValid _ _
  | some e =>
    exact ite_withValid (fun _ => applyDone_withValid _ _) fun _ =>
      ite_withValid (fun _ => reselect_withValid _ _) fun _ => rfl

/-- A beacon written into the directory and handed on, with its stamp taken there (R88). -/
def beaconNoted (m : BeaconMsg) (b : BayState) (d : Option DepState) (old : Option DirEntry) (parked : List Nat)
    (mark : Option Nat) (t : State) : State :=
  beaconEvent m b d old parked (storeEntry (entryOfBeacon m b d t.dir.changes mark) t)

theorem beaconNoted_withValid (m : BeaconMsg) (b : BayState) (d : Option DepState) (old : Option DirEntry)
    (parked : List Nat) (mark : Option Nat) :
    beaconNoted m b d old parked mark (withValid v s) = withValid v (beaconNoted m b d old parked mark s) :=
  beaconEvent_withValid (s := storeEntry (entryOfBeacon m b d s.dir.changes mark) s) m b d old parked

theorem advancedNoted_withValid (m : BeaconMsg) (b : BayState) (d : Option DepState) (old : Option DirEntry)
    (parked : List Nat) (mark : Option Nat) : beaconNoted m b d old parked mark (advanceCount (withValid v s))
      = withValid v (beaconNoted m b d old parked mark (advanceCount s)) := by
  rw [advanceCount_withValid, beaconNoted_withValid]

theorem noteBeacon_withValid (m : BeaconMsg) (b : BayState) (d : Option DepState) :
    noteBeacon m b d (withValid v s) = withValid v (noteBeacon m b d s) := by
  have hold : dirEntry (withValid v s) m.bay = dirEntry s m.bay := rfl
  unfold noteBeacon
  dsimp only
  rw [hold]
  cases dirEntry s m.bay with
  | none => exact advancedNoted_withValid m b d none (parkedLabels s) none
  | some e =>
    exact ite_withValid (fun _ => advancedNoted_withValid m b d (some e) (parkedLabels s) e.unreachable) fun _ =>
      beaconEvent_withValid (s := storeEntry (entryOfBeacon m b d e.stamp e.unreachable) s) m b d (some e) (parkedLabels s)

theorem forgetOrigin_withValid (bay : Nat) : forgetOrigin bay (withValid v s) = withValid v (forgetOrigin bay s) :=
  settle_withValid (s := setStore { s.store with
    owing := s.store.owing.filter (fun b => b != bay), kept := s.store.kept.filter (fun k => k.bay != bay) } s)

/-- A beacon as the Route Directory takes it (R88). -/
def beaconSeen (m : BeaconMsg) (s : State) : State :=
  match beaconStates m with
  | some (b, d) => if beaconSound m b d then noteBeacon m b d s else s
  | none => s

theorem takeBeacon_eq (m : BeaconMsg) (s : State) : takeBeacon m s =
    if m.bayCode = BayState.vacant.code then forgetOrigin m.bay (beaconSeen m s) else beaconSeen m s := rfl

theorem beaconSeen_withValid (m : BeaconMsg) : beaconSeen m (withValid v s) = withValid v (beaconSeen m s) := by
  unfold beaconSeen
  cases beaconStates m with
  | none => rfl
  | some x => exact ite_withValid (fun _ => noteBeacon_withValid _ _ _) fun _ => rfl

theorem takeBeacon_withValid (m : BeaconMsg) : takeBeacon m (withValid v s) = withValid v (takeBeacon m s) := by
  rw [takeBeacon_eq, takeBeacon_eq, beaconSeen_withValid]
  exact ite_withValid (fun _ => forgetOrigin_withValid _) fun _ => rfl

theorem takeDone_withValid (m : DoneMsg) : takeDone m (withValid v s) = withValid v (takeDone m s) := by
  unfold takeDone
  rw [applyDone_withValid, forgetOrigin_withValid]

/-! ## OFFER -/

theorem evalItem_withValid (origin : Nat) (acc : State × List AnswerItem) (i : OfferItem) :
    evalItem origin (acc.map (withValid v) id) i = (evalItem origin acc i).map (withValid v) id := by
  have hj : judgeItem origin i (withValid v acc.1) = judgeItem origin i acc.1 := rfl
  unfold evalItem
  dsimp only [Prod.map_fst]
  rw [hj]
  cases (judgeItem origin i acc.1).2 <;> rfl

theorem noteGroup_withValid (m : OfferMsg) : noteGroup m (withValid v s) = withValid v (noteGroup m s) :=
  ite_withValid (fun _ => rfl) fun _ => rfl

theorem answerOffer_withValid (m : OfferMsg) (items : List AnswerItem) :
    answerOffer m items (withValid v s) = withValid v (answerOffer m items s) :=
  ite_withValid (fun _ => rfl) fun _ => handOrDrop_withValid _

theorem evalOffer_withValid (m : OfferMsg) : evalOffer m (withValid v s) = withValid v (evalOffer m s) := by
  have hitems : m.items.foldl (evalItem m.origin) (withValid v s, []) =
      (m.items.foldl (evalItem m.origin) (s, [])).map (withValid v) id :=
    foldl_withValid (evalItem_withValid m.origin) _ _
  unfold evalOffer
  dsimp only
  rw [hitems, Prod.map_fst, Prod.map_snd, id_eq, answerOffer_withValid, noteGroup_withValid, announce_withValid,
    settle_withValid]

theorem takeOffer_withValid (m : OfferMsg) : takeOffer m (withValid v s) = withValid v (takeOffer m s) :=
  ite_withValid (fun _ => evalOffer_withValid _) fun _ => rfl

/-! ## ANSWER, RELEASE and RECEIPT -/

/-- The notice of a current decline, where the mode reports it (R108). -/
def declineTold (bay label : Nat) (w : Verdict) (u : State) : State :=
  setMark bay (if reportsDecline u.notes.mode (u.notes.marks.contains bay) then
    raise .declined label (twoParts bay w.code) u else u)

theorem declineTold_withValid (bay label : Nat) (w : Verdict) :
    declineTold bay label w (withValid v s) = withValid v (declineTold bay label w s) := by
  have hn : (withValid v s).notes = s.notes := rfl
  unfold declineTold
  rw [hn]
  cases reportsDecline s.notes.mode (s.notes.marks.contains bay) <;> rfl

/-- The record of a current decline, and the entry on its way back to selection (R108). -/
def declineNoted (bay label : Nat) (s : State) : State :=
  goBack label (setTable (s.table.map (fun e => if e.label = label then
    { e with declined := recordDecline { bay := bay, stamp := (dirEntry s bay).map (·.stamp) } e.declined } else e)) s)

theorem declineCurrent_eq (bay label : Nat) (w : Verdict) (s : State) :
    declineCurrent bay label w s = declineTold bay label w (declineNoted bay label s) := rfl

theorem declineCurrent_withValid (bay label : Nat) (w : Verdict) :
    declineCurrent bay label w (withValid v s) = withValid v (declineCurrent bay label w s) := by
  rw [declineCurrent_eq, declineCurrent_eq, ← declineTold_withValid]
  rfl

theorem answerItem_withValid (bay : Nat) (acc : State × List Nat) (i : AnswerItem) :
    answerItem bay (acc.map (withValid v) id) i = (answerItem bay acc i).map (withValid v) id := by
  have he : entryOf (withValid v acc.1) i.label = entryOf acc.1 i.label := rfl
  unfold answerItem
  cases Verdict.ofCode i.verdict with
  | none => rfl
  | some w =>
    refine ite_image _ (fun _ => rfl) fun _ => ?_
    dsimp only [Prod.map_fst]
    rw [he]
    cases (entryOf acc.1 i.label).any (offeredTo bay) with
    | true =>
      cases w with
      | accept => rfl
      | _ => exact Prod.ext (declineCurrent_withValid _ _ _) rfl
    | false =>
      cases w with
      | accept => exact Prod.ext (handOrDrop_withValid _) rfl
      | _ => rfl

theorem takeAnswer_withValid (m : AnswerMsg) : takeAnswer m (withValid v s) = withValid v (takeAnswer m s) := by
  have hitems : m.items.foldl (answerItem m.target) (withValid v s, []) =
      (m.items.foldl (answerItem m.target) (s, [])).map (withValid v) id :=
    foldl_withValid (answerItem_withValid m.target) _ _
  refine ite_withValid (fun _ => ?_) fun _ => rfl
  dsimp only
  rw [hitems]
  exact reselect_withValid _ _

theorem unname_withValid (label : Nat) : unname label (withValid v s) = withValid v (unname label s) :=
  ite_withValid (fun _ => rfl) fun _ => rfl

theorem takeRelease_withValid (m : ReleaseMsg) : takeRelease m (withValid v s) = withValid v (takeRelease m s) := by
  have hfind : (withValid v s).store.holds = s.store.holds := rfl
  refine ite_withValid (fun _ => ?_) fun _ => rfl
  rw [hfind]
  cases s.store.holds.find? (fun h => h.label == m.label) with
  | none => exact ite_withValid (fun _ => rfl) fun _ => rfl
  | some h =>
    refine ite_withValid (fun _ => ?_) fun _ => rfl
    rw [unname_withValid, removeHold_withValid, settle_withValid, holdGone_withValid]

theorem takeReceipt_withValid (m : ReceiptMsg) : takeReceipt m (withValid v s) = withValid v (takeReceipt m s) := by
  refine ite_withValid (fun _ => ite_withValid (fun _ => ?_) fun _ => ite_withValid (fun _ => rfl) fun _ => rfl) fun _ => rfl
  rw [removeEntry_withValid]
  rfl

/-! ## CALL and HOLD -/

theorem nameAccepted_withValid (m : CallMsg) : nameAccepted m (withValid v s) = withValid v (nameAccepted m s) :=
  List.foldl_hom (withValid v) fun _ _ => handOrDrop_withValid _

theorem takeCall_withValid (m : CallMsg) : takeCall m (withValid v s) = withValid v (takeCall m s) := by
  unfold takeCall
  rw [nameAccepted_withValid]
  exact reselect_withValid _ _

theorem receiptAgain_withValid (n : NamedRecord) : receiptAgain n (withValid v s) = withValid v (receiptAgain n s) :=
  ite_withValid (fun _ => askReceipt_withValid _ _) fun _ => rfl

theorem reconcileOne_withValid (n : NamedRecord) (acc : State × List NamedRecord) :
    reconcileOne n (acc.map (withValid v) id) = (reconcileOne n acc).map (withValid v) id := by
  refine ite_image _ (fun _ => ite_image _ (fun _ => Prod.ext ?_ rfl) fun _ => rfl) fun _ => rfl
  exact announce_withValid (s := addHold _ acc.1) acc.1

theorem answerClosing_withValid (ns : List NamedRecord) :
    answerClosing ns (withValid v s) = withValid v (answerClosing ns s) :=
  List.foldl_hom (withValid v) fun _ _ => List.foldl_hom (withValid v) fun _ _ => handOrDrop_withValid _

theorem reconcileOthers_withValid (ns : List NamedRecord) :
    reconcileOthers ns (withValid v s) = withValid v (reconcileOthers ns s) := by
  have hnamed : ns.foldl (fun acc n => reconcileOne n acc) (withValid v s, []) =
      (ns.foldl (fun acc n => reconcileOne n acc) (s, [])).map (withValid v) id :=
    foldl_withValid (fun acc n => reconcileOne_withValid n acc) _ _
  unfold reconcileOthers
  dsimp only
  rw [hnamed]
  exact answerClosing_withValid _

theorem reconcileNamed_withValid (ns : List NamedRecord) :
    reconcileNamed ns (withValid v s) = withValid v (reconcileNamed ns s) := by
  have hagain : ns.foldl (fun t n => receiptAgain n t) (withValid v s) =
      withValid v (ns.foldl (fun t n => receiptAgain n t) s) := List.foldl_hom (withValid v) fun _ n => receiptAgain_withValid n
  unfold reconcileNamed
  rw [hagain, reconcileOthers_withValid]

theorem takeHold_withValid (m : HoldMsg) : takeHold m (withValid v s) = withValid v (takeHold m s) := by
  have hd : (withValid v s).dep = s.dep := rfl
  refine ite_withValid (fun _ => ?_) fun _ => rfl
  rw [hd]
  cases s.dep.state with
  | none => rfl
  | some d =>
    cases d with
    | waiting => exact reconcileNamed_withValid _
    | calling => rfl
    | openBay => rfl
    | closed => rfl

end Sys2Proof.Machine
end


section
/-! SUPPORT. A group without a number is pending (R106): every frame handed on keeps that. -/

namespace Sys2Proof.Machine

variable {s t u : State}

theorem numberLaw_of_asm (h : t.asm = s.asm) (hs : NumberLaw s) : NumberLaw t := by
  rw [NumberLaw, h]; exact hs

theorem numberLaw_foldl {α : Type} {f : State → α → State} (hf : ∀ s a, NumberLaw s → NumberLaw (f s a)) (l : List α)
    (hs : NumberLaw s) : NumberLaw (l.foldl f s) :=
  List.foldlRecOn l f hs fun _ h a _ => hf _ a h

/-! ## The groups -/

theorem leaveGroups_numberLaw (label : Nat) (hs : NumberLaw s) : NumberLaw (leaveGroups label s) := by
  intro g hg hn
  obtain ⟨g0, hg0, rfl⟩ := List.mem_map.1 (List.mem_filter.1 hg).1
  exact hs g0 hg0 hn

theorem closeNumbered_numberLaw {target : Nat} {members : List Nat} {kind : GroupKind} {a : Assembler}
    (ha : a.sendList = s.asm.sendList) (hs : NumberLaw s) : NumberLaw (setAsm (closeNumbered target members kind a) s) := by
  intro g hg hn
  rcases List.mem_append.1 hg with hg | hg
  · exact hs g (ha ▸ hg) hn
  · rw [List.mem_singleton.1 hg] at hn
    cases hn

theorem closeOpen_numberLaw (g : OpenGroup) (hs : NumberLaw s) : NumberLaw (closeOpen g s) := closeNumbered_numberLaw rfl hs

theorem closeFull_numberLaw (g : OpenGroup) (hs : NumberLaw s) : NumberLaw (closeFull g s) := by
  unfold closeFull
  dsimp only
  split
  · exact closeNumbered_numberLaw rfl (closeOpen_numberLaw g hs)
  · exact closeOpen_numberLaw g hs

theorem joinGroup_numberLaw (label target : Nat) (hs : NumberLaw s) : NumberLaw (joinGroup label target s) := by
  unfold joinGroup
  split
  · dsimp only
    split
    · exact closeFull_numberLaw _ hs
    · exact hs
  · split
    · dsimp only
      split
      · exact closeFull_numberLaw _ hs
      · exact hs
    · exact hs

theorem servePass_numberLaw (es : List TransferEntry) (hs : NumberLaw s) : NumberLaw (servePass es s) := by
  refine numberLaw_foldl (fun t e ht => ?_) es hs
  split
  · exact joinGroup_numberLaw _ _ ht
  · exact ht

theorem serveLoop_numberLaw (n : Nat) (hs : NumberLaw s) : NumberLaw (serveLoop n s) := by
  induction n generalizing s with
  | zero => exact hs
  | succ n ih =>
    unfold serveLoop
    dsimp only
    split
    · exact ih (servePass_numberLaw _ hs)
    · exact servePass_numberLaw _ hs

theorem buildReady_numberLaw (hs : NumberLaw s) : NumberLaw (buildReady s) := by
  obtain ⟨r, u, he, hb⟩ := buildReady_built s
  rw [he]
  intro x hx hn
  obtain ⟨g, hg, rfl | ⟨-, -, rfl⟩⟩ := exists_builtOf hb.groups hx
  · exact hs x hg hn
  · exact hs g hg hn

theorem tidyGroups_numberLaw (hs : NumberLaw s) : NumberLaw (tidyGroups s) :=
  buildReady_numberLaw (serveLoop_numberLaw _ hs)

/-! ## Selection -/

theorem selectTarget_numberLaw (notify : Bool) (label : Nat) (hs : NumberLaw s) :
    NumberLaw (selectTarget notify label s) := by
  unfold selectTarget
  split
  · exact hs
  · split
    · exact tidyGroups_numberLaw (joinGroup_numberLaw _ _ hs)
    · dsimp only
      split
      · exact hs
      · exact hs

theorem goBack_numberLaw (label : Nat) (hs : NumberLaw s) : NumberLaw (goBack label s) :=
  leaveGroups_numberLaw (s := setTransferState label .parked s) label hs

theorem reselect_numberLaw (back parked : List Nat) (hs : NumberLaw s) : NumberLaw (reselect back parked s) :=
  numberLaw_foldl (fun _ _ h => selectTarget_numberLaw _ _ h) _
    (tidyGroups_numberLaw (numberLaw_foldl (fun _ _ h => goBack_numberLaw _ h) back hs))

theorem applyDone_numberLaw (bay : Nat) (parked : List Nat) (hs : NumberLaw s) : NumberLaw (applyDone bay parked s) :=
  reselect_numberLaw _ _ (numberLaw_foldl
    (f := fun t l => raise .missed l bay (setTransferState l .parked t)) (fun _ _ h => h) _ hs)

/-! ## The frames -/

theorem advanceCount_numberLaw (hs : NumberLaw s) : NumberLaw (advanceCount s) := by
  unfold advanceCount
  dsimp only
  split <;> exact hs

theorem beaconEvent_numberLaw (m : BeaconMsg) (b : BayState) (d : Option DepState) (old : Option DirEntry)
    (parked : List Nat) (hs : NumberLaw s) : NumberLaw (beaconEvent m b d old parked s) := by
  unfold beaconEvent
  split
  · split
    · exact applyDone_numberLaw _ _ hs
    · exact reselect_numberLaw _ _ hs
  · split
    · exact applyDone_numberLaw _ _ hs
    · split
      · exact reselect_numberLaw _ _ hs
      · exact hs

theorem noteBeacon_numberLaw (m : BeaconMsg) (b : BayState) (d : Option DepState) (hs : NumberLaw s) :
    NumberLaw (noteBeacon m b d s) := by
  unfold noteBeacon
  dsimp only
  split
  · exact beaconEvent_numberLaw _ _ _ _ _ (advanceCount_numberLaw hs)
  · split
    · exact beaconEvent_numberLaw _ _ _ _ _ (advanceCount_numberLaw hs)
    · exact beaconEvent_numberLaw _ _ _ _ _ hs

theorem forgetOrigin_numberLaw (bay : Nat) (hs : NumberLaw s) : NumberLaw (forgetOrigin bay s) :=
  numberLaw_of_asm (by simp [forgetOrigin]) hs

theorem takeBeacon_numberLaw (m : BeaconMsg) (hs : NumberLaw s) : NumberLaw (takeBeacon m s) := by
  have hseen : NumberLaw (beaconSeen m s) := by
    unfold beaconSeen
    split
    · split
      · exact noteBeacon_numberLaw _ _ _ hs
      · exact hs
    · exact hs
  rw [takeBeacon_eq]
  split
  · exact forgetOrigin_numberLaw _ hseen
  · exact hseen

theorem acceptCurrent_numberLaw (bay label : Nat) (hs : NumberLaw s) : NumberLaw (acceptCurrent bay label s) :=
  leaveGroups_numberLaw (s := setTransferState label (.accepted bay (some (transit s.straps.bay bay + 5))) s) label hs

theorem declineCurrent_numberLaw (bay label : Nat) (w : Verdict) (hs : NumberLaw s) :
    NumberLaw (declineCurrent bay label w s) := by
  have hnoted : NumberLaw (declineNoted bay label s) := goBack_numberLaw label hs
  rw [declineCurrent_eq]
  unfold declineTold
  split <;> exact hnoted

theorem answerItem_numberLaw (bay : Nat) (acc : State × List Nat) (i : AnswerItem) (hs : NumberLaw acc.1) :
    NumberLaw (answerItem bay acc i).1 := by
  unfold answerItem
  split
  · exact hs
  split
  · exact hs
  dsimp only
  split
  · exact acceptCurrent_numberLaw _ _ hs
  · exact declineCurrent_numberLaw _ _ _ hs
  · exact numberLaw_of_asm (by simp) hs
  · exact hs

theorem takeAnswer_numberLaw (m : AnswerMsg) (hs : NumberLaw s) : NumberLaw (takeAnswer m s) := by
  unfold takeAnswer
  split
  · exact reselect_numberLaw _ _ (List.foldlRecOn (motive := fun acc => NumberLaw acc.1) m.items (answerItem m.target)
      (b := (s, [])) hs fun acc h i _ => answerItem_numberLaw m.target acc i h)
  · exact hs

theorem takeReceipt_numberLaw (m : ReceiptMsg) (hs : NumberLaw s) : NumberLaw (takeReceipt m s) := by
  have hremoved : NumberLaw (removeEntry m.label s) := tidyGroups_numberLaw
    (leaveGroups_numberLaw (s := setTable (s.table.filter (fun e => e.label != m.label)) s) m.label hs)
  unfold takeReceipt
  split
  · split
    · exact hremoved
    · split <;> exact hs
  · exact hs

theorem nameAccepted_numberLaw (m : CallMsg) (hs : NumberLaw s) : NumberLaw (nameAccepted m s) := by
  refine numberLaw_of_asm ?_ hs
  unfold nameAccepted
  dsimp only
  exact foldl_keep State.asm _ (fun t l => handOrDrop_asm t _) _ s

theorem takeCall_numberLaw (m : CallMsg) (hs : NumberLaw s) : NumberLaw (takeCall m s) := by
  have hnamed := nameAccepted_numberLaw m hs
  unfold takeCall
  dsimp only
  exact reselect_numberLaw _ _ hnamed

theorem takeDone_numberLaw (m : DoneMsg) (hs : NumberLaw s) : NumberLaw (takeDone m s) :=
  forgetOrigin_numberLaw _ (applyDone_numberLaw _ _ hs)

/-- Evaluating an OFFER leaves the own groups alone (R123). -/
theorem takeOffer_asm (m : OfferMsg) (s : State) : (takeOffer m s).asm = s.asm := by
  have hitems : (m.items.foldl (evalItem m.origin) (s, [])).1.asm = s.asm := by
    refine List.foldlRecOn (motive := fun acc => acc.1.asm = s.asm) m.items (evalItem m.origin) (b := (s, [])) rfl
      fun acc ih i _ => ?_
    rcases evalItem_cases m.origin acc i with h | ⟨d, -, h⟩ <;> rw [h]
    · exact ih
    · exact ih
  have hnote (t : State) : (noteGroup m t).asm = t.asm := by
    rcases noteGroup_cases t m with h | ⟨-, h⟩ <;> rw [h]
    rfl
  have hanswer (l : List AnswerItem) (t : State) : (answerOffer m l t).asm = t.asm := by
    unfold answerOffer
    split <;> simp
  unfold takeOffer evalOffer
  split
  · dsimp only
    rw [settle_asm, announce_asm, hnote, hanswer, hitems]
  · rfl

theorem unname_asm (label : Nat) (s : State) : (unname label s).asm = s.asm := by
  unfold unname
  split <;> rfl

theorem takeRelease_asm (m : ReleaseMsg) (s : State) : (takeRelease m s).asm = s.asm := by
  unfold takeRelease
  split
  · split
    · split
      · rw [holdGone_asm, settle_asm, removeHold_asm, unname_asm]
      · rfl
    · split <;> rfl
  · rfl

theorem takeHold_asm (m : HoldMsg) (s : State) : (takeHold m s).asm = s.asm := by
  unfold takeHold
  dsimp only
  split
  · split
    · rfl
    · exact reconcileNamed_asm _ _
    · rfl
  · rfl

end Sys2Proof.Machine
end


section
/-! PROOF. Joining and rejoining (O54). -/

namespace Sys2Proof.Machine

variable {s t : State} {v key : Nat} {b : Body} {c : JoinCause}

/-! ## The groups after the join -/

theorem released_numbered {l r : List ClosedGroup} (h : List.Forall₂ Released l r) :
    ∀ g ∈ r, g.pending = false ∧ g.number ≠ none := by
  induction h with
  | nil => simp
  | cons hgx _ ih => exact List.forall_mem_cons.2 ⟨⟨hgx.pending, hgx.numbered⟩, ih⟩

theorem released_told {l r : List ClosedGroup} (h : List.Forall₂ Released l r) :
    r.map (fun x => (x.target, x.members, x.kind, x.resend)) = l.map (fun x => (x.target, x.members, x.kind, x.resend)) := by
  induction h with
  | nil => rfl
  | cons hgx _ ih => rw [List.map_cons, List.map_cons, ih, hgx.told]

theorem released_kept {l r : List ClosedGroup} (h : List.Forall₂ Released l r) :
    ∀ x ∈ l.zip r, x.1.number ≠ none → x.2.number = x.1.number := fun _ hx =>
  ((List.forall₂_iff_zip.1 h).2 hx).kept

theorem Joined.link_eq (h : Joined c s t) : t.link = { s.link with
    line := .joined, queue := t.link.queue, beaconWaiting := t.link.beaconWaiting } := (congrArg State.link h.state :)

theorem Joined.dir_eq (h : Joined c s t) : t.dir = { s.dir with interval := 4, timer := some 4, last := t.dir.last } :=
  (congrArg State.dir h.state :)

/-- What the join leaves alone (R67). -/
theorem Joined.blocks (h : Joined c s t) : t = { s with link := t.link, dir := t.dir, notes := t.notes, asm := t.asm } :=
  h.state.trans (by rw [← h.link_eq, ← h.dir_eq])

/-- What the join leaves alone in the link (R67). -/
theorem Joined.framed (h : Joined c s t) : t = { s with
    link := { s.link with line := .joined, queue := t.link.queue, beaconWaiting := t.link.beaconWaiting }
    dir := t.dir, notes := t.notes, asm := t.asm } :=
  h.state.trans (by rw [← h.dir_eq])

theorem Joined.valid (h : Joined c s t) : t.link.valid = s.link.valid := (congrArg Link.valid h.link_eq :)

/-! ## The third frame -/

/-- What a frame's block does with it (R64). -/
def handled : Body → State → State
  | .beacon m => takeBeacon m
  | .offer m => takeOffer m
  | .answer m => takeAnswer m
  | .release m => takeRelease m
  | .receipt m => takeReceipt m
  | .call m => takeCall m
  | .hold m => takeHold m
  | .done m => takeDone m

theorem exec_command (b : Body) (key : Nat) (s : State) :
    exec (b.command key) s = .next (takeFrame key b (handled b) s) := by cases b <;> rfl

theorem handled_withValid (b : Body) : handled b (withValid v s) = withValid v (handled b s) := by
  cases b with
  | beacon m => rw [handled]; exact takeBeacon_withValid m
  | offer m => rw [handled]; exact takeOffer_withValid m
  | answer m => rw [handled]; exact takeAnswer_withValid m
  | release m => rw [handled]; exact takeRelease_withValid m
  | receipt m => rw [handled]; exact takeReceipt_withValid m
  | call m => rw [handled]; exact takeCall_withValid m
  | hold m => rw [handled]; exact takeHold_withValid m
  | done m => rw [handled]; exact takeDone_withValid m

theorem handled_numberLaw (b : Body) (hs : NumberLaw s) : NumberLaw (handled b s) := by
  cases b with
  | beacon m => rw [handled]; exact takeBeacon_numberLaw m hs
  | offer m => rw [handled]; exact numberLaw_of_asm (takeOffer_asm m s) hs
  | answer m => rw [handled]; exact takeAnswer_numberLaw m hs
  | release m => rw [handled]; exact numberLaw_of_asm (takeRelease_asm m s) hs
  | receipt m => rw [handled]; exact takeReceipt_numberLaw m hs
  | call m => rw [handled]; exact takeCall_numberLaw m hs
  | hold m => rw [handled]; exact numberLaw_of_asm (takeHold_asm m s) hs
  | done m => rw [handled]; exact takeDone_numberLaw m hs

/-- The line, its counts and marks stay while a frame is handed on. -/
theorem handled_routine (b : Body) (s : State) : Routine False s (handled b s) := by
  cases b with
  | beacon m => exact takeBeacon_routine (fun h => h.elim)
  | offer m => exact takeOffer_routine m
  | answer m => exact takeAnswer_routine m
  | release m => exact takeRelease_routine m
  | receipt m => exact takeReceipt_routine m
  | call m => exact takeCall_routine m
  | hold m => exact takeHold_routine m
  | done m => exact takeDone_routine m

/-- The state in which a frame heard has been handed on, and is to be counted. -/
def handedOn (b : Body) (s : State) : State := handled b (lineActive false s)

theorem handedOn_wire (b : Body) (s : State) : wireOf (handedOn b s).link = wireOf s.link := (handled_routine b _).wire

theorem handedOn_withValid (b : Body) : handedOn b (withValid v s) = withValid v (handedOn b s) :=
  handled_withValid (s := lineActive false s) b

/-- A frame heard while LISTENING that is not the third (R66). -/
theorem takeFrame_first (hr : s.pins.resetHeld = false) (hl : s.link.line = .listening) (hk : framingOk key b = true)
    (hb : keyBay key ≠ s.straps.bay) (f : State → State) :
    takeFrame key b f s = countTaken (f (lineActive false s)) := by
  simp [takeFrame, hr, hl, hk, hb]

theorem countTaken_listening (hl : s.link.line = .listening) : countTaken s =
    if 3 ≤ s.link.valid + 1 then enterJoined .frames (withValid (s.link.valid + 1) s)
    else withValid (s.link.valid + 1) s := if_pos hl

/-- The third frame joins (R66), after it has been handed on (Log 22). -/
theorem exec_thirdFrame (hr : s.pins.resetHeld = false) (hl : s.link.line = .listening) (hv : s.link.valid = 2)
    (hk : framingOk key b = true) (hb : keyBay key ≠ s.straps.bay) :
    exec (b.command key) s = .next (enterJoined .frames (withValid 3 (handedOn b s))) := by
  have hw := handedOn_wire b s
  have hline : (handedOn b s).link.line = .listening := (line_of_wire hw).trans hl
  have hvalid : (handedOn b s).link.valid = 2 := (congrArg Link.valid hw :).trans hv
  rw [exec_command, takeFrame_first hr hl hk hb]
  change Host.Outcome.next (countTaken (handedOn b s)) = _
  rw [countTaken_listening hline, hvalid]
  rfl

/-- The first frame is handed on and counted. -/
theorem exec_firstFrame (hr : s.pins.resetHeld = false) (hl : s.link.line = .listening)
    (hk : framingOk key b = true) (hb : keyBay key ≠ s.straps.bay) :
    exec (b.command key) (withValid 0 s) = .next (withValid 1 (handedOn b s)) := by
  have hline : (handedOn b s).link.line = .listening := (line_of_wire (handedOn_wire b s)).trans hl
  rw [exec_command, takeFrame_first (s := withValid 0 s) hr hl hk hb]
  change Host.Outcome.next (countTaken (handedOn b (withValid 0 s))) = _
  rw [handedOn_withValid, countTaken_listening (s := withValid 0 (handedOn b s)) hline]
  rfl

theorem handedOn_numberLaw (b : Body) (hs : NumberLaw s) : NumberLaw (handedOn b s) :=
  handled_numberLaw (s := lineActive false s) b hs

theorem takeReceipt_foreign {m : ReceiptMsg} (ho : m.origin ≠ s.straps.bay) (h0 : m.origin ≠ 0) : takeReceipt m s = s := by
  simp [takeReceipt, ho, h0]

/-! ## The statement -/

theorem exec_quietTimerExpiry (hr : s.pins.resetHeld = false) (hl : s.link.line = .listening) :
    exec .quietTimerExpiry s = .next (enterJoined .quiet (setLink { s.link with quiet := some 1000000 } s)) := by
  change Host.Outcome.next (live quietJoin s) = _
  simp [live, hr, quietJoin, hl, Config.quietLimit]

/-- Settles O54: what the join leaves is a record of its own, the third frame's handler reads no count of frames, and
every handler keeps a group without a number pending. -/
theorem stationsJoinAndRejoin : Obligations.StationsJoinAndRejoin := by
  refine ⟨fun s hr hl hn => ?_, fun key m s hr hl hv hk hb ho h0 hn => ?_, fun key b s hr hl hv hk hb hn => ?_,
    fun s hr hl hd hj => ?_⟩
  · have h := enterJoined_joined .quiet (s := setLink { s.link with quiet := some 1000000 } s) hn
    exact ⟨_, exec_quietTimerExpiry hr hl, h.line, h.interval, h.timer, h.notes, h.beacon, released_numbered h.groups,
      released_told h.groups, released_kept h.groups, h.framed⟩
  · have h := enterJoined_joined .frames (s := withValid 3 (handedOn (.receipt m) s)) (handedOn_numberLaw (.receipt m) hn)
    have hid : handedOn (.receipt m) s = lineActive false s := takeReceipt_foreign (s := lineActive false s) ho h0
    have he := exec_thirdFrame hr hl hv hk hb
    rw [hid] at h he
    exact ⟨_, he, h.line, h.valid, h.interval, h.timer, h.notes, released_numbered h.groups, released_told h.groups, h.blocks⟩
  · have h := enterJoined_joined .frames (s := withValid 3 (handedOn b s)) (handedOn_numberLaw b hn)
    have hw := handedOn_wire b s
    have hfails : (handedOn b s).link.fails = s.link.fails := (congrArg Link.fails hw :)
    refine ⟨_, exec_firstFrame hr hl hk hb, (line_of_wire hw).trans hl, rfl, _, exec_thirdFrame hr hl hv hk hb, h.line,
      h.valid, h.interval, h.timer, ?_, h.beacon, released_numbered h.groups,
      released_told h.groups, h.state⟩
    rw [← hfails]
    exact h.notes
  · change Host.Outcome.next (live expireRejoin s) = _
    simp [live, hr, expireRejoin, hl, hd, hj, enterListening, setLink, Config.rejoinSeconds]

end Sys2Proof.Machine
end


section
/-! SUPPORT. A frame heard that does not join is handed on in a state whose link has counted it (R66), and a HOLD in
CALLING adds to the named set (R144). -/

namespace Sys2Proof.Machine

variable {s t : State} {key : Nat} {b : Body}

/-! ## A frame heard -/

/-- A frame heard that does not join is handed on, the count of frames taken moved ahead of it (R64, R66). -/
theorem exec_heard (h : Hears key b s) : exec (b.command key) s = .next (handled b { s with link := heardLink s }) := by
  obtain ⟨hr, hd, hv, hk, hb⟩ := h
  have hw := handedOn_wire b s
  have hline : (handedOn b s).link.line = s.link.line := line_of_wire hw
  have hvalid : (handedOn b s).link.valid = s.link.valid := (congrArg Link.valid hw :)
  have hcount : countTaken (handedOn b s) = withValid (heardLink s).valid (handedOn b s) := by
    by_cases hl : s.link.line = .listening
    · have hlt := hv hl
      rw [countTaken_listening (hline.trans hl), hvalid, if_neg (by omega), heardLink, if_pos hl]
    · rw [heardLink, if_neg hl, ← hvalid]
      exact if_neg (hline.trans_ne hl)
  have htake : takeFrame key b (handled b) s = countTaken (handedOn b s) := by
    simp [takeFrame, hr, hd, hk, hb, handedOn]
  rw [exec_command, htake, hcount, handedOn, ← handled_withValid]
  rfl

/-! ## The named set -/

/-- What naming labels of one bay leaves of the named set: what stood there, and records of that bay and those labels
(R144). -/
theorem foldl_addNamed (bay : Nat) (ls : List Nat) (l : List NamedRecord) :
    ∃ r, ls.foldl (addNamed bay) l = l ++ r ∧ (∀ n ∈ r, n.bay = bay ∧ n.label ∈ ls) := by
  induction ls generalizing l with
  | nil => exact ⟨[], by simp, by simp⟩
  | cons x ls ih =>
    obtain ⟨r, hr, hmem⟩ := ih (addNamed bay l x)
    have hold : ∀ n ∈ r, n.bay = bay ∧ n.label ∈ x :: ls := fun n hn =>
      (hmem n hn).imp_right (List.mem_cons_of_mem _)
    rw [List.foldl_cons, hr]
    unfold addNamed
    split
    · exact ⟨r, rfl, hold⟩
    · exact ⟨⟨x, bay⟩ :: r, by simp, List.forall_mem_cons.2 ⟨⟨rfl, List.mem_cons_self⟩, hold⟩⟩

/-- With room in the named set every label comes into it (R144). -/
theorem named_of_foldl (bay : Nat) (ls : List Nat) (l : List NamedRecord) (h : l.length + ls.length ≤ 64) :
    ∀ x ∈ ls, ∃ n ∈ ls.foldl (addNamed bay) l, n.label = x := by
  induction ls generalizing l with
  | nil => simp
  | cons y ls ih =>
    simp only [List.length_cons] at h
    have hlen : (addNamed bay l y).length ≤ l.length + 1 := by
      unfold addNamed
      split <;> simp
    have hy : ∃ n ∈ addNamed bay l y, n.label = y := by
      unfold addNamed
      by_cases hin : l.any (fun n => n.label == y) = true
      · rw [hin, Bool.true_or, if_pos rfl]
        simpa using hin
      · have hlt : ¬ Config.namedLimit ≤ l.length := by simp only [Config.namedLimit]; omega
        rw [Bool.eq_false_iff.2 hin, Bool.false_or, decide_eq_false hlt, if_neg Bool.false_ne_true]
        exact ⟨⟨y, bay⟩, by simp, rfl⟩
    refine List.forall_mem_cons.2 ⟨?_, ih _ (by omega)⟩
    obtain ⟨n, hn, hl⟩ := hy
    obtain ⟨r, hr, -⟩ := foldl_addNamed bay ls (addNamed bay l y)
    exact ⟨n, by rw [List.foldl_cons, hr]; exact List.mem_append_left _ hn, hl⟩

end Sys2Proof.Machine
end


section
/-! SUPPORT. A HOLD in WAITING (R145, R146, R148): what is found nowhere gets a reconciliation hold or is answered
CLOSING, and what has arrived has its RECEIPT handed over again. -/

namespace Sys2Proof.Machine

variable {s t u : State} {n : NamedRecord}

/-! ## What a reconciliation leaves alone -/

theorem eq_of_keepReconcile (h : keepReconcile t = keepReconcile u) : t = { u with
    store := { u.store with holds := t.store.holds }, lane := t.lane, deck := { u.deck with entries := t.deck.entries }
    dir := t.dir, link := { u.link with queue := t.link.queue, beaconWaiting := t.link.beaconWaiting } } := by
  have hlink : { t.link with queue := [], beaconWaiting := false } = { u.link with queue := [], beaconWaiting := false } :=
    (congrArg State.link h :)
  have hdeck : { t.deck with entries := [] } = { u.deck with entries := [] } :=
    (congrArg (fun x : State => ({ x.deck with entries := [] } : Deck)) h :)
  have hstore : { t.store with holds := [] } = { u.store with holds := [] } := (congrArg State.store h :)
  apply state_eq
  case h6 =>
    calc t.deck = { ({ t.deck with entries := [] } : Deck) with entries := t.deck.entries } := rfl
      _ = _ := by rw [hdeck]
  case h7 => rfl
  case h11 =>
    calc t.link = { ({ t.link with queue := [], beaconWaiting := false } : Link) with
          queue := t.link.queue, beaconWaiting := t.link.beaconWaiting } := rfl
      _ = _ := by rw [hlink]
  case h12 => rfl
  case h15 =>
    calc t.store = { ({ t.store with holds := [] } : HoldTable) with holds := t.store.holds } := rfl
      _ = _ := by rw [hstore]
  exacts [(pins_of_keepReconcile h :), (straps_of_keepReconcile h :), (port_of_keepReconcile h :),
    (notes_of_keepReconcile h :), (docking_of_keepReconcile h :), (run_of_keepReconcile h :),
    (time_of_keepReconcile h :), (urgency_of_keepReconcile h :), (table_of_keepReconcile h :),
    (asm_of_keepReconcile h :), (dep_of_keepReconcile h :), (pending_of_keepReconcile h :)]

theorem lane_of_marks (h : keepMarks t = keepMarks u) : t.lane.map LaneEntry.unowed = u.lane.map LaneEntry.unowed :=
  (congrArg State.lane h :)

theorem deck_of_marks (h : keepMarks t = keepMarks u) :
    t.deck.entries.map DeckEntry.unowed = u.deck.entries.map DeckEntry.unowed :=
  (congrArg (fun x : State => x.deck.entries) h :)

/-- The marks do not tell where a label is found (R146). -/
theorem foundNowhere_of_marks (h : keepMarks t = keepMarks u) (label : Nat) : foundNowhere t label = foundNowhere u label := by
  have hlane (x : State) : inLane x label = (x.lane.map LaneEntry.unowed).any (fun e => e.label == label) := by
    rw [List.any_map]; rfl
  have hdeck (x : State) : onDeck x label = (x.deck.entries.map DeckEntry.unowed).any (fun e => e.label == label) := by
    rw [List.any_map]; rfl
  have hstore : t.store = u.store := (congrArg State.store h :)
  have htable : t.table = u.table := (congrArg State.table h :)
  simp only [foundNowhere, inHolds, inTable, hlane, hdeck, lane_of_marks h, deck_of_marks h, hstore, htable]

/-! ## The reconciliation holds -/

/-- The reconciliation hold of a named label (R146). -/
def reconciliationHold (n : NamedRecord) (minute : Nat) : Hold :=
  ⟨n.label, none, none, 120, n.bay, minute⟩

/-- A named label as it is reconciled (R146): a hold is made of one found nowhere, and the rest stays. -/
theorem reconcileOne_cases (n : NamedRecord) (acc : State × List NamedRecord) :
    (reconcileOne n acc).1 = acc.1
      ∨ (foundNowhere acc.1 n.label = true ∧ (reconcileOne n acc).1 =
          announce acc.1 (addHold (reconciliationHold n acc.1.time.minute) acc.1)) := by
  unfold reconcileOne
  split
  next h =>
    split
    · exact .inr ⟨h, rfl⟩
    · exact .inl rfl
  next => exact .inl rfl

theorem foundNowhere_announced {a : State} {h : Hold} {label : Nat} (hf : foundNowhere (announce a (addHold h u)) label = true) :
    foundNowhere u label = true := by
  simp only [foundNowhere, inHolds, inLane, onDeck, inTable, announce_store, announce_lane, announce_deck, announce_table,
    addHold, setStore_store, setStore_lane, setStore_deck, setStore_table, List.any_append, Bool.and_eq_true,
    Bool.not_eq_true', Bool.or_eq_false_iff] at hf ⊢
  obtain ⟨⟨⟨⟨hh, -⟩, hl⟩, hd⟩, ht⟩ := hf
  exact ⟨⟨⟨hh, hl⟩, hd⟩, ht⟩

/-- Holds made of named labels found nowhere stand after those held (R146). -/
structure Reconciled (ns : List NamedRecord) (s t : State) (made : List Hold) : Prop where
  holds : t.store.holds = s.store.holds ++ made
  made : ∀ x ∈ made, ∃ n ∈ ns, foundNowhere s n.label = true ∧ x = reconciliationHold n s.time.minute

theorem reconcileAll_reconciled (ns : List NamedRecord) (acc : State × List NamedRecord) :
    ∃ made, Reconciled ns acc.1 (ns.foldl (fun acc n => reconcileOne n acc) acc).1 made := by
  induction ns generalizing acc with
  | nil => exact ⟨[], by simp, by simp⟩
  | cons n ns ih =>
    obtain ⟨made, hh, hm⟩ := ih (reconcileOne n acc)
    rw [List.foldl_cons]
    rcases reconcileOne_cases n acc with e | ⟨hf, e⟩
    · rw [e] at hh hm
      refine ⟨made, hh, fun x hx => ?_⟩
      obtain ⟨k, hk, h⟩ := hm x hx
      exact ⟨k, List.mem_cons_of_mem _ hk, h⟩
    · rw [e] at hh hm
      refine ⟨reconciliationHold n acc.1.time.minute :: made, ?_, List.forall_mem_cons.2 ⟨?_, fun x hx => ?_⟩⟩
      · rw [hh, announce_store]
        simp [addHold]
      · exact ⟨n, List.mem_cons_self, hf, rfl⟩
      · obtain ⟨k, hk, hfk, hx⟩ := hm x hx
        refine ⟨k, List.mem_cons_of_mem _ hk, foundNowhere_announced hfk, ?_⟩
        rw [hx, announce_time]
        rfl

theorem receiptsAgain_keep (ns : List NamedRecord) (s : State) :
    keepMarks (ns.foldl (fun t n => receiptAgain n t) s) = keepMarks s :=
  foldl_keep keepMarks _ (fun t n => receiptAgain_keep n t) ns s

theorem reconcileNamed_reconciled (ns : List NamedRecord) (s : State) :
    ∃ made, Reconciled ns s (reconcileNamed ns s) made := by
  have hmarks := receiptsAgain_keep ns s
  obtain ⟨made, hh, hm⟩ := reconcileAll_reconciled ns (ns.foldl (fun t n => receiptAgain n t) s, [])
  have hstore : (ns.foldl (fun t n => receiptAgain n t) s).store = s.store := (congrArg State.store hmarks :)
  have htime : (ns.foldl (fun t n => receiptAgain n t) s).time = s.time := (congrArg State.time hmarks :)
  refine ⟨made, ?_, fun x hx => ?_⟩
  · rw [hstore] at hh
    rw [← hh]
    exact (congrArg (fun x : State => x.store.holds) (answerClosing_keep _ _) :)
  · obtain ⟨k, hk, hf, hx⟩ := hm x hx
    rw [foundNowhere_of_marks hmarks] at hf
    exact ⟨k, hk, hf, by rw [hx, htime]⟩

/-! ## One named label -/

theorem reconcileNamed_one (n : NamedRecord) (s : State) :
    reconcileNamed [n] s = reconcileOthers [n] (receiptAgain n s) := rfl

theorem receiptAgain_idle (h : (inLane s n.label = false ∧ onDeck s n.label = false) ∨ receiptOwed s n.label = true) :
    receiptAgain n s = s := by
  unfold receiptAgain
  rcases h with ⟨hl, hd⟩ | h
  · rw [hl, hd]; rfl
  · rw [h, Bool.not_true, Bool.and_false]; rfl

theorem reconcileOthers_found (h : foundNowhere s n.label = false) : reconcileOthers [n] s = s := by
  have hone : reconcileOne n (s, []) = (s, []) := by simp [reconcileOne, h]
  simp only [reconcileOthers, List.foldl_cons, List.foldl_nil, hone]
  rfl

theorem reconcileOthers_held (h : foundNowhere s n.label = true) (hc : canReconcile s = true) :
    reconcileOthers [n] s = announce s (addHold (reconciliationHold n s.time.minute) s) := by
  have hone : reconcileOne n (s, []) = (announce s (addHold (reconciliationHold n s.time.minute) s), []) := by
    simp [reconcileOne, h, hc, reconciliationHold, Config.greatestMass]
  simp only [reconcileOthers, List.foldl_cons, List.foldl_nil, hone]
  rfl

theorem reconcileOthers_closing (h : foundNowhere s n.label = true) (hc : canReconcile s = false) :
    reconcileOthers [n] s = handOrDrop (.answer ⟨s.straps.bay, n.bay, s.dep.callNumber, [⟨n.label, 3⟩]⟩) s := by
  have hone : reconcileOne n (s, []) = (s, [n]) := by simp [reconcileOne, h, hc]
  simp only [reconcileOthers, List.foldl_cons, List.foldl_nil, hone]
  simp [answerClosing, baysOf, answerClosingTo, chunksOf, Config.frameItems, Verdict.code]

theorem canReconcile_iff {d : Docking} (hd : s.docking = some d) : canReconcile s = true ↔
    0 < s.time.m ∧ s.store.holds.length < d.capacity ∧ usedSpaces s < d.capacity ∧ usedMass s + 120 ≤ d.payload := by
  simp [canReconcile, hd, admission_admit_iff, Config.greatestMass, and_assoc]

theorem foundNowhere_eq_false (h : inLane s n.label = true ∨ onDeck s n.label = true ∨ inHolds s n.label = true
    ∨ inTable s n.label = true) : foundNowhere s n.label = false := by
  rcases h with h | h | h | h <;> simp [foundNowhere, h]

/-- A label whose RECEIPT is owed is in the lane or on the deck (R145). -/
theorem found_of_owed {label : Nat} (h : receiptOwed s label = true) : inLane s label = true ∨ onDeck s label = true := by
  unfold receiptOwed at h
  rcases Bool.or_eq_true _ _ ▸ h with h | h
  · obtain ⟨e, he, hl⟩ := List.any_eq_true.1 h
    exact .inl (List.any_eq_true.2 ⟨e, he, (Bool.and_eq_true _ _ ▸ hl).1⟩)
  · obtain ⟨e, he, hl⟩ := List.any_eq_true.1 h
    exact .inr (List.any_eq_true.2 ⟨e, he, (Bool.and_eq_true _ _ ▸ hl).1⟩)

end Sys2Proof.Machine
end


section
/-! PROOF. HOLDs taken in CALLING and in WAITING (O49). -/

namespace Sys2Proof.Machine

variable {s t : State} {key : Nat}

/-- The state in which a frame heard is handed on, its link having counted it (R66). -/
def heardIn (s : State) : State := { s with link := heardLink s }

theorem exec_hold {m : HoldMsg} (h : Hears key (.hold m) s) : exec (.hold key m) s = .next (takeHold m (heardIn s)) :=
  exec_heard h

/-! ## CALLING -/

theorem takeHold_calling {m : HoldMsg} (hc : m.caller = s.straps.bay) (hn : m.number = s.dep.callNumber)
    (hs : s.dep.state = some .calling) : takeHold m s = setDep { s.dep with
      named := (m.labels.filter (· != 0)).foldl (addNamed m.bay) s.dep.named } s := by
  simp [takeHold, hc, hn, hs]

theorem takeHold_ignored {m : HoldMsg} (h : m.caller ≠ s.straps.bay ∨ m.number ≠ s.dep.callNumber
    ∨ (s.dep.state ≠ some .calling ∧ s.dep.state ≠ some .waiting)) : takeHold m s = s := by
  by_cases hown : m.caller = s.straps.bay ∧ m.number = s.dep.callNumber
  · obtain ⟨hc, hw⟩ := (h.resolve_left (absurd hown.1)).resolve_left (absurd hown.2)
    simp only [takeHold, if_pos hown]
  · simp only [takeHold, if_neg hown]

/-! ## WAITING -/

theorem takeHold_waiting {m : HoldMsg} (hc : m.caller = s.straps.bay) (hn : m.number = s.dep.callNumber)
    (hs : s.dep.state = some .waiting) : takeHold m s =
      reconcileNamed ((m.labels.filter (· != 0)).map (fun l => { label := l, bay := m.bay })) s := by
  simp [takeHold, hc, hn, hs]

/-- A HOLD of one label in WAITING (R148). -/
theorem exec_hold_one {bay label : Nat} (h : Hears key (.hold ⟨bay, s.straps.bay, s.dep.callNumber, [label]⟩) s)
    (hl : label ≠ 0) (hs : s.dep.state = some .waiting) :
    exec (.hold key ⟨bay, s.straps.bay, s.dep.callNumber, [label]⟩) s =
      .next (reconcileOthers [⟨label, bay⟩] (receiptAgain ⟨label, bay⟩ (heardIn s))) := by
  rw [exec_hold h, takeHold_waiting (s := heardIn s) rfl rfl hs, ← reconcileNamed_one]
  simp [hl]

theorem askReceipt_state (label origin : Nat) (s : State) : (askReceipt label origin s).1 =
    if hasRoom 0 s.link.queue = true then
      { s with link := { s.link with
          queue := insertQueued (framed (.receipt ⟨s.straps.bay, origin, label⟩) s) s.link.queue } }
    else { s with lane := setLaneOwed label true s.lane, deck := setDeckOwed label true s.deck } := by
  unfold askReceipt
  rcases handFrame_cases (.receipt ⟨s.straps.bay, origin, label⟩) s with ⟨hr, e⟩ | ⟨hr, e⟩ <;>
    change hasRoom 0 s.link.queue = _ at hr
  · rw [e, if_neg (Bool.eq_false_iff.1 hr)]
  · rw [e, if_pos hr]
    rfl

/-- What has arrived has its RECEIPT handed over again, where none is owed (R145). -/
theorem reconciled_arrived {bay label : Nat} (h : inLane s label = true ∨ onDeck s label = true)
    (ho : receiptOwed s label = false) :
    reconcileOthers [⟨label, bay⟩] (receiptAgain ⟨label, bay⟩ s) = (askReceipt label bay s).1 := by
  have hin : (inLane s label || onDeck s label) = true := by simpa using h
  have hagain : receiptAgain ⟨label, bay⟩ s = (askReceipt label bay s).1 := by simp [receiptAgain, hin, ho]
  rw [hagain]
  refine reconcileOthers_found ?_
  rw [foundNowhere_of_marks (askReceipt_keep label bay s)]
  exact foundNowhere_eq_false (n := ⟨label, bay⟩) (h.imp_right .inl)

/-- What is found nowhere has no RECEIPT to hand over (R145). -/
theorem receiptAgain_nowhere {n : NamedRecord} (h : foundNowhere s n.label = true) : receiptAgain n s = s := by
  refine receiptAgain_idle (.inl ?_)
  simp only [foundNowhere, Bool.and_eq_true, Bool.not_eq_true'] at h
  obtain ⟨⟨⟨-, hl⟩, hd⟩, -⟩ := h
  exact ⟨hl, hd⟩

/-- A reconciliation hold made changes the holds, and the beacon where the beaconed free spaces tell (R85, R146). -/
theorem announce_addHold (h : Hold) (s : State) : announce s (addHold h s) = { s with
    store := { s.store with holds := s.store.holds ++ [h] }
    dir := (announce s (addHold h s)).dir, link := (announce s (addHold h s)).link } := by
  refine state_eq ?_ ?_ ?_ ?_ ?_ ?_ ?_ ?_ ?_ ?_ rfl rfl ?_ ?_ ?_ ?_ ?_ <;> simp [addHold]

theorem beaconAlike_of_eq {x : State} (h : t = { x with dir := t.dir, link := t.link }) : BeaconAlike x t := by
  rw [h]
  exact ⟨rfl, rfl, rfl, rfl, rfl⟩

theorem handOrDrop_urgent {b : Body} (hk : keyFor s b = (framed b s).key) : handOrDrop b s = setQueue
    (if hasRoom b.kind.cls s.link.queue = true then insertQueued (framed b s) s.link.queue else s.link.queue) s := by
  unfold handOrDrop
  rcases handFrame_cases b s with ⟨hr, e⟩ | ⟨hr, e⟩
  · rw [e, if_neg (Bool.eq_false_iff.1 hr)]
    rfl
  · rw [e, if_pos hr, hk]
    rfl

/-! ## The statement's clauses -/

theorem holdNamesInCalling (key : Nat) (m : HoldMsg) (s : State) (h : Hears key (.hold m) s) (hc : m.caller = s.straps.bay)
    (hn : m.number = s.dep.callNumber) (hs : s.dep.state = some .calling)
    (hroom : s.dep.named.length + m.labels.length ≤ 64) :
    ∃ t, exec (.hold key m) s = .next t
      ∧ (∀ l ∈ m.labels, l ≠ 0 → ∃ n ∈ t.dep.named, n.label = l)
      ∧ t.dep.named.take s.dep.named.length = s.dep.named
      ∧ (∀ n ∈ t.dep.named.drop s.dep.named.length, n.bay = m.bay ∧ n.label ∈ m.labels ∧ n.label ≠ 0)
      ∧ t = { s with dep := { s.dep with named := t.dep.named }, link := heardLink s } := by
  obtain ⟨r, hr, hnew⟩ := foldl_addNamed m.bay (m.labels.filter (· != 0)) s.dep.named
  have hall := named_of_foldl m.bay (m.labels.filter (· != 0)) s.dep.named
    (hroom.trans' (Nat.add_le_add_left (List.length_filter_le _ _) _))
  rw [hr] at hall
  refine ⟨setDep { s.dep with named := s.dep.named ++ r } (heardIn s), ?_, fun l hl h0 => ?_, ?_, ?_, rfl⟩
  · rw [exec_hold h, takeHold_calling (s := heardIn s) hc hn hs]
    exact congrArg (fun l => Host.Outcome.next (setDep { s.dep with named := l } (heardIn s))) hr
  · exact hall l (List.mem_filter.2 ⟨hl, by simpa using h0⟩)
  · exact List.take_left
  · intro n hn
    rw [setDep_dep, List.drop_left] at hn
    obtain ⟨hb, hl⟩ := hnew n hn
    obtain ⟨hl, h0⟩ := List.mem_filter.1 hl
    exact ⟨hb, hl, by simpa using h0⟩

theorem holdReconciledInWaiting (key : Nat) (m : HoldMsg) (s : State) (h : Hears key (.hold m) s)
    (hc : m.caller = s.straps.bay) (hn : m.number = s.dep.callNumber) (hs : s.dep.state = some .waiting) :
    ∃ t, exec (.hold key m) s = .next t
      ∧ t.store.holds.take s.store.holds.length = s.store.holds
      ∧ (∀ x ∈ t.store.holds.drop s.store.holds.length,
          x.label ∈ m.labels ∧ x.label ≠ 0 ∧ foundNowhere s x.label = true
          ∧ x = ⟨x.label, none, none, 120, m.bay, s.time.minute⟩)
      ∧ t.lane.map (fun e => { e with owed := false }) = s.lane.map (fun e => { e with owed := false })
      ∧ t.deck.entries.map (fun e => { e with owed := false }) = s.deck.entries.map (fun e => { e with owed := false })
      ∧ t = { s with
          store := { s.store with holds := t.store.holds }, lane := t.lane,
          deck := { s.deck with entries := t.deck.entries }, dir := t.dir,
          link := { heardLink s with queue := t.link.queue, beaconWaiting := t.link.beaconWaiting } } := by
  have hkeep := reconcileNamed_keep ((m.labels.filter (· != 0)).map (fun l => { label := l, bay := m.bay })) (heardIn s)
  obtain ⟨made, hh, hm⟩ := reconcileNamed_reconciled
    ((m.labels.filter (· != 0)).map (fun l => { label := l, bay := m.bay })) (heardIn s)
  have he := (exec_hold h).trans (congrArg Host.Outcome.next (takeHold_waiting (s := heardIn s) hc hn hs))
  generalize reconcileNamed _ (heardIn s) = t at he hkeep hh hm
  change t.store.holds = s.store.holds ++ made at hh
  refine ⟨t, he, ?_, fun x hx => ?_, ?_, ?_, eq_of_keepReconcile hkeep⟩
  · rw [hh, List.take_left]
  · rw [hh, List.drop_left] at hx
    obtain ⟨n, hn, hf, rfl⟩ := hm x hx
    obtain ⟨l, hl, rfl⟩ := List.mem_map.1 hn
    obtain ⟨hl, h0⟩ := List.mem_filter.1 hl
    have h0 : l ≠ 0 := by simpa using h0
    exact ⟨hl, h0, hf, rfl⟩
  · exact (congrArg State.lane hkeep :)
  · exact (congrArg (fun x : State => x.deck.entries) hkeep :)

theorem holdOfKnownLabel (key bay label : Nat) (s : State)
    (h : Hears key (.hold ⟨bay, s.straps.bay, s.dep.callNumber, [label]⟩) s) (hl : label ≠ 0)
    (hs : s.dep.state = some .waiting)
    (hk : receiptOwed s label = true ∨ (inLane s label = false ∧ onDeck s label = false ∧ (inHolds s label = true ∨
      inTable s label = true))) :
    exec (.hold key ⟨bay, s.straps.bay, s.dep.callNumber, [label]⟩) s = .next { s with link := heardLink s } := by
  rw [exec_hold_one h hl hs]
  have hidle : receiptAgain ⟨label, bay⟩ (heardIn s) = heardIn s := receiptAgain_idle (s := heardIn s) (n := ⟨label, bay⟩)
    (hk.symm.imp_left fun ⟨hlane, hdeck, _⟩ => ⟨hlane, hdeck⟩)
  have hfound : foundNowhere (heardIn s) label = false := foundNowhere_eq_false (s := heardIn s) (n := ⟨label, bay⟩) <| by
    rcases hk with hk | ⟨-, -, hk⟩
    · exact (found_of_owed hk).imp_right .inl
    · exact .inr (.inr hk)
  rw [hidle, reconcileOthers_found (n := ⟨label, bay⟩) hfound]
  rfl

theorem holdOfArrivedLabel (key bay label : Nat) (s : State)
    (h : Hears key (.hold ⟨bay, s.straps.bay, s.dep.callNumber, [label]⟩) s) (hl : label ≠ 0)
    (hs : s.dep.state = some .waiting) (ha : inLane s label = true ∨ onDeck s label = true)
    (ho : receiptOwed s label = false) :
    exec (.hold key ⟨bay, s.straps.bay, s.dep.callNumber, [label]⟩) s = .next (if hasRoom 0 s.link.queue = true then
        { s with link := { (heardLink s) with
            queue := insertQueued (framed (.receipt ⟨s.straps.bay, bay, label⟩) s) s.link.queue } }
      else { s with
        link := heardLink s
        lane := s.lane.map (fun e => if e.label = label then { e with owed := true } else e)
        deck := { s.deck with
          entries := s.deck.entries.map (fun e =>
            if e.label = label ∧ e.tag = .outbound then { e with owed := true } else e) } }) := by
  rw [exec_hold_one h hl hs, reconciled_arrived (s := heardIn s) ha ho, askReceipt_state]
  rfl

theorem holdOfLostLabel (key bay label : Nat) (s : State) (d : Docking)
    (h : Hears key (.hold ⟨bay, s.straps.bay, s.dep.callNumber, [label]⟩) s) (hl : label ≠ 0)
    (hs : s.dep.state = some .waiting) (hf : foundNowhere s label = true) (hd : s.docking = some d) (hm : 0 < s.time.m)
    (hcap : s.store.holds.length < d.capacity) (hsp : usedSpaces s < d.capacity) (hmass : usedMass s + 120 ≤ d.payload) :
    ∃ t, exec (.hold key ⟨bay, s.straps.bay, s.dep.callNumber, [label]⟩) s = .next t
      ∧ t.store = { s.store with holds := s.store.holds ++ [⟨label, none, none, 120, bay, s.time.minute⟩] }
      ∧ BeaconIf ((contentNow t).free != (contentNow s).free && (contentNow t).free != s.dir.last.free)
          { s with link := heardLink s } t
      ∧ t = { s with store := t.store, dir := t.dir, link := t.link } := by
  have hc : canReconcile (heardIn s) = true := (canReconcile_iff (s := heardIn s) hd).2 ⟨hm, hcap, hsp, hmass⟩
  have he : exec (.hold key ⟨bay, s.straps.bay, s.dep.callNumber, [label]⟩) s = .next (announce (heardIn s)
      (addHold (reconciliationHold ⟨label, bay⟩ s.time.minute) (heardIn s))) := by
    rw [exec_hold_one h hl hs, receiptAgain_nowhere (s := heardIn s) (n := ⟨label, bay⟩) hf,
      reconcileOthers_held (s := heardIn s) (n := ⟨label, bay⟩) hf hc]
    rfl
  have hstate := announce_addHold (reconciliationHold ⟨label, bay⟩ s.time.minute) (heardIn s)
  generalize ht : announce (heardIn s) (addHold (reconciliationHold ⟨label, bay⟩ s.time.minute) (heardIn s)) = t at he hstate
  have hstore : t.store = { s.store with holds := s.store.holds ++ [reconciliationHold ⟨label, bay⟩ s.time.minute] } :=
    (congrArg State.store hstate :)
  refine ⟨t, he, hstore, ?_, ?_⟩
  · refine announce_beacon (s := heardIn s) (y := heardIn s)
      (x := addHold (reconciliationHold ⟨label, bay⟩ s.time.minute) (heardIn s)) rfl rfl rfl rfl rfl ?_ ?_ ?_
    · rw [ht]
    · rw [ht]
    · exact beaconAlike_of_eq hstate
  · rw [hstore]
    exact hstate

theorem holdAnsweredClosing (key bay label : Nat) (s : State) (d : Docking)
    (h : Hears key (.hold ⟨bay, s.straps.bay, s.dep.callNumber, [label]⟩) s) (hl : label ≠ 0)
    (hs : s.dep.state = some .waiting) (hf : foundNowhere s label = true) (hd : s.docking = some d)
    (hno : s.time.m = 0 ∨ d.capacity ≤ s.store.holds.length ∨ d.capacity ≤ usedSpaces s ∨ d.payload < usedMass s + 120) :
    exec (.hold key ⟨bay, s.straps.bay, s.dep.callNumber, [label]⟩) s = .next { s with link := { (heardLink s) with
      queue := if hasRoom 1 s.link.queue = true then
          insertQueued (framed (.answer ⟨s.straps.bay, bay, s.dep.callNumber, [⟨label, 3⟩]⟩) s) s.link.queue
        else s.link.queue } } := by
  have hc : canReconcile (heardIn s) = false := by
    refine Bool.eq_false_iff.2 fun hc => ?_
    have := (canReconcile_iff (s := heardIn s) hd).1 hc
    change 0 < s.time.m ∧ s.store.holds.length < d.capacity ∧ usedSpaces s < d.capacity ∧ usedMass s + 120 ≤ d.payload at this
    omega
  rw [exec_hold_one h hl hs, receiptAgain_nowhere (s := heardIn s) (n := ⟨label, bay⟩) hf,
    reconcileOthers_closing (s := heardIn s) (n := ⟨label, bay⟩) hf hc]
  exact congrArg Host.Outcome.next (handOrDrop_urgent (s := heardIn s)
    (b := .answer ⟨s.straps.bay, bay, s.dep.callNumber, [⟨label, 3⟩]⟩) rfl)

end Sys2Proof.Machine
end


section
/-! SUPPORT. The transmit queue at a CALL: the HOLDs that name what was accepted (R143), and the OFFERs that selection
adds (R98, R104). -/

namespace Sys2Proof.Machine

variable {s t u : State}

/-! ## The HOLDs -/

/-- A list cut into pieces, piece by piece (R143). -/
theorem chunksOf_getElem? {α : Type} {n : Nat} (hn : 0 < n) (fuel : Nat) (l : List α) (hl : l.length ≤ fuel) (k : Nat) :
    (chunksOf n fuel l)[k]? = if n * k < l.length then some ((l.drop (n * k)).take n) else none := by
  induction fuel generalizing l k with
  | zero =>
    rw [List.eq_nil_of_length_eq_zero (Nat.le_zero.1 hl)]
    simp [chunksOf]
  | succ fuel ih =>
    cases l with
    | nil => simp [chunksOf]
    | cons x xs =>
      cases k with
      | zero => simp [chunksOf]
      | succ k =>
        have hlen : ((x :: xs).drop n).length ≤ fuel := by
          simp only [List.length_drop, List.length_cons] at hl ⊢
          omega
        have hiff : n * k < ((x :: xs).drop n).length ↔ n * (k + 1) < (x :: xs).length := by
          rw [List.length_drop, Nat.mul_succ]
          omega
        rw [chunksOf, List.getElem?_cons_succ, ih _ hlen, List.drop_drop, Nat.add_comm n (n * k), ← Nat.mul_succ]
        exact if_congr hiff rfl rfl

theorem handOrDrop_queue (b : Body) (s : State) : ∃ q, handOrDrop b s = setQueue q s ∧ s.link.queue.Sublist q := by
  unfold handOrDrop
  rcases handFrame_cases b s with ⟨-, e⟩ | ⟨-, e⟩ <;> rw [e]
  · exact ⟨_, rfl, List.Sublist.refl _⟩
  · exact ⟨_, rfl, sublist_insertQueued _ _⟩

/-- A HOLD handed over for a caller (R143). -/
def handHold (m : CallMsg) (t : State) (ls : List Nat) : State :=
  handOrDrop (.hold { bay := t.straps.bay, caller := m.bay, number := m.number, labels := ls }) t

theorem nameAccepted_eq (m : CallMsg) (s : State) : nameAccepted m s =
    (chunksOf 8 (labelsWhere (acceptedTo m.bay) s).length (labelsWhere (acceptedTo m.bay) s)).foldl (handHold m) s := rfl

theorem handHolds_queue (m : CallMsg) (cs : List (List Nat)) (s : State) :
    ∃ q, cs.foldl (handHold m) s = setQueue q s ∧ s.link.queue.Sublist q := by
  induction cs generalizing s with
  | nil => exact ⟨_, rfl, List.Sublist.refl _⟩
  | cons c cs ih =>
    obtain ⟨q, hq, hsub⟩ := handOrDrop_queue
      (.hold { bay := s.straps.bay, caller := m.bay, number := m.number, labels := c }) s
    obtain ⟨r, hr, hsub'⟩ := ih (setQueue q s)
    refine ⟨r, ?_, hsub.trans hsub'⟩
    rw [List.foldl_cons, handHold, hq, hr]
    rfl

/-- The HOLDs stand in the queue as far as its slots go (R79, R143). -/
theorem handHolds_mem (m : CallMsg) (cs : List (List Nat)) (s : State) {k : Nat} {c : List Nat} (hc : cs[k]? = some c)
    (hroom : s.link.queue.length + k < 16) :
    framed (.hold ⟨s.straps.bay, m.bay, m.number, c⟩) s ∈ (cs.foldl (handHold m) s).link.queue := by
  induction cs generalizing s k with
  | nil => simp at hc
  | cons x cs ih =>
    rcases handFrame_urgent (s := s) (b := .hold ⟨s.straps.bay, m.bay, m.number, x⟩) rfl rfl with ⟨-, e⟩ | ⟨h, -⟩
    · have hx : handHold m s x = setQueue (insertQueued (framed (.hold ⟨s.straps.bay, m.bay, m.number, x⟩) s) s.link.queue) s := by
        rw [handHold, handOrDrop, e, Option.getD_some]
      rw [List.foldl_cons, hx]
      cases k with
      | zero =>
        obtain rfl : x = c := by simpa using hc
        obtain ⟨q, hq, hsub⟩ := handHolds_queue m cs
          (setQueue (insertQueued (framed (.hold ⟨s.straps.bay, m.bay, m.number, x⟩) s) s.link.queue) s)
        rw [hq]
        exact hsub.subset (mem_insertQueued.2 (.inl rfl))
      | succ k =>
        refine ih (setQueue (insertQueued (framed (.hold ⟨s.straps.bay, m.bay, m.number, x⟩) s) s.link.queue) s)
          (by simpa using hc) ?_
        change (insertQueued _ s.link.queue).length + k < 16
        rw [insertQueued_length]
        omega
    · omega

/-! ## The OFFERs -/

/-- What may be done to the queue by building OFFERs: they are added where there is room (R79, R104). -/
structure Offering (s t : State) : Prop where
  stays : s.link.queue.Sublist t.link.queue
  only : ∀ f ∈ t.link.queue, f ∈ s.link.queue ∨ f.body.kind = .offer
  full : 16 ≤ s.link.queue.length → t.link.queue = s.link.queue

namespace Offering

theorem same (h : t.link.queue = s.link.queue) : Offering s t := ⟨h ▸ List.Sublist.refl _, fun _ hf => .inl (h ▸ hf), fun _ => h⟩

theorem trans (h1 : Offering s t) (h2 : Offering t u) : Offering s u where
  stays := h1.stays.trans h2.stays
  only f hf := (h2.only f hf).elim (h1.only f) .inr
  full h := by
    have ht := h1.full h
    rw [h2.full (ht ▸ h), ht]

theorem foldl {α : Type} {f : State → α → State} (h : ∀ s a, Offering s (f s a)) (l : List α) (s : State) :
    Offering s (l.foldl f s) := by
  induction l generalizing s with
  | nil => exact same rfl
  | cons a l ih => exact (h s a).trans (ih _)

end Offering

theorem buildReady_offering (s : State) : Offering s (buildReady s) := by
  obtain ⟨r, v, he, hb⟩ := buildReady_built s
  refine ⟨?_, fun f hf => ?_, fun h => by rw [buildReady_idle (.inl h)]⟩
  · rw [he]; exact hb.stays
  · rw [he] at hf
    refine (hb.only f hf).imp_right ?_
    rintro ⟨-, x, -, -, -, hx⟩
    rw [hx]
    rfl

theorem tidyGroups_offering (s : State) : Offering s (tidyGroups s) :=
  (Offering.same (congrArg Link.queue (serveWaiting_link s))).trans (buildReady_offering _)

theorem selectTarget_offering (notify : Bool) (label : Nat) (s : State) : Offering s (selectTarget notify label s) := by
  unfold selectTarget
  split
  · exact .same rfl
  · split
    · refine (Offering.same ?_).trans (tidyGroups_offering _)
      rw [joinGroup_link]
      rfl
    · dsimp only
      split <;> exact .same rfl

theorem reselect_offering (back parked : List Nat) (s : State) : Offering s (reselect back parked s) := by
  have hback : Offering s (back.foldl (fun u l => goBack l u) s) := 
    Offering.foldl (f := fun u l => goBack l u) (fun _ _ => .same rfl) back s
  exact (hback.trans (tidyGroups_offering _)).trans
    (Offering.foldl (f := fun u l => selectTarget (back.contains l) l u) (fun _ _ => selectTarget_offering _ _ _) _ _)

/-! ## What selection leaves alone -/

theorem eq_of_keepTable (h : keepTable t = keepTable u) : t = { u with
    table := t.table, asm := t.asm, notes := t.notes, link := { u.link with queue := t.link.queue } } := by
  have hlink : { t.link with queue := [] } = { u.link with queue := [] } := (congrArg State.link h :)
  apply state_eq
  case h4 => rfl
  case h11 =>
    calc t.link = { ({ t.link with queue := [] } : Link) with queue := t.link.queue } := rfl
      _ = _ := by rw [hlink]
  case h13 => rfl
  case h14 => rfl
  exacts [(pins_of_keepTable h :), (straps_of_keepTable h :), (port_of_keepTable h :), (docking_of_keepTable h :),
    (deck_of_keepTable h :), (lane_of_keepTable h :), (run_of_keepTable h :), (time_of_keepTable h :),
    (urgency_of_keepTable h :), (dir_of_keepTable h :), (store_of_keepTable h :), (dep_of_keepTable h :),
    (pending_of_keepTable h :)]

end Sys2Proof.Machine
end


section
/-! SUPPORT. In which groups a label stands, and toward which target: what joining, leaving, serving and building do to
that (R99 to R104). -/

namespace Sys2Proof.Machine

variable {s t u : State} {a : Assembler} {l T : Nat}

/-- A label stands in a group toward a target (R99). -/
def Member (a : Assembler) (l T : Nat) : Prop :=
  (∃ g ∈ a.openGroups, g.target = T ∧ l ∈ g.members) ∨ ∃ g ∈ a.sendList, g.target = T ∧ l ∈ g.members

theorem grouped_iff : grouped a l = true ↔ ∃ T, Member a l T := by
  simp [grouped, Member, exists_or]

/-! ## Closing and joining -/

theorem closeNumbered_member {target : Nat} {members : List Nat} {kind : GroupKind}
    (h : Member (closeNumbered target members kind a) l T) : Member a l T ∨ (T = target ∧ l ∈ members) := by
  rcases h with h | ⟨g, hg, ht, hl⟩
  · exact .inl (.inl h)
  · rcases List.mem_append.1 hg with hg | hg
    · exact .inl (.inr ⟨g, hg, ht, hl⟩)
    · rw [List.mem_singleton.1 hg] at ht hl
      exact .inr ⟨ht.symm, hl⟩

theorem closeOpen_member {g : OpenGroup} (h : Member (closeOpen g s).asm l T) :
    Member s.asm l T ∨ (T = g.target ∧ l ∈ g.members) := by
  refine (closeNumbered_member h).imp_left ?_
  rintro (⟨x, hx, h⟩ | h)
  · exact .inl ⟨x, (List.mem_filter.1 hx).1, h⟩
  · exact .inr h

theorem closeFull_member {g : OpenGroup} (h : Member (closeFull g s).asm l T) :
    Member s.asm l T ∨ (T = g.target ∧ l ∈ g.members) := by
  unfold closeFull at h
  dsimp only at h
  split at h
  · rcases closeNumbered_member h with h | ⟨-, h⟩
    · exact closeOpen_member h
    · cases h
  · exact closeOpen_member h

/-- An entry handed to the Offer Assembler comes into a group of its own target (R100). -/
theorem joinGroup_member {label target : Nat} (h : Member (joinGroup label target s).asm l T) :
    Member s.asm l T ∨ (l = label ∧ T = target) := by
  unfold joinGroup at h
  split at h
  next g hg =>
    have hmem := List.mem_of_find?_eq_some hg
    have htarget : g.target = target := by simpa using List.find?_some hg
    have hjoined (hT : T = g.target) (hl : l ∈ g.members ++ [label]) : Member s.asm l T ∨ (l = label ∧ T = target) := by
      rcases List.mem_append.1 hl with hl | hl
      · exact .inl (.inl ⟨g, hmem, hT.symm, hl⟩)
      · exact .inr ⟨List.mem_singleton.1 hl, hT.trans htarget⟩
    dsimp only at h
    split at h
    · exact (closeFull_member h).elim .inl fun ⟨hT, hl⟩ => hjoined hT hl
    · rcases h with ⟨x, hx, hT, hl⟩ | h
      · obtain ⟨y, hy, rfl⟩ := List.mem_map.1 hx
        split at hT
        next hy => exact hjoined hT.symm (by simpa [hy] using hl)
        next hne => exact .inl (.inl ⟨y, hy, hT, by simpa [hne] using hl⟩)
      · exact .inl (.inr h)
  next =>
    split at h
    · dsimp only at h
      split at h
      · exact (closeFull_member h).imp_right fun ⟨hT, hl⟩ => ⟨List.mem_singleton.1 hl, hT⟩
      · rcases h with ⟨x, hx, hT, hl⟩ | h
        · rcases List.mem_append.1 hx with hx | hx
          · exact .inl (.inl ⟨x, hx, hT, hl⟩)
          · rw [List.mem_singleton.1 hx] at hT hl
            exact .inr ⟨List.mem_singleton.1 hl, hT.symm⟩
        · exact .inl (.inr h)
    · exact .inl h

theorem leaveGroups_member {label : Nat} (h : Member (leaveGroups label s).asm l T) : Member s.asm l T ∧ l ≠ label := by
  rcases h with ⟨g, hg, hT, hl⟩ | ⟨g, hg, hT, hl⟩
  · obtain ⟨x, hx, rfl⟩ := List.mem_map.1 (List.mem_filter.1 hg).1
    obtain ⟨hl, hne⟩ := List.mem_filter.1 hl
    exact ⟨.inl ⟨x, hx, hT, hl⟩, by simpa using hne⟩
  · obtain ⟨x, hx, rfl⟩ := List.mem_map.1 (List.mem_filter.1 hg).1
    obtain ⟨hl, hne⟩ := List.mem_filter.1 hl
    exact ⟨.inr ⟨x, hx, hT, hl⟩, by simpa using hne⟩

/-! ## Serving and building -/

/-- A label stands in a group, or an entry QUEUED toward the target waits for one (R101). -/
def MemberOrQueued (s : State) (l T : Nat) : Prop :=
  Member s.asm l T ∨ ∃ e ∈ s.table, e.label = l ∧ e.state = .queued T

theorem servePass_member (es : List TransferEntry) (h : Member (servePass es s).asm l T) :
    Member s.asm l T ∨ ∃ e ∈ es, e.label = l ∧ e.state = .queued T := by
  induction es generalizing s with
  | nil => exact .inl h
  | cons e es ih =>
    rcases ih h with h | ⟨x, hx, h⟩
    · dsimp only at h
      split at h
      next target he =>
        exact (joinGroup_member h).imp_right fun ⟨hl, hT⟩ => ⟨e, List.mem_cons_self, hl.symm, hT ▸ he⟩
      next => exact .inl h
    · exact .inr ⟨x, List.mem_cons_of_mem _ hx, h⟩

theorem servePass_waiting_member (h : Member (servePass (waitingEntries s) s).asm l T) : MemberOrQueued s l T :=
  (servePass_member _ h).imp_right fun ⟨e, he, h⟩ => ⟨e, (mem_waitingEntries.1 he).1, h⟩

theorem serveLoop_member (n : Nat) (h : Member (serveLoop n s).asm l T) : MemberOrQueued s l T := by
  induction n generalizing s with
  | zero => exact .inl h
  | succ n ih =>
    unfold serveLoop at h
    dsimp only at h
    split at h
    · rcases ih h with h | h
      · exact servePass_waiting_member h
      · rw [table_of_keepAsm (servePass_keep _ s)] at h
        exact .inr h
    · exact servePass_waiting_member h

theorem buildReady_member (h : Member (buildReady s).asm l T) : Member s.asm l T := by
  obtain ⟨r, v, he, hb⟩ := buildReady_built s
  rw [he] at h
  rcases h with h | ⟨x, hx, h⟩
  · exact .inl h
  · obtain ⟨g, hg, rfl | ⟨-, -, rfl⟩⟩ := exists_builtOf hb.groups hx
    · exact .inr ⟨_, hg, h⟩
    · exact .inr ⟨g, hg, h⟩

theorem tidyGroups_member (h : Member (tidyGroups s).asm l T) : MemberOrQueued s l T :=
  serveLoop_member _ (buildReady_member h)

end Sys2Proof.Machine
end


section
/-! SUPPORT. Target selection run for several entries, one after another (R93, R94, R98): what is chosen for one stays
chosen while the others run theirs. -/

namespace Sys2Proof.Machine

variable {s t u v : State} {x : TransferEntry} {back rem : List Nat}

/-! ## One entry -/

/-- No label stands twice in the Transfer Table (R97). -/
abbrev TableDistinct (s : State) : Prop := (s.table.map (·.label)).Nodup

theorem TableDistinct.eq {e : TransferEntry} (h : TableDistinct s) (hx : x ∈ s.table) (he : e ∈ s.table)
    (hl : x.label = e.label) : x = e := List.inj_on_of_nodup_map h hx he hl

theorem entryOf_distinct (h : TableDistinct s) (hx : x ∈ s.table) : entryOf s x.label = some x := by
  cases hf : entryOf s x.label with
  | none => exact absurd (beq_self_eq_true x.label) (List.find?_eq_none.1 hf x hx)
  | some e =>
    have hl : e.label = x.label := by simpa using List.find?_some hf
    rw [h.eq hx (List.mem_of_find?_eq_some hf) hl.symm]

/-- The table about one of its entries. -/
structure Around (x : TransferEntry) (before after : List TransferEntry) (s : State) : Prop where
  table : s.table = before ++ x :: after
  before : ∀ e ∈ before, e.label ≠ x.label
  after : ∀ e ∈ after, e.label ≠ x.label

theorem TableDistinct.around (h : TableDistinct s) (hx : x ∈ s.table) : ∃ before after, Around x before after s := by
  obtain ⟨l1, l2, he⟩ := List.mem_iff_append.1 hx
  rw [TableDistinct, he, List.map_append, List.map_cons, List.nodup_middle, List.nodup_cons, List.mem_append] at h
  have hno := not_or.1 h.1
  refine ⟨l1, l2, he, fun e hm hl => hno.1 ?_, fun e hm hl => hno.2 ?_⟩
  · exact hl ▸ List.mem_map_of_mem hm
  · exact hl ▸ List.mem_map_of_mem hm

theorem setTransferState_around {l1 l2 : List TransferEntry} (h : Around x l1 l2 s) (st : TransferState) :
    setTransferState x.label st s = setTable (l1 ++ { x with state := st } :: l2) s := by
  have hother (l : List TransferEntry) (hl : ∀ e ∈ l, e.label ≠ x.label) :
      l.map (fun e => if e.label = x.label then { e with state := st } else e) = l :=
    (List.map_congr_left fun e he => if_neg (hl e he)).trans (List.map_id _)
  rw [setTransferState, h.table, List.map_append, List.map_cons, hother l1 h.before, hother l2 h.after, if_pos rfl]

/-- What one selection does: the entry PARKED with its notice, where there is no candidate, or QUEUED toward the
candidate that none surpasses, and handed to the Offer Assembler (R94, R98). -/
inductive Picked (x : TransferEntry) (u : State) : State → Prop where
  | parked (hno : ∀ c ∈ u.dir.entries, candidate u x c = false) : Picked x u (raise .parked x.label x.depot u)
  | queued {d : DirEntry} {l1 l2 : List TransferEntry} {v : State} (hd : d ∈ u.dir.entries) (hc : candidate u x d = true)
      (hleast : ∀ c ∈ u.dir.entries, candidate u x c = true → NoLater d c) (hu : u.table = l1 ++ x :: l2)
      (hv : v.table = l1 ++ { x with state := .queued d.bay } :: l2) (hkeep : keepTable v = keepTable u)
      (hnotes : v.notes = u.notes)
      (hmember : ∀ l T, Member v.asm l T → Member u.asm l T ∨ (l = x.label ∧ T = d.bay)
        ∨ ∃ e ∈ v.table, e.label = l ∧ e.state = .queued T) : Picked x u v

theorem selectTarget_picked (h : TableDistinct u) (hx : x ∈ u.table) (hp : x.state = .parked) :
    Picked x u (selectTarget true x.label u) := by
  obtain ⟨l1, l2, ha⟩ := h.around hx
  have hentry := entryOf_distinct h hx
  have hkeep := selectTarget_keep true x.label u
  cases hd : chooseBay (u.dir.entries.filter (candidate u x)) with
  | none =>
    have hidle : setTransferState x.label .parked u = u := by
      rw [setTransferState_around ha, ← hp, ← ha.table]
      rfl
    have he : selectTarget true x.label u = raise .parked x.label x.depot u := by
      simp [selectTarget, hentry, hd, hidle]
    rw [he]
    refine .parked fun c hc => ?_
    rw [chooseBay_eq_none, List.filter_eq_nil_iff] at hd
    simpa using hd c hc
  | some d =>
    obtain ⟨hmem, hleast⟩ := chooseBay_some hd
    obtain ⟨hdir, hcand⟩ := List.mem_filter.1 hmem
    have he : selectTarget true x.label u = tidyGroups (joinGroup x.label d.bay
        (setTable (l1 ++ { x with state := .queued d.bay } :: l2) u)) := by
      rw [← setTransferState_around ha]
      simp [selectTarget, hentry, hd]
    rw [he] at hkeep ⊢
    have htable : (joinGroup x.label d.bay (setTable (l1 ++ { x with state := .queued d.bay } :: l2) u)).table =
        l1 ++ { x with state := .queued d.bay } :: l2 := table_of_keepAsm (joinGroup_keep _ _ _)
    refine .queued hdir hcand (fun c hc hcc => hleast c (List.mem_filter.2 ⟨hc, hcc⟩)) ha.table ?_ hkeep ?_
      fun l T hm => ?_
    · rw [tidyGroups_table, htable]
    · rw [tidyGroups_notes, joinGroup_notes]
      rfl
    · rw [tidyGroups_table]
      rcases tidyGroups_member hm with hm | hm
      · exact (joinGroup_member hm).imp_right .inl
      · exact .inr (.inr hm)

/-! ## The pledges -/

/-- An entry takes a place at its target, whether QUEUED or OFFERED (R93). -/
theorem pledged_split {l1 l2 : List TransferEntry} (h : s.table = l1 ++ x :: l2) (bay : Nat) : pledged s bay =
    ((l1 ++ l2).filter (fun e => queuedTo bay e || offeredTo bay e)).length
      + if (queuedTo bay x || offeredTo bay x) = true then 1 else 0 := by
  unfold pledged
  rw [h, List.filter_append, List.filter_cons, List.filter_append]
  split <;> simp [Nat.add_assoc]

/-- A PARKED entry that comes to be QUEUED takes one place at its target alone (R93). -/
theorem pledged_queued {l1 l2 : List TransferEntry} {b : Nat} (hp : x.state = .parked) (hu : u.table = l1 ++ x :: l2)
    (hv : v.table = l1 ++ { x with state := .queued b } :: l2) (bay : Nat) :
    pledged v bay = pledged u bay + if bay = b then 1 else 0 := by
  rw [pledged_split hu, pledged_split hv]
  have hbefore : (queuedTo bay x || offeredTo bay x) = false := by simp [queuedTo, offeredTo, hp]
  have hafter : (queuedTo bay { x with state := .queued b } || offeredTo bay { x with state := .queued b }) = true ↔
      bay = b := by
    simpa [queuedTo, offeredTo] using eq_comm
  rw [hbefore, if_neg Bool.false_ne_true, Nat.add_zero]
  exact congrArg _ (if_congr hafter rfl rfl)

theorem candidate_iff (e : TransferEntry) (d : DirEntry) : candidate s e d = true ↔
    d.bayState = .docked ∧ d.departure = some .openBay ∧ d.unreachable = none ∧ d.bay ≠ s.straps.bay ∧ e.depot ∈ d.drops
      ∧ pledged s d.bay < d.free ∧ ∀ r ∈ e.declined, r.bay = d.bay → r.stamp ≠ some d.stamp := by
  simp [candidate, and_assoc]

/-- With more places taken there are no more candidates (R93). -/
theorem candidate_mono {e y : TransferEntry} {c : DirEntry} (hs : v.straps = u.straps)
    (hp : pledged u c.bay ≤ pledged v c.bay) (hdepot : y.depot = e.depot) (hdecl : y.declined = e.declined)
    (h : candidate v y c = true) : candidate u e c = true := by
  obtain ⟨h1, h2, h3, h4, h5, h6, h7⟩ := (candidate_iff y c).1 h
  exact (candidate_iff e c).2 ⟨h1, h2, h3, hs ▸ h4, hdepot ▸ h5, hp.trans_lt h6, hdecl ▸ h7⟩

/-- What selection leaves of an entry stays while more places are taken elsewhere, and none too many (R93, R94). -/
theorem Selected.stays (h : Selected x u) (hy : ∀ y ∈ u.table, y.label = x.label → y ∈ v.table) (hdir : v.dir = u.dir)
    (hs : v.straps = u.straps) (hp : ∀ bay, pledged u bay ≤ pledged v bay)
    (hfree : ∀ d ∈ u.dir.entries, pledged u d.bay ≤ d.free → pledged v d.bay ≤ d.free) : Selected x v := by
  obtain ⟨y, hm, h1, h2, h3, h4, h5, hcase⟩ := h
  refine ⟨y, hy y hm h1, h1, h2, h3, h4, h5, ?_⟩
  rw [hdir, hs]
  rcases hcase with ⟨hpark, hno⟩ | ⟨d, hd, k1, k2, k3, k4, k5, k6, k7, k8, k9⟩
  · refine .inl ⟨hpark, fun c hc => Bool.eq_false_iff.2 fun hcc => ?_⟩
    exact Bool.eq_false_iff.1 (hno c hc) (candidate_mono hs (hp _) rfl rfl hcc)
  · exact .inr ⟨d, hd, k1, k2, k3, k4, k5, k6, hfree d hd k7, k8,
      fun c hc hcc => k9 c hc (candidate_mono hs (hp _) rfl rfl hcc)⟩

end Sys2Proof.Machine
end


section
/-! SUPPORT. Entries sent back to selection together (R98): all leave their groups first, and then each runs its
selection, in table order. -/

namespace Sys2Proof.Machine

variable {s t u v : State} {x : TransferEntry} {back rem : List Nat}

/-! ## The picks, one after another -/

/-- Selection in progress for the entries of `back`, those of `rem` still to come. -/
structure Selecting (s : State) (back rem : List Nat) (u : State) : Prop where
  distinct : TableDistinct u
  dir : u.dir = s.dir
  straps : u.straps = s.straps
  others : ∀ x ∈ s.table, x.label ∉ back → x ∈ u.table
  waiting : ∀ x ∈ s.table, x.label ∈ rem → { x with state := .parked } ∈ u.table
  chosen : ∀ x ∈ s.table, x.label ∈ back → x.label ∉ rem → Selected x u
  told : ∀ y ∈ u.table, y.label ∈ back → y.label ∉ rem → y.state = .parked → hasFlag u.notes.summary .parked = true
  placed : ∀ y ∈ u.table, y.label ∈ back → ∀ T, Member u.asm y.label T → y.state = .queued T

/-- An element replaced in a list leaves the others in it. -/
theorem mem_of_replaced {α : Type} {l l' l1 l2 : List α} {a a' y : α} (hl : l = l1 ++ a :: l2) (hl' : l' = l1 ++ a' :: l2)
    (hy : y ∈ l) (hne : y ≠ a) : y ∈ l' := by
  rw [hl] at hy
  rw [hl']
  simp only [List.mem_append, List.mem_cons] at hy ⊢
  exact hy.imp_right (Or.imp_left fun h => absurd h hne)

/-- The label just handled is none of those to come. -/
theorem ne_of_notin_cons {l : Nat} {y : TransferEntry} (h : y.label ∉ rem) (hl : y.label ≠ l) : y.label ∉ l :: rem :=
  fun hm => (List.mem_cons.1 hm).elim hl h

theorem Selecting.parked (h : Selecting s back (x.label :: rem) u) (hs : TableDistinct s) (hx : x ∈ s.table)
    (hno : ∀ c ∈ u.dir.entries, candidate u { x with state := .parked } c = false) :
    Selecting s back rem (raise .parked x.label x.depot u) where
  distinct := h.distinct
  dir := h.dir
  straps := h.straps
  others := h.others
  waiting z hz hl := h.waiting z hz (List.mem_cons_of_mem _ hl)
  chosen z hz hb hl := by
    by_cases hzx : z.label = x.label
    · obtain rfl := hs.eq hz hx hzx
      exact ⟨{ z with state := .parked }, h.waiting z hz List.mem_cons_self, rfl, rfl, rfl, rfl, rfl,
        .inl ⟨rfl, fun c hc => hno c hc⟩⟩
    · exact (h.chosen z hz hb (ne_of_notin_cons hl hzx)).stays (fun _ hy _ => hy) rfl rfl (fun _ => le_rfl) fun _ _ hf => hf
  told _ _ _ _ _ := hasFlag_raise _ _ _ _
  placed := h.placed

theorem Selecting.queued {d : DirEntry} {l1 l2 : List TransferEntry} (h : Selecting s back (x.label :: rem) u)
    (hs : TableDistinct s) (hx : x ∈ s.table) (hsorted : s.dir.entries.Pairwise (fun x y => x.bay < y.bay)) (hback : x.label ∈ back)
    (hrem : x.label ∉ rem) (hd : d ∈ u.dir.entries) (hc : candidate u { x with state := .parked } d = true)
    (hleast : ∀ c ∈ u.dir.entries, candidate u { x with state := .parked } c = true → NoLater d c)
    (hu : u.table = l1 ++ { x with state := .parked } :: l2)
    (hv : v.table = l1 ++ { x with state := .queued d.bay } :: l2) (hkeep : keepTable v = keepTable u)
    (hnotes : v.notes = u.notes)
    (hmember : ∀ l T, Member v.asm l T → Member u.asm l T ∨ (l = x.label ∧ T = d.bay)
      ∨ ∃ e ∈ v.table, e.label = l ∧ e.state = .queued T) : Selecting s back rem v := by
  have hdir : v.dir = u.dir := dir_of_keepTable hkeep
  have hstraps : v.straps = u.straps := straps_of_keepTable hkeep
  have hpledged := pledged_queued (x := { x with state := .parked }) rfl hu hv
  have hdistinct : TableDistinct v := by
    have hsame : v.table.map (·.label) = u.table.map (·.label) := by simp [hu, hv]
    rw [TableDistinct, hsame]
    exact h.distinct
  have hkept (y : TransferEntry) (hy : y ∈ u.table) (hne : y.label ≠ x.label) : y ∈ v.table :=
    mem_of_replaced hu hv hy fun he => hne (he ▸ rfl)
  have hstood (y : TransferEntry) (hy : y ∈ v.table) (hne : y.label ≠ x.label) : y ∈ u.table :=
    mem_of_replaced hv hu hy fun he => hne (he ▸ rfl)
  have hself : { x with state := .queued d.bay } ∈ v.table := by simp [hv]
  have hmore : ∀ bay, pledged u bay ≤ pledged v bay := fun bay => by rw [hpledged]; exact Nat.le_add_right _ _
  obtain ⟨c1, c2, c3, c4, c5, c6, c7⟩ := (candidate_iff _ d).1 hc
  have hfree : ∀ c ∈ u.dir.entries, pledged u c.bay ≤ c.free → pledged v c.bay ≤ c.free := by
    intro c hcm hle
    rw [hpledged]
    split
    next heq =>
      have hcd : c = d := List.inj_on_of_nodup_map (f := (·.bay))
        (List.pairwise_map.2 (h.dir ▸ hsorted |>.imp Nat.ne_of_lt)) hcm hd heq
      rw [hcd]
      exact c6
    next => exact hle
  refine ⟨hdistinct, hdir.trans h.dir, hstraps.trans h.straps, fun z hz hb => ?_, fun z hz hl => ?_, fun z hz hb hl => ?_,
    fun y hy hb hl hp => ?_, fun y hy hb T hm => ?_⟩
  · exact hkept z (h.others z hz hb) fun he => hb (he ▸ hback)
  · exact hkept _ (h.waiting z hz (List.mem_cons_of_mem _ hl)) fun (he : z.label = x.label) => hrem (he ▸ hl)
  · by_cases hzx : z.label = x.label
    · obtain rfl := hs.eq hz hx hzx
      refine ⟨_, hself, rfl, rfl, rfl, rfl, rfl, .inr ⟨d, hdir ▸ hd, rfl, c1, c2, c3, hstraps ▸ c4, c5, ?_, c7,
        fun c hcm hcc => hleast c (hdir ▸ hcm) (candidate_mono hstraps (hmore _) rfl rfl hcc)⟩⟩
      rw [hpledged, if_pos rfl]
      exact c6
    · exact (h.chosen z hz hb (ne_of_notin_cons hl hzx)).stays (fun y hy hl => hkept y hy (hl ▸ hzx)) hdir hstraps hmore hfree
  · by_cases hyx : y.label = x.label
    · rw [hdistinct.eq hy hself hyx] at hp
      cases hp
    · rw [hnotes]
      exact h.told y (hstood y hy hyx) hb (ne_of_notin_cons hl hyx) hp
  · by_cases hyx : y.label = x.label
    · obtain rfl := hdistinct.eq hy hself hyx
      rcases hmember _ T hm with hm | ⟨-, rfl⟩ | ⟨e, he, hl, hs⟩
      · have := h.placed _ (h.waiting x hx List.mem_cons_self) hback T hm
        cases this
      · rfl
      · rw [← hdistinct.eq he hself hl]
        exact hs
    · rcases hmember _ T hm with hm | ⟨he, -⟩ | ⟨e, he, hl, hs⟩
      · exact h.placed y (hstood y hy hyx) hb T hm
      · exact absurd he hyx
      · rw [hdistinct.eq hy he hl.symm]
        exact hs

theorem Selecting.next (h : Selecting s back (x.label :: rem) u) (hs : TableDistinct s) (hx : x ∈ s.table)
    (hsorted : s.dir.entries.Pairwise (fun x y => x.bay < y.bay)) (hback : x.label ∈ back) (hrem : x.label ∉ rem) :
    Selecting s back rem (selectTarget true x.label u) := by
  have hpick : Picked { x with state := .parked } u (selectTarget true x.label u) :=
    selectTarget_picked h.distinct (h.waiting x hx List.mem_cons_self) rfl
  generalize selectTarget true x.label u = v at hpick ⊢
  cases hpick with
  | parked hno => exact h.parked hs hx hno
  | queued hd hc hleast hu hv hkeep hnotes hmember =>
    exact h.queued hs hx hsorted hback hrem hd hc hleast hu hv hkeep hnotes hmember

theorem Selecting.all (h : Selecting s back rem u) (hs : TableDistinct s)
    (hsorted : s.dir.entries.Pairwise (fun x y => x.bay < y.bay)) (hrem : rem.Nodup)
    (hmem : ∀ l ∈ rem, l ∈ back ∧ ∃ x ∈ s.table, x.label = l) :
    Selecting s back [] (rem.foldl (fun u l => selectTarget (back.contains l) l u) u) := by
  induction rem generalizing u with
  | nil => exact h
  | cons l rem ih =>
    obtain ⟨⟨hl, x, hx, rfl⟩, hrest⟩ := List.forall_mem_cons.1 hmem
    obtain ⟨hno, hrem⟩ := List.nodup_cons.1 hrem
    rw [List.foldl_cons, List.contains_iff_mem.2 hl]
    exact ih (h.next hs hx hsorted hl hno) hrem hrest

/-! ## All leave their groups first -/

/-- The table once entries have left for selection (R98). -/
def sentBack (back : List Nat) (e : TransferEntry) : TransferEntry :=
  if e.label ∈ back then { e with state := .parked } else e

theorem goBacks_table (back : List Nat) (s : State) :
    (back.foldl (fun u l => goBack l u) s).table = s.table.map (sentBack back) := by
  induction back generalizing s with
  | nil => exact (List.map_id'' (fun e => if_neg (List.not_mem_nil)) s.table).symm
  | cons l back ih =>
    rw [List.foldl_cons, ih]
    change (s.table.map (fun e => if e.label = l then { e with state := .parked } else e)).map (sentBack back) = _
    rw [List.map_map]
    refine List.map_congr_left fun e _ => ?_
    simp only [sentBack, Function.comp, List.mem_cons]
    by_cases hl : e.label = l <;> simp [hl]

theorem goBacks_member {l T : Nat} (back : List Nat) (s : State)
    (h : Member (back.foldl (fun u l => goBack l u) s).asm l T) : Member s.asm l T ∧ l ∉ back := by
  induction back generalizing s with
  | nil => exact ⟨h, by simp⟩
  | cons x back ih =>
    obtain ⟨hm, hno⟩ := ih (goBack x s) h
    obtain ⟨hm, hne⟩ := leaveGroups_member (s := setTransferState x .parked s) hm
    exact ⟨hm, fun hmem => (List.mem_cons.1 hmem).elim hne hno⟩

theorem sentBack_label (back : List Nat) (e : TransferEntry) : (sentBack back e).label = e.label := by
  unfold sentBack
  split <;> rfl

/-- Entries that have left their groups wait for their selection (R98). -/
theorem selecting_start (back : List Nat) (hs : TableDistinct s) : Selecting s back
    (labelsWhere (fun e => back.contains e.label || [].contains e.label) (tidyGroups (back.foldl (fun u l => goBack l u) s)))
    (tidyGroups (back.foldl (fun u l => goBack l u) s)) := by
  have htable : (tidyGroups (back.foldl (fun u l => goBack l u) s)).table = s.table.map (sentBack back) := by
    rw [tidyGroups_table, goBacks_table]
  have hkeep : keepTable (tidyGroups (back.foldl (fun u l => goBack l u) s)) = keepTable s := by
    rw [keepTable_of_groups (tidyGroups_keep _), foldl_keep keepTable _ (fun t l => goBack_keep l t)]
  have hmember {l T : Nat} (h : Member (tidyGroups (back.foldl (fun u l => goBack l u) s)).asm l T) :
      l ∉ back ∨ ∃ e ∈ s.table.map (sentBack back), e.label = l ∧ e.state = .queued T := by
    rcases tidyGroups_member h with h | h
    · exact .inl (goBacks_member back s h).2
    · exact .inr (goBacks_table back s ▸ h)
  generalize tidyGroups (back.foldl (fun u l => goBack l u) s) = u at htable hkeep hmember ⊢
  have hto : ∀ y ∈ u.table, y.label ∈ back → y.label ∈
      labelsWhere (fun e => back.contains e.label || [].contains e.label) u := fun y hy hb =>
    List.mem_map.2 ⟨y, List.mem_filter.2 ⟨hy, by simp [hb]⟩, rfl⟩
  have hfrom : ∀ l ∈ labelsWhere (fun e => back.contains e.label || [].contains e.label) u, l ∈ back := by
    intro l hl
    obtain ⟨y, hy, rfl⟩ := List.mem_map.1 hl
    simpa using (List.mem_filter.1 hy).2
  have hmem : ∀ x ∈ s.table, sentBack back x ∈ u.table := fun x hx => htable ▸ List.mem_map_of_mem hx
  refine ⟨?_, dir_of_keepTable hkeep, straps_of_keepTable hkeep, fun x hx hb => ?_, fun x hx hl => ?_,
    fun x hx hb hl => ?_, fun y hy hb hl => absurd (hto y hy hb) hl, fun y hy hb T hm => ?_⟩
  · have hsame : u.table.map (·.label) = s.table.map (·.label) := by
      rw [htable, List.map_map]
      exact List.map_congr_left fun e _ => sentBack_label back e
    rw [TableDistinct, hsame]
    exact hs
  · have := hmem x hx
    rwa [sentBack, if_neg hb] at this
  · have := hmem x hx
    rwa [sentBack, if_pos (hfrom _ hl)] at this
  · have := hto _ (hmem x hx) ((sentBack_label back x).symm ▸ hb)
    exact absurd (sentBack_label back x ▸ this) hl
  · rcases hmember hm with hno | ⟨e, he, hl, hq⟩
    · exact absurd hb hno
    · obtain ⟨z, -, rfl⟩ := List.mem_map.1 he
      rw [sentBack_label] at hl
      rw [sentBack, if_pos (hl ▸ hb)] at hq
      cases hq

/-- Entries sent back together: each stands selected, PARKED with its notice or QUEUED in no group but its target's, and
the rest of the table stays (R93, R94, R98). -/
theorem reselect_selecting (hs : TableDistinct s) (hsorted : s.dir.entries.Pairwise (fun x y => x.bay < y.bay)) :
    Selecting s back [] (reselect back [] s) := by
  have hstart := selecting_start back hs
  refine hstart.all hs hsorted (hstart.distinct.sublist (List.filter_sublist.map _)) fun l hl => ?_
  obtain ⟨y, hy, rfl⟩ := List.mem_map.1 hl
  obtain ⟨hy, hb⟩ := List.mem_filter.1 hy
  rw [tidyGroups_table, goBacks_table] at hy
  obtain ⟨x, hx, rfl⟩ := List.mem_map.1 hy
  exact ⟨by simpa using hb, x, hx, (sentBack_label back x).symm⟩

end Sys2Proof.Machine
end


section
/-! PROOF. A CALL taken, and the statement about CALL and HOLD (O49). -/

namespace Sys2Proof.Machine

variable {s t : State} {key : Nat}

theorem exec_call {m : CallMsg} (h : Hears key (.call m) s) : exec (.call key m) s = .next (takeCall m (heardIn s)) :=
  exec_heard h

theorem handHolds_full (m : CallMsg) (cs : List (List Nat)) (h : 16 ≤ s.link.queue.length) : cs.foldl (handHold m) s = s :=
  foldl_fixed cs fun _ => by rw [handHold, handOrDrop, handFrame_full _ h, Option.getD_none]

theorem mem_labelsWhere {p : TransferEntry → Bool} {x : TransferEntry} (h : TableDistinct s) (hx : x ∈ s.table) :
    x.label ∈ labelsWhere p s ↔ p x = true := by
  constructor
  · intro hl
    obtain ⟨e, he, heq⟩ := List.mem_map.1 hl
    obtain ⟨he, hp⟩ := List.mem_filter.1 he
    rwa [h.eq hx he heq.symm]
  · exact fun hp => List.mem_map_of_mem (List.mem_filter.2 ⟨hx, hp⟩)

/-- The HOLDs of a CALL as the queue takes them (R79, R143). -/
theorem nameAccepted_queue (m : CallMsg) (s : State) : ∃ q, nameAccepted m s = setQueue q s
    ∧ (∀ j < (labelsWhere (acceptedTo m.bay) s).length, s.link.queue.length + j / 8 < 16 →
        framed (.hold ⟨s.straps.bay, m.bay, m.number, ((labelsWhere (acceptedTo m.bay) s).drop (8 * (j / 8))).take 8⟩) s ∈ q)
    ∧ (16 ≤ s.link.queue.length ∨ labelsWhere (acceptedTo m.bay) s = [] → q = s.link.queue) := by
  rw [nameAccepted_eq]
  obtain ⟨q, hq, -⟩ := handHolds_queue m
    (chunksOf 8 (labelsWhere (acceptedTo m.bay) s).length (labelsWhere (acceptedTo m.bay) s)) s
  refine ⟨q, hq, fun j hj hroom => ?_, fun h => ?_⟩
  · have hchunk := chunksOf_getElem? (n := 8) (by decide) _ (labelsWhere (acceptedTo m.bay) s) le_rfl (j / 8)
    rw [if_pos (by omega)] at hchunk
    have hmem := handHolds_mem m _ s hchunk hroom
    rwa [hq] at hmem
  · refine (congrArg (fun x : State => x.link.queue) hq.symm).trans (congrArg (fun x : State => x.link.queue) ?_)
    rcases h with h | h
    · exact handHolds_full m _ h
    · rw [h]
      rfl

/-- What a CALL leaves of the entries QUEUED toward the caller (R98, R143). -/
theorem Selecting.queuedAway {back : List Nat} (h : Selecting s back [] t) {x y : TransferEntry} (hx : x.label ∈ back)
    (hy : y ∈ t.table) (hl : y.label = x.label) :
    (y.state = .parked → grouped t.asm x.label = false ∧ hasFlag t.notes.summary .parked = true)
      ∧ (∀ g ∈ t.asm.openGroups, x.label ∈ g.members → y.state = .queued g.target)
      ∧ (∀ g ∈ t.asm.sendList, x.label ∈ g.members → y.state = .queued g.target) := by
  rw [← hl] at hx ⊢
  refine ⟨fun hp => ⟨Bool.eq_false_iff.2 fun hg => ?_, h.told y hy hx (List.not_mem_nil) hp⟩, fun g hg hm => ?_, fun g hg hm => ?_⟩
  · obtain ⟨T, hT⟩ := grouped_iff.1 hg
    cases hp.symm.trans (h.placed y hy hx T hT)
  · exact h.placed y hy hx _ (.inl ⟨g, hg, rfl, hm⟩)
  · exact h.placed y hy hx _ (.inr ⟨g, hg, rfl, hm⟩)

theorem callNamesAndTakesBack (key : Nat) (m : CallMsg) (s : State) (ls : List Nat) (h : Hears key (.call m) s)
    (hs : (s.table.map (·.label)).Nodup) (hsorted : s.dir.entries.Pairwise (fun x y => x.bay < y.bay))
    (hls : ls = labelsWhere (acceptedTo m.bay) s) :
    ∃ t, exec (.call key m) s = .next t
      ∧ (∀ j < ls.length, s.link.queue.length + j / 8 < 16 →
          framed (.hold ⟨s.straps.bay, m.bay, m.number, (ls.drop (8 * (j / 8))).take 8⟩) s ∈ t.link.queue)
      ∧ (16 ≤ s.link.queue.length → t.link.queue = s.link.queue)
      ∧ (ls = [] → ∀ f ∈ t.link.queue, f ∈ s.link.queue ∨ f.body.kind = .offer)
      ∧ (∀ x ∈ s.table, if queuedTo m.bay x = true then Selected x t else x ∈ t.table)
      ∧ (∀ x ∈ s.table, queuedTo m.bay x = true → ∀ y ∈ t.table, y.label = x.label →
          (y.state = .parked → grouped t.asm x.label = false ∧ hasFlag t.notes.summary .parked = true)
          ∧ (∀ g ∈ t.asm.openGroups, x.label ∈ g.members → y.state = .queued g.target)
          ∧ (∀ g ∈ t.asm.sendList, x.label ∈ g.members → y.state = .queued g.target))
      ∧ t = { s with
          table := t.table, asm := t.asm, notes := t.notes, link := { (heardLink s) with queue := t.link.queue } } := by
  subst hls
  obtain ⟨q, hq, hheld, hsame⟩ := nameAccepted_queue m (heardIn s)
  have he : exec (.call key m) s = .next (reselect (labelsWhere (queuedTo m.bay) s) [] (setQueue q (heardIn s))) := by
    rw [exec_call h, takeCall, hq]
    rfl
  have hoffer := reselect_offering (labelsWhere (queuedTo m.bay) s) [] (setQueue q (heardIn s))
  have hsel := reselect_selecting (s := setQueue q (heardIn s)) (back := labelsWhere (queuedTo m.bay) s) hs hsorted
  have hkeep : keepTable _ = keepTable (heardIn s) := reselect_keep (labelsWhere (queuedTo m.bay) s) [] (setQueue q (heardIn s))
  generalize reselect (labelsWhere (queuedTo m.bay) s) [] (setQueue q (heardIn s)) = t at he hoffer hsel hkeep
  refine ⟨t, he, fun j hj hroom => hoffer.stays.subset (hheld j hj hroom), fun hfull => ?_, fun hnone f hf => ?_,
    fun x hx => ?_, fun x hx hb y hy hl => hsel.queuedAway ((mem_labelsWhere hs hx).2 hb) hy hl, eq_of_keepTable hkeep⟩
  · have hq' := hsame (.inl hfull)
    exact (hoffer.full (hq' ▸ hfull)).trans hq'
  · exact (hoffer.only f hf).imp_left fun hm => hsame (.inr hnone) ▸ hm
  · split
    next hb => exact hsel.chosen x hx ((mem_labelsWhere hs hx).2 hb) List.not_mem_nil
    next hb => exact hsel.others x hx fun hm => hb ((mem_labelsWhere hs hx).1 hm)

/-- Settles O49: the HOLDs go out piece by piece, what was QUEUED toward the caller runs its selection entry by entry,
and a HOLD is named, ignored or reconciled by the departure state. -/
theorem callAndHoldNameThePallets : Obligations.CallAndHoldNameThePallets :=
  ⟨callNamesAndTakesBack, holdNamesInCalling,
    fun _ m s h hno => (exec_hold h).trans (congrArg Host.Outcome.next (takeHold_ignored (s := heardIn s) (m := m) hno)),
    holdReconciledInWaiting, holdOfKnownLabel, holdOfArrivedLabel, holdOfLostLabel, holdAnsweredClosing⟩

end Sys2Proof.Machine
end


section
/-! PROOF. HALT INTAKE and RESUME INTAKE (O36): the flag, and the beaconed change that follows it. -/

namespace Sys2Proof.Machine

variable {s t u : State} {h : ReqHead}

/-- A beaconed change touches the link and the directory alone (R85). -/
theorem beaconedChange_blocks (u : State) : beaconedChange u =
    { u with link := (beaconedChange u).link, dir := (beaconedChange u).dir } := by
  refine state_eq ?_ ?_ ?_ ?_ ?_ ?_ ?_ ?_ ?_ ?_ rfl rfl ?_ ?_ ?_ ?_ ?_ <;> simp

theorem beaconedChange_sent (u : State) : BeaconSent u (beaconedChange u) :=
  beaconSent_of rfl rfl rfl rfl (beaconAlike_of_eq (beaconedChange_blocks u))

/-- The state with the intake halt flag at a value (R127, R128). -/
def halting (b : Bool) (s : State) : State := setDep { s.dep with halt := b } s

theorem halting_same {b : Bool} (hb : s.dep.halt = b) : halting b s = s := by subst hb; rfl

/-- What HALT INTAKE and RESUME INTAKE leave (R127, R128). -/
structure Halted (b test : Bool) (s t : State) : Prop where
  state : t = { halting b s with link := t.link, dir := t.dir }
  beacon : BeaconIf test s t

theorem Halted.unsent {b : Bool} (s : State) : Halted b false s (halting b s) := ⟨rfl, rfl, rfl⟩

theorem Halted.sent {b : Bool} (s : State) : Halted b true s (beaconedChange (halting b s)) :=
  ⟨beaconedChange_blocks _, (beaconedChange_sent (halting b s)).seenFrom rfl rfl⟩

theorem contentNow_halted (hh : s.dep.halt = true) : (contentNow s).free = 0 := by
  unfold contentNow beaconedFree
  split <;> simp [hh]

/-- HALT INTAKE beacons the beaconed free spaces, which become 0, where others were beaconed last (R127). -/
theorem takeHalt_halted (s : State) : Halted true (!s.dep.halt && s.dir.last.free != 0) s (takeHalt s) := by
  cases hh : s.dep.halt with
  | true =>
    have hu := Halted.unsent (b := true) s
    rw [halting_same hh] at hu
    rwa [takeHalt_set hh]
  | false =>
    have hfree : (contentNow (halting true s)).free = 0 := contentNow_halted rfl
    rw [takeHalt_clear hh, handFree]
    change Halted _ _ s (if (contentNow (halting true s)).free = s.dir.last.free then halting true s
      else beaconedChange (halting true s))
    rw [hfree]
    by_cases hl : s.dir.last.free = 0
    · rw [if_pos hl.symm, hl]
      exact .unsent s
    · rw [if_neg (Ne.symm hl), bne_iff_ne.2 hl]
      exact .sent s

/-- RESUME INTAKE beacons the true free spaces where there are any (R128). -/
theorem takeResume_halted (s : State) : Halted false (s.dep.halt && decide (0 < freeSpaces s)) s (takeResume s) := by
  cases hh : s.dep.halt with
  | false =>
    have hu := Halted.unsent (b := false) s
    rw [halting_same hh] at hu
    rwa [takeResume_clear hh]
  | true =>
    rw [takeResume_set hh]
    by_cases hf : 0 < freeSpaces s
    · rw [if_pos hf, decide_eq_true hf]
      exact .sent s
    · rw [if_neg hf, decide_eq_false hf]
      exact .unsent s

/-- The reply carries the flag and the true free spaces, which the flag leaves as they are (R127, R128). -/
theorem intake_answered {b test : Bool} {r : Request} {take : State → State} (ht : Taken h s)
    (hd : s.docking.isSome = true) (hk : Halted b test s (take s)) :
    ∃ t, Host.Outcome.next (φ := Fault) (ρ := Refusal) (request h r (intakeBody take) s) = .next t
      ∧ t.dep = { s.dep with halt := b } ∧ BeaconIf test s t
      ∧ t.port = replyPort h (.ok r (.intake b (freeSpaces s))) s t
      ∧ t = { s with dep := t.dep, link := t.link, dir := t.dir, port := t.port } := by
  obtain ⟨hstate, hbeacon⟩ := hk
  have hbody : intakeBody take s = accept (.intake b (freeSpaces s)) (take s) := by
    have hsome : s.docking.isNone = false := by rw [← Option.not_isSome, hd]; rfl
    rw [intakeBody, if_neg (by simp [hsome]), hstate]
    rfl
  refine ⟨_, congrArg _ (request_accepted ht hbody (by rw [hstate]; rfl)), ?_⟩
  generalize take s = t at hstate hbeacon
  generalize t.link = l, t.dir = d at hstate
  subst hstate
  exact ⟨rfl, hbeacon, rfl, rfl⟩

/-- Settles O36: each of the two sets the flag, beacons by its own test, and answers alike. -/
theorem haltAndResumeSetTheFlag : Obligations.HaltAndResumeSetTheFlag :=
  ⟨fun _ s ht hd => intake_answered ht hd (takeHalt_halted s),
    fun _ s ht hd => intake_answered ht hd (takeResume_halted s)⟩

end Sys2Proof.Machine
end


section
/-! PROOF. ARRIVE of an unannounced pallet (O33): the lane entry, the beaconed free spaces, and the RECEIPT after them. -/

namespace Sys2Proof.Machine

variable {s : State} {h : ReqHead} {label depot mass rank : Nat} {origin : Option Nat} {d : Docking}

/-! ## The tests -/

/-- An ARRIVE of an unknown label, with values that hold, comes to the admission test (R130, R132). -/
structure Arriving (label depot mass rank : Nat) (origin : Option Nat) (d : Docking) (s : State) : Prop where
  docked : s.docking = some d
  labelled : label ≠ 0
  depotFits : depotOk depot = true
  massive : mass ≠ 0
  originFits : ∀ o ∈ origin, bayOk o = true ∧ o ≠ s.straps.bay
  opened : s.dep.state ≠ some .closed
  ranked : rankOf (dropList s) depot = some rank
  notOnDeck : onDeck s label = false
  notInLane : inLane s label = false
  notInTable : inTable s label = false
  notInHolds : inHolds s label = false

theorem arriveBody_unannounced (ha : Arriving label depot mass rank origin d s) :
    arriveBody label depot mass origin s = arriveUnannounced label depot rank (min mass 120) origin s := by
  have horigin : origin.any (fun o => !bayOk o || o == s.straps.bay) = false := by
    cases origin with
    | none => rfl
    | some o => simpa using ha.originFits o rfl
  have hnone : s.store.holds.find? (fun x => x.label == label) = none := by
    simpa [inHolds, List.find?_eq_none] using ha.notInHolds
  simp [arriveBody, ha.docked, ha.labelled, ha.depotFits, ha.massive, horigin, ha.opened, ha.ranked, ha.notOnDeck,
    ha.notInLane, ha.notInTable, hnone, clampMass, Config.greatestMass]

/-- The admission test that does not admit, by its reason (R120). -/
theorem arriveUnannounced_refused (hd : s.docking = some d)
    (hno : d.capacity ≤ usedSpaces s ∨ d.payload < usedMass s + mass) : arriveUnannounced label depot rank mass origin s =
      refuse (if d.capacity ≤ usedSpaces s then .noSpace else .tooHeavy) s := by
  unfold arriveUnannounced admission
  rw [hd]
  dsimp only
  by_cases hc : d.capacity ≤ usedSpaces s
  · rw [if_pos hc, if_pos hc]
  · rw [if_neg hc, if_neg hc, if_pos (hno.resolve_left hc)]

/-! ## The pallet taken in -/

/-- The state with an entry at the end of the lane. -/
def arrived (e : LaneEntry) (s : State) : State := { s with lane := s.lane ++ [e] }

theorem announce_arrived (e : LaneEntry) (s : State) : announce s (arrived e s) = { arrived e s with
    link := (announce s (arrived e s)).link, dir := (announce s (arrived e s)).dir } := by
  refine state_eq ?_ ?_ ?_ ?_ ?_ ?_ ?_ ?_ ?_ ?_ rfl rfl ?_ ?_ ?_ ?_ ?_ <;> simp

theorem setLaneOwed_append {l : List LaneEntry} {e : LaneEntry} (hno : l.any (fun x => x.label == e.label) = false) :
    setLaneOwed e.label true (l ++ [e]) = l ++ [{ e with owed := true }] := by
  have hl : l.map (fun x => if x.label = e.label then { x with owed := true } else x) = l := by
    refine (List.map_congr_left fun x hx => if_neg ?_).trans (List.map_id _)
    simpa using List.any_eq_false.1 hno x hx
  simp [setLaneOwed, hl]

theorem setDeckOwed_absent (hno : onDeck s label = false) : setDeckOwed label true s.deck = s.deck := by
  have hd : s.deck.entries.map (fun x => if x.label = label ∧ x.tag = .outbound then { x with owed := true } else x)
      = s.deck.entries := by
    refine (List.map_congr_left fun x hx => if_neg fun hx' => ?_).trans (List.map_id _)
    exact absurd hx'.1 (by simpa using List.any_eq_false.1 hno x hx)
  rw [setDeckOwed, hd]

theorem askReceipt_queued (label o : Nat) (s : State) : (askReceipt label o s).2 = hasRoom 0 s.link.queue := by
  unfold askReceipt
  rcases handFrame_cases (.receipt ⟨s.straps.bay, o, label⟩) s with ⟨hr, e⟩ | ⟨hr, e⟩ <;> rw [e] <;> exact hr.symm

/-- The state with a pallet in the lane and its RECEIPT queued in the link `l`, or owed (R132, R133). -/
def received (e : LaneEntry) (l : Link) (dir : Directory) (s : State) : State := { s with
  lane := s.lane ++ [{ e with owed := !hasRoom 0 l.queue }]
  dep := { s.dep with ready := false, autoWas := false }
  dir := dir
  link := if hasRoom 0 l.queue = true then
      { l with queue := insertQueued (framed (.receipt ⟨s.straps.bay, e.origin, e.label⟩) s) l.queue }
    else l }

/-- The RECEIPT of the pallet is queued or owed on its lane entry, and READY is false (R133, R139). -/
theorem settle_askReceipt_arrived {e : LaneEntry} (he : e.owed = false) (hdeck : onDeck s e.label = false)
    (hlane : inLane s e.label = false) : settle (askReceipt e.label e.origin (announce s (arrived e s))).1 =
      received e (announce s (arrived e s)).link (announce s (arrived e s)).dir s := by
  have hstate := announce_arrived e s
  generalize (announce s (arrived e s)).link = l, (announce s (arrived e s)).dir = dir at hstate
  have he' : { e with owed := false } = e := by rw [← he]
  rw [hstate, askReceipt_state]
  by_cases hr : hasRoom 0 l.queue = true
  · rw [if_pos hr, settle_not_ready (readyNow_of_lane (by simp [arrived]))]
    simp only [received, hr, Bool.not_true, he', if_true]
    rfl
  · have hlane' : setLaneOwed e.label true (arrived e s).lane = s.lane ++ [{ e with owed := true }] :=
      setLaneOwed_append hlane
    have hdeck' : setDeckOwed e.label true (arrived e s).deck = s.deck := setDeckOwed_absent hdeck
    rw [if_neg hr, hlane', hdeck', settle_not_ready (readyNow_of_lane (by simp)), received, if_neg hr]
    rw [Bool.not_eq_true] at hr
    rw [hr]
    rfl

/-- An unannounced pallet that the admission test admits (R120, R132). -/
theorem arriveUnannounced_admitted {e : LaneEntry} (he : e = unannouncedEntry label depot rank mass origin)
    (hadm : admission mass s = .admitted) (hdeck : onDeck s label = false) (hlane : inLane s label = false) :
    arriveUnannounced label depot rank mass origin s =
      accept (.arrive false (origin.getD 0) (s.lane.length + 1) (hasRoom 0 (announce s (arrived e s)).link.queue) false)
        (received e (announce s (arrived e s)).link (announce s (arrived e s)).dir s) := by
  have hafter : settle (askReceipt label (origin.getD 0) (announce s (arrived e s))).1 =
      received e (announce s (arrived e s)).link (announce s (arrived e s)).dir s := by
    subst he
    exact settle_askReceipt_arrived (e := unannouncedEntry label depot rank mass origin) rfl hdeck hlane
  have hlength : (settle (askReceipt label (origin.getD 0) (announce s (arrived e s))).1).lane.length = s.lane.length + 1 := by
    rw [hafter]
    exact List.length_append
  have hbody : arriveUnannounced label depot rank mass origin s = accept (.arrive false (origin.getD 0)
      (settle (askReceipt label (origin.getD 0) (announce s (arrived e s))).1).lane.length
      (askReceipt label (origin.getD 0) (announce s (arrived e s))).2 false)
      (settle (askReceipt label (origin.getD 0) (announce s (arrived e s))).1) := by
    rw [arriveUnannounced, hadm, he]
    rfl
  rw [hbody, hlength, askReceipt_queued, hafter]

/-- The state with a reply begun. -/
def replying (p : Port) (s : State) : State := { s with port := p }

/-- The beacon ahead of the RECEIPT, where the beaconed free spaces tell (R85, R121). -/
theorem announce_arrived_beacon (e : LaneEntry) (s : State) {t : State} {p : Port} (ht : t = replying p (received e
    (announce s (arrived e s)).link (announce s (arrived e s)).dir s)) :
    BeaconIf ((contentNow t).free != (contentNow s).free && (contentNow t).free != s.dir.last.free) s
      { t with link := (announce s (arrived e s)).link } := by
  have hcontent : contentNow t = contentNow (arrived e s) := by
    rw [ht]
    exact contentNow_congr rfl rfl rfl rfl (by simp [replying, received, arrived]) rfl rfl
  refine announce_beacon (t := { t with link := (announce s (arrived e s)).link }) (y := s) (x := arrived e s)
    rfl rfl rfl rfl rfl rfl ?_ ⟨?_, ?_, hcontent, ?_, ?_⟩ <;> rw [ht] <;> rfl

theorem BeaconIf.link_eq {test : Bool} {t : State} {l : Link} (hb : BeaconIf test s { t with link := l }) :
    l = if test = true then linkWithBeacon s t else s.link := by
  unfold BeaconIf at hb
  split at hb
  next htest => exact hb.1.trans (if_pos htest).symm
  next htest => exact hb.1.trans (if_neg htest).symm

/-! ## The statement -/

/-- Settles O33: the admission test decides, and the beacon that the free spaces bring goes ahead of the RECEIPT. -/
theorem arriveTakesAnUnannouncedPalletThatFits : Obligations.ArriveTakesAnUnannouncedPalletThatFits := by
  unfold Obligations.ArriveTakesAnUnannouncedPalletThatFits
  refine ⟨fun h label depot mass origin s rank d ht _ hl hdep hm ho hc hr hod hil hit hih hd hspace hmass => ?_,
    fun h label depot mass origin s rank d ht _ hl hdep hm ho hc hr hod hil hit hih hd hno => ?_⟩
  · have hadm : admission (min mass 120) s = .admitted := (admission_admit_iff _ s).2 ⟨d, hd, hspace, hmass⟩
    have hbody := (arriveBody_unannounced ⟨hd, hl, hdep, hm, ho, hc, hr, hod, hil, hit, hih⟩).trans
      (arriveUnannounced_admitted rfl hadm hod hil)
    have hbeacon {t : State} {p : Port} :=
      announce_arrived_beacon (unannouncedEntry label depot rank (min mass 120) origin) s (t := t) (p := p)
    generalize (announce s (arrived (unannouncedEntry label depot rank (min mass 120) origin) s)).link = l at hbody hbeacon
    generalize (announce s (arrived (unannouncedEntry label depot rank (min mass 120) origin) s)).dir = dir at hbody hbeacon
    obtain ⟨t, htaken, hstate⟩ : ∃ t, exec (.arrive h label depot mass origin) s = .next t ∧ t = replying _ _ :=
      ⟨_, congrArg Host.Outcome.next (request_accepted ht hbody rfl), rfl⟩
    have hb := hbeacon hstate
    refine ⟨t, htaken, ?_⟩
    dsimp only
    rw [← hb.link_eq]
    subst hstate
    exact ⟨⟨hb, rfl, rfl, rfl⟩, rfl, rfl⟩
  · refine congrArg Host.Outcome.next ?_
    rw [request_taken _ _ ht, arriveBody_unannounced ⟨hd, hl, hdep, hm, ho, hc, hr, hod, hil, hit, hih⟩,
      arriveUnannounced_refused hd hno]
    split <;> rfl

end Sys2Proof.Machine
end


section
/-! SUPPORT. The Transfer Table after entries have run their selection again (R92, R98): which entries it moves, and that
what is chosen hangs on the table, the directory's entries and the straps alone. -/

namespace Sys2Proof.Machine

variable {s t u v : State} {x y : TransferEntry} {back parked : List Nat}

/-! ## The entries moved -/

/-- A state that target selection gives: PARKED, or QUEUED toward a DOCKED bay of the directory (R93, R94). -/
def Choice (entries : List DirEntry) (st : TransferState) : Prop :=
  st = .parked ∨ ∃ d ∈ entries, d.bayState = .docked ∧ st = .queued d.bay

/-- The entries of some labels moved, each to the state found for its label. -/
def moved (ls : List Nat) (f : Nat → TransferState) (e : TransferEntry) : TransferEntry :=
  if e.label ∈ ls then { e with state := f e.label } else e

theorem moved_label (ls : List Nat) (f : Nat → TransferState) (e : TransferEntry) : (moved ls f e).label = e.label := by
  unfold moved
  split <;> rfl

theorem selectTarget_table (notify : Bool) (label : Nat) (s : State) : ∃ st, Choice s.dir.entries st
    ∧ (selectTarget notify label s).table = (setTransferState label st s).table := by
  unfold selectTarget
  split
  next hnone =>
    refine ⟨.parked, .inl rfl, ?_⟩
    refine ((List.map_congr_left fun e he => if_neg ?_).trans (List.map_id _)).symm
    simpa using List.find?_eq_none.1 hnone e he
  next e _ =>
    cases hd : chooseBay (s.dir.entries.filter (candidate s e)) with
    | none =>
      refine ⟨.parked, .inl rfl, ?_⟩
      dsimp only
      split <;> rfl
    | some d =>
      obtain ⟨hmem, hcand⟩ := List.mem_filter.1 (chooseBay_some hd).1
      obtain ⟨hdocked, -⟩ := (candidate_iff e d).1 hcand
      refine ⟨.queued d.bay, .inr ⟨d, hmem, hdocked, rfl⟩, ?_⟩
      dsimp only
      rw [tidyGroups_table, joinGroup_table]

theorem setTransferState_moved (label : Nat) (st : TransferState) (s : State) :
    (setTransferState label st s).table = s.table.map (moved [label] fun _ => st) := by
  refine List.map_congr_left fun e _ => ?_
  simp only [moved, List.mem_singleton]

theorem selectTargets_table (notify : Nat → Bool) (ls : List Nat) (s : State) : ∃ f, (∀ l, Choice s.dir.entries (f l))
    ∧ (ls.foldl (fun u l => selectTarget (notify l) l u) s).table = s.table.map (moved ls f) := by
  induction ls generalizing s with
  | nil => exact ⟨fun _ => .parked, fun _ => .inl rfl, (List.map_id'' (fun e => if_neg List.not_mem_nil) _).symm⟩
  | cons l ls ih =>
    obtain ⟨st, hst, htable⟩ := selectTarget_table (notify l) l s
    obtain ⟨f, hf, hrest⟩ := ih (selectTarget (notify l) l s)
    have hdir : (selectTarget (notify l) l s).dir = s.dir := dir_of_keepTable (selectTarget_keep _ _ _)
    refine ⟨fun k => if k ∈ ls then f k else st, fun k => ?_, ?_⟩
    · dsimp only
      split
      · exact hdir ▸ hf k
      · exact hst
    · rw [List.foldl_cons, hrest, htable, setTransferState_moved, List.map_map]
      refine List.map_congr_left fun e _ => ?_
      rw [Function.comp, moved, moved_label]
      by_cases hm : e.label ∈ ls
      · simp only [moved, List.mem_cons, hm, or_true, if_true]
        split <;> rfl
      · simp only [moved, List.mem_cons, List.not_mem_nil, hm, or_false, if_false]

/-- The table once entries have left for selection, the waiting ones served (R98, R101). -/
theorem goBacks_tidied_table (back : List Nat) (s : State) :
    (tidyGroups (back.foldl (fun u l => goBack l u) s)).table = s.table.map (sentBack back) := by
  rw [tidyGroups_table, goBacks_table]

theorem goBacks_tidied_keep (back : List Nat) (s : State) :
    keepTable (tidyGroups (back.foldl (fun u l => goBack l u) s)) = keepTable s := by
  rw [keepTable_of_groups (tidyGroups_keep _), foldl_keep keepTable _ (fun t l => goBack_keep l t)]

/-- Entries sent back and re-evaluated: they are PARKED or QUEUED, and the rest of the table stays (R92, R98). -/
theorem reselect_table (back parked : List Nat) (s : State) : ∃ f, (∀ l, Choice s.dir.entries (f l))
    ∧ (reselect back parked s).table = s.table.map (moved (back ++ parked) f) := by
  have htable := goBacks_tidied_table back s
  have hdir := dir_of_keepTable (goBacks_tidied_keep back s)
  unfold reselect
  dsimp only
  generalize tidyGroups (back.foldl (fun u l => goBack l u) s) = t at htable hdir ⊢
  obtain ⟨f, hf, hafter⟩ := selectTargets_table (fun l => back.contains l)
    (labelsWhere (fun e => back.contains e.label || parked.contains e.label) t) t
  refine ⟨f, fun l => hdir ▸ hf l, ?_⟩
  rw [hafter, htable, List.map_map]
  refine List.map_congr_left fun e he => ?_
  have hmem : e.label ∈ labelsWhere (fun e => back.contains e.label || parked.contains e.label) t ↔
      e.label ∈ back ++ parked := by
    constructor
    · intro hl
      obtain ⟨z, hz, hzl⟩ := List.mem_map.1 hl
      simpa [hzl] using (List.mem_filter.1 hz).2
    · intro hl
      refine List.mem_map.2 ⟨sentBack back e, List.mem_filter.2 ⟨htable ▸ List.mem_map_of_mem he, ?_⟩, sentBack_label _ _⟩
      simpa [sentBack_label] using hl
  rw [Function.comp, moved, sentBack_label, moved]
  by_cases hl : e.label ∈ back ++ parked
  · rw [if_pos (hmem.2 hl), if_pos hl, sentBack]
    split <;> rfl
  · rw [if_neg fun h => hl (hmem.1 h), if_neg hl, sentBack, if_neg fun h => hl (List.mem_append_left _ h)]

/-! ## What the moved table shows -/

/-- An entry that was not moved stays. -/
theorem mem_reselect_of_notMem (hx : x ∈ s.table) (hno : x.label ∉ back ++ parked) : x ∈ (reselect back parked s).table := by
  obtain ⟨f, -, htable⟩ := reselect_table back parked s
  rw [htable]
  exact List.mem_map.2 ⟨x, hx, if_neg hno⟩

/-- Every entry stood there, or was moved. -/
theorem reselect_entry (hy : y ∈ (reselect back parked s).table) :
    (y.label ∉ back ++ parked ∧ y ∈ s.table) ∨ (y.label ∈ back ++ parked ∧ Choice s.dir.entries y.state) := by
  obtain ⟨f, hf, htable⟩ := reselect_table back parked s
  rw [htable] at hy
  obtain ⟨x, hx, rfl⟩ := List.mem_map.1 hy
  rw [moved_label, moved]
  by_cases hl : x.label ∈ back ++ parked
  · rw [if_pos hl]
    exact .inr ⟨hl, hf _⟩
  · rw [if_neg hl]
    exact .inl ⟨hl, hx⟩

/-- What selection tells of the table but for the states (R98). -/
theorem reselect_kept {β : Type} (φ : TransferEntry → β) (hφ : ∀ e st, φ { e with state := st } = φ e)
    (back parked : List Nat) (s : State) : (reselect back parked s).table.map φ = s.table.map φ := by
  obtain ⟨f, -, htable⟩ := reselect_table back parked s
  rw [htable, List.map_map]
  refine List.map_congr_left fun e _ => ?_
  rw [Function.comp, moved]
  split
  · exact hφ e _
  · rfl

/-- What selection leaves alone, where the directory was written ahead of it. -/
theorem eq_of_keepTable_dir {d : Directory} (h : keepTable t = keepTable (setDir d s)) : t = { s with
    dir := t.dir, table := t.table, asm := t.asm, notes := t.notes, link := { s.link with queue := t.link.queue } } := by
  have hblocks := eq_of_keepTable h
  rw [dir_of_keepTable h]
  exact hblocks

/-! ## What a choice hangs on -/

/-- Two states in which target selection finds the same (R93, R94). -/
structure SameChoice (u v : State) : Prop where
  table : u.table = v.table
  entries : u.dir.entries = v.dir.entries
  straps : u.straps = v.straps

theorem SameChoice.candidate (h : SameChoice u v) : candidate u = candidate v := by
  unfold Machine.candidate pledged
  rw [h.table, h.straps]

theorem SameChoice.selected (h : SameChoice u v) (hx : Selected x u) : Selected x v := by
  unfold Selected at *
  rw [← h.candidate, ← h.table, ← h.entries, ← h.straps]
  unfold pledged at *
  rw [← h.table]
  exact hx

theorem selectTarget_same (n n' : Bool) (label : Nat) (h : SameChoice u v) :
    SameChoice (selectTarget n label u) (selectTarget n' label v) := by
  have hentries (b : Bool) (w : State) : (selectTarget b label w).dir.entries = w.dir.entries :=
    congrArg Directory.entries (dir_of_keepTable (selectTarget_keep b label w))
  have hstraps (b : Bool) (w : State) : (selectTarget b label w).straps = w.straps :=
    straps_of_keepTable (selectTarget_keep b label w)
  refine ⟨?_, by rw [hentries, hentries, h.entries], by rw [hstraps, hstraps, h.straps]⟩
  have hset (st : TransferState) : (setTransferState label st u).table = (setTransferState label st v).table := by
    unfold setTransferState
    rw [h.table]
    rfl
  have hentry : entryOf u label = entryOf v label := by rw [entryOf, entryOf, h.table]
  unfold selectTarget
  rw [hentry]
  cases entryOf v label with
  | none => exact h.table
  | some e =>
    dsimp only
    rw [h.candidate, h.entries]
    cases chooseBay (v.dir.entries.filter (Machine.candidate v e)) with
    | some d =>
      dsimp only
      rw [tidyGroups_table, tidyGroups_table, joinGroup_table, joinGroup_table]
      exact hset _
    | none =>
      dsimp only
      have hparked (b : Bool) (w : State) : (if b = true then raise .parked e.label e.depot (setTransferState label .parked w)
          else setTransferState label .parked w).table = (setTransferState label .parked w).table := by
        split <;> rfl
      rw [hparked, hparked]
      exact hset _

theorem selectTargets_same (n n' : Nat → Bool) (ls : List Nat) (h : SameChoice u v) : SameChoice
    (ls.foldl (fun w l => selectTarget (n l) l w) u) (ls.foldl (fun w l => selectTarget (n' l) l w) v) := by
  induction ls generalizing u v with
  | nil => exact h
  | cons l ls ih => exact ih (selectTarget_same _ _ l h)

/-- PARKED entries re-evaluated choose as if they were sent back with the others (R92, R98). -/
theorem reselect_same (hp : ∀ x ∈ s.table, x.label ∈ parked → x.state = .parked) :
    SameChoice (reselect back parked s) (reselect (back ++ parked) [] s) := by
  have hstart : SameChoice (tidyGroups (back.foldl (fun u l => goBack l u) s))
      (tidyGroups ((back ++ parked).foldl (fun u l => goBack l u) s)) := by
    have hk := goBacks_tidied_keep back s
    have hk' := goBacks_tidied_keep (back ++ parked) s
    refine ⟨?_, congrArg Directory.entries ((dir_of_keepTable hk).trans (dir_of_keepTable hk').symm),
      (straps_of_keepTable hk).trans (straps_of_keepTable hk').symm⟩
    rw [goBacks_tidied_table, goBacks_tidied_table]
    refine List.map_congr_left fun e he => ?_
    unfold sentBack
    by_cases hb : e.label ∈ back
    · rw [if_pos hb, if_pos (List.mem_append_left _ hb)]
    · by_cases hpl : e.label ∈ parked
      · rw [if_neg hb, if_pos (List.mem_append_right _ hpl), ← hp e he hpl]
      · rw [if_neg hb, if_neg (by simp [hb, hpl])]
  have hlabels : labelsWhere (fun e => back.contains e.label || parked.contains e.label)
      (tidyGroups (back.foldl (fun u l => goBack l u) s)) =
      labelsWhere (fun e => (back ++ parked).contains e.label || [].contains e.label)
        (tidyGroups ((back ++ parked).foldl (fun u l => goBack l u) s)) := by
    unfold labelsWhere
    rw [hstart.table]
    simp
  unfold reselect
  dsimp only
  rw [hlabels]
  exact selectTargets_same _ _ _ hstart

/-- Every entry sent back or re-evaluated stands selected (R92, R93, R94, R98). -/
theorem reselect_selected (hs : TableDistinct s) (hsorted : s.dir.entries.Pairwise (fun x y => x.bay < y.bay))
    (hp : ∀ x ∈ s.table, x.label ∈ parked → x.state = .parked) (hx : x ∈ s.table) (hl : x.label ∈ back ++ parked) :
    Selected x (reselect back parked s) := by
  have hsame := reselect_same (back := back) hp
  have hall := (reselect_selecting (back := back ++ parked) hs hsorted).chosen x hx hl List.not_mem_nil
  exact SameChoice.selected ⟨hsame.table.symm, hsame.entries.symm, hsame.straps.symm⟩ hall

end Sys2Proof.Machine
end


section
/-! PROOF. The timers of groups and transfers (O58). -/

namespace Sys2Proof.Machine

variable {s t : State} {target group label : Nat}

/-! ## What was closed stands in the send list -/

theorem buildReady_standIn (s : State) : StandIn s.asm.sendList (buildReady s).asm.sendList := buildList_standIn s [] _

theorem tidyGroups_standIn (s : State) : StandIn s.asm.sendList (tidyGroups s).asm.sendList := by
  intro x hx
  obtain ⟨l, hl, -⟩ := serveLoop_appends s.table.length s
  exact buildReady_standIn (serveWaiting s) x (hl ▸ List.mem_append_left l hx)

/-! ## Groups that close by their hold timer -/

theorem expireHold_due {g : OpenGroup} (hg : s.asm.openGroups.find? (fun x => x.target == target) = some g)
    (hdue : 20 ≤ g.timer) : expireHold target s = tidyGroups (closeOpen g s) := by
  rw [expireHold, hg]
  exact if_pos hdue

theorem holdTimer_expires (target : Nat) (s : State) (g : OpenGroup) (hr : s.pins.resetHeld = false)
    (hg : s.asm.openGroups.find? (fun x => x.target == target) = some g) (hdue : 20 ≤ g.timer) :
    ∃ t, exec (.holdTimerExpiry target) s = .next t
      ∧ (∃ x ∈ t.asm.sendList, x.target = target ∧ x.members = g.members
          ∧ x.number = some (targetRecord s.asm target).next ∧ x.resend = false)
      ∧ t.table = s.table ∧ t = { s with asm := t.asm, link := { s.link with queue := t.link.queue } } := by
  have htarget : g.target = target := by simpa using List.find?_some hg
  have hexec : exec (.holdTimerExpiry target) s = .next (tidyGroups (closeOpen g s)) := by
    rw [← expireHold_due hg hdue]
    exact congrArg Host.Outcome.next (live_free _ hr)
  have hkeep : keepGroups (tidyGroups (closeOpen g s)) = keepGroups s :=
    (tidyGroups_keep _).trans (keepGroups_of_asm (closeOpen_keep g s))
  refine ⟨_, hexec, ?_, table_of_keepGroups hkeep, eq_of_keepGroups hkeep⟩
  rcases tidyGroups_standIn (closeOpen g s) _ (List.mem_append_right _ List.mem_cons_self) with h | h
  · exact ⟨_, h, htarget, rfl, by rw [← htarget]; rfl, rfl⟩
  · exact ⟨_, h, htarget, rfl, by rw [← htarget]; rfl, rfl⟩

/-! ## Answer timers -/

/-- A resend of the entries of a send, as it is appended to the send list (R110). -/
def resendOf (target group : Nat) (s : State) : ClosedGroup :=
  { target := target, number := some group, members := labelsWhere (answerDue target group) s
    kind := if (labelsWhere (answerDue target group) s).length = groupSize s.straps then .full else .short
    resend := true, inQueue := false, pending := false }

/-- The entries of a send marked expired, and their resend appended (R110). -/
def resent (target group : Nat) (s : State) : State :=
  setAsm { s.asm with sendList := s.asm.sendList ++ [resendOf target group s] }
    (setTable (s.table.map (fun e => if answerDue target group e = true then timerExpired e else e)) s)

theorem due_ne_nil (hdue : ∃ e ∈ s.table, answerDue target group e = true) :
    (s.table.filter (answerDue target group)).isEmpty = false := by
  obtain ⟨e, he, hd⟩ := hdue
  exact List.isEmpty_eq_false_iff.2 (List.ne_nil_of_mem (List.mem_filter.2 ⟨he, hd⟩))

theorem expireAnswer_resent (hdue : ∃ e ∈ s.table, answerDue target group e = true)
    (hthird : ∀ e ∈ s.table, answerDue target group e = true → thirdSend e = false) :
    expireAnswer target group s = buildReady (resent target group s) := by
  have hno : (s.table.filter (answerDue target group)).any thirdSend = false :=
    List.any_eq_false.2 fun e he => by
      obtain ⟨he, hd⟩ := List.mem_filter.1 he
      exact Bool.eq_false_iff.1 (hthird e he hd)
  unfold expireAnswer
  dsimp only
  rw [due_ne_nil hdue, hno]
  rfl

theorem answerTimer_expires (target group : Nat) (s : State) (hr : s.pins.resetHeld = false)
    (hdue : ∃ e ∈ s.table, answerDue target group e = true)
    (hthird : ∀ e ∈ s.table, answerDue target group e = true → thirdSend e = false) :
    ∃ t, exec (.answerTimerExpiry target group) s = .next t
      ∧ t.table = s.table.map (fun e => if answerDue target group e = true then timerExpired e else e)
      ∧ (∃ x ∈ t.asm.sendList, x.target = target ∧ x.number = some group ∧ x.resend = true
          ∧ x.members = (s.table.filter (answerDue target group)).map (·.label))
      ∧ t = { s with table := t.table, asm := t.asm, link := { s.link with queue := t.link.queue } } := by
  have hexec : exec (.answerTimerExpiry target group) s = .next (buildReady (resent target group s)) := by
    rw [← expireAnswer_resent hdue hthird]
    exact congrArg Host.Outcome.next (live_free _ hr)
  have hkeep : keepGroups _ = keepGroups (resent target group s) := buildReady_keep (resent target group s)
  have htable : (buildReady (resent target group s)).table = (resent target group s).table := table_of_keepGroups hkeep
  refine ⟨_, hexec, htable, ?_, ?_⟩
  · rcases buildReady_standIn (resent target group s) (resendOf target group s)
      (List.mem_append_right _ List.mem_cons_self) with h | h
    · exact ⟨_, h, rfl, rfl, rfl, rfl⟩
    · exact ⟨_, h, rfl, rfl, rfl, rfl⟩
  · have hblocks := eq_of_keepGroups hkeep
    rw [htable]
    exact hblocks

/-! ## The third send -/

/-- The labels that go back to selection after a third send (R91, R111). -/
def unanswered (target group : Nat) (s : State) : List Nat :=
  labelsWhere (answerDue target group) s ++ if (dirEntry s target).isSome then labelsWhere (queuedTo target) s else []

theorem expireAnswer_third (hthird : ∃ e ∈ s.table, answerDue target group e = true ∧ thirdSend e = true) :
    expireAnswer target group s = reselect (unanswered target group s) [] (setUnreachable target (some 60) s) := by
  obtain ⟨e, he, hd, h3⟩ := hthird
  have hany : (s.table.filter (answerDue target group)).any thirdSend = true :=
    List.any_eq_true.2 ⟨e, List.mem_filter.2 ⟨he, hd⟩, h3⟩
  unfold expireAnswer
  dsimp only
  rw [due_ne_nil ⟨e, he, hd⟩, hany]
  rfl

theorem answerDue_of_choice {entries : List DirEntry} {e : TransferEntry} (h : Choice entries e.state) :
    answerDue target group e = false := by
  rcases h with h | ⟨d, -, -, h⟩ <;> rw [answerDue, h]

theorem thirdSend_expires (target group : Nat) (s : State) (hr : s.pins.resetHeld = false)
    (hthird : ∃ e ∈ s.table, answerDue target group e = true ∧ thirdSend e = true) :
    ∃ t, exec (.answerTimerExpiry target group) s = .next t
      ∧ t.dir = { s.dir with
          entries := s.dir.entries.map (fun x => if x.bay = target then { x with unreachable := some 60 } else x) }
      ∧ (∀ e ∈ t.table, answerDue target group e = false) ∧ t.table.map (·.label) = s.table.map (·.label)
      ∧ t = { s with
          dir := t.dir, table := t.table, asm := t.asm, notes := t.notes, link := { s.link with queue := t.link.queue } } := by
  have hexec : exec (.answerTimerExpiry target group) s =
      .next (reselect (unanswered target group s) [] (setUnreachable target (some 60) s)) := by
    rw [← expireAnswer_third hthird]
    exact congrArg Host.Outcome.next (live_free _ hr)
  have hkeep : keepTable _ = keepTable (setUnreachable target (some 60) s) :=
    reselect_keep (unanswered target group s) [] (setUnreachable target (some 60) s)
  refine ⟨_, hexec, dir_of_keepTable hkeep, fun e he => ?_, reselect_kept _ (fun _ _ => rfl) _ _ _,
    eq_of_keepTable_dir hkeep⟩
  rcases reselect_entry he with ⟨hno, he⟩ | ⟨-, hc⟩
  · rw [Bool.eq_false_iff]
    intro hd
    rw [List.append_nil] at hno
    exact hno (List.mem_append_left _ (List.mem_map_of_mem (List.mem_filter.2 ⟨he, hd⟩)))
  · exact answerDue_of_choice hc

/-! ## Travel timers -/

theorem expireTravel_due {e : TransferEntry} (he : entryOf s label = some e) (hs : e.state = .accepted target (some 0)) :
    expireTravel label s = { s with
      table := s.table.map (fun x => if x.label = label then
        { x with state := .accepted target none, astray := true } else x)
      notes := if e.astray = true then s.notes else (raise .astray label target s).notes } := by
  simp only [expireTravel, he, hs]
  cases e.astray <;> rfl

/-- Settles O58: what closes or is sent again stands in the send list, and what a third send leaves unanswered runs its
selection again. -/
theorem transferTimersExpire : Obligations.TransferTimersExpire :=
  ⟨holdTimer_expires, answerTimer_expires, fun target group s hr _ hthird => thirdSend_expires target group s hr hthird,
    fun _ _ _ _ hr he hs => (congrArg Host.Outcome.next (live_free _ hr)).trans
      (congrArg Host.Outcome.next (expireTravel_due he hs))⟩

end Sys2Proof.Machine
end


section
/-! PROOF. The timers of the Route Directory (O57). -/

namespace Sys2Proof.Machine

variable {s t u : State} {bay : Nat}

/-! ## The beacon timer -/

/-- A beacon that finds its place in the queue, and the last beaconed content taken from it (R79, R85). -/
theorem placeBeacon_placed (h : beaconRoom u = true) :
    placeBeacon u = ({ u with link := linkWithBeacon u u, dir := { u.dir with last := contentNow u } }, true) := by
  unfold placeBeacon linkWithBeacon
  cases hf : u.link.queue.find? isBeacon with
  | some f => dsimp only; split <;> rfl
  | none =>
    have hany : u.link.queue.any isBeacon = false := by simpa using List.find?_eq_none.1 hf
    rw [beaconRoom, hany, Bool.false_or] at h
    dsimp only
    rw [if_pos h, if_pos h]
    rfl

/-- A beacon for which there is no room is dropped (R79). -/
theorem placeBeacon_without_room (h : beaconRoom u = false) : placeBeacon u = (u, false) := by
  rw [beaconRoom, Bool.or_eq_false_iff] at h
  have hnone : u.link.queue.find? isBeacon = none := List.find?_eq_none.2 fun f hf => by
    simpa using List.any_eq_false.1 h.1 f hf
  simp [placeBeacon, hnone, h.2]

/-- The state with a beacon interval (R86). -/
def atInterval (n : Nat) (s : State) : State := setDir { s.dir with interval := n } s

/-- The interval that follows where the beacon timer expires (R86). -/
def nextInterval (s : State) : Nat := if contentDiffers s = true then 4 else min 64 (2 * s.dir.interval)

theorem expireBeacon_due (hl : s.link.line = .joined) (ht : s.dir.timer = some 0) : expireBeacon s =
    if (placeBeacon (atInterval (nextInterval s) s)).2 = true then
      restartBeaconTimer (nextInterval s) (placeBeacon (atInterval (nextInterval s) s)).1
    else setDir { (placeBeacon (atInterval (nextInterval s) s)).1.dir with
        interval := s.dir.interval, timer := some s.dir.interval } (placeBeacon (atInterval (nextInterval s) s)).1 := by
  rw [expireBeacon, if_pos ⟨hl, ht⟩]
  rfl

theorem beaconTimer_expires (s : State) (n : Nat) (hr : s.pins.resetHeld = false) (hl : s.link.line = .joined)
    (ht : s.dir.timer = some 0) (hn : n = (if contentDiffers s = true then 4 else min 64 (2 * s.dir.interval)))
    (hroom : beaconRoom s = true) :
    ∃ t, exec .beaconTimerExpiry s = .next t ∧ t.dir = { s.dir with interval := n, timer := some n, last := contentNow s }
      ∧ t.link = linkWithBeacon s t ∧ t = { s with dir := t.dir, link := t.link } := by
  obtain rfl : n = nextInterval s := hn
  have hplaced := placeBeacon_placed (u := atInterval (nextInterval s) s) hroom
  have hline : (linkWithBeacon (atInterval (nextInterval s) s) (atInterval (nextInterval s) s)).line = .joined :=
    (congrArg Link.line (linkWithBeacon_blocks _ _)).trans hl
  have hexec : exec .beaconTimerExpiry s = .next (restartBeaconTimer (nextInterval s)
      (placeBeacon (atInterval (nextInterval s) s)).1) := by
    refine congrArg Host.Outcome.next ?_
    rw [live_free _ hr, expireBeacon_due hl ht, hplaced]
    rfl
  refine ⟨_, hexec, ?_⟩
  rw [hplaced, restartBeaconTimer]
  dsimp only
  rw [if_pos hline]
  exact ⟨rfl, rfl, rfl⟩

theorem beaconTimer_dropped (s : State) (hr : s.pins.resetHeld = false) (hl : s.link.line = .joined)
    (ht : s.dir.timer = some 0) (hroom : beaconRoom s = false) :
    exec .beaconTimerExpiry s = .next { s with dir := { s.dir with timer := some s.dir.interval } } := by
  have hdropped := placeBeacon_without_room (u := atInterval (nextInterval s) s) hroom
  refine congrArg Host.Outcome.next ?_
  rw [live_free _ hr, expireBeacon_due hl ht, hdropped]
  rfl

/-! ## Stale entries and unreachable marks -/

/-- The directory without a bay's entry (R89). -/
def withoutEntry (bay : Nat) (s : State) : State :=
  setDir { s.dir with entries := s.dir.entries.filter (fun x => x.bay != bay) } s

theorem expireEntry_stale {e : DirEntry} (he : dirEntry s bay = some e) (hdue : 3 * e.interval ≤ e.since) :
    expireEntry bay s = reselect (labelsWhere (queuedTo bay) s) [] (withoutEntry bay s) := by
  rw [expireEntry, he]
  exact if_pos hdue

theorem queuedTo_iff {e : TransferEntry} : queuedTo bay e = true ↔ e.state = .queued bay := by
  unfold queuedTo
  cases e.state <;> simp

/-- No entry stays QUEUED toward a bay that has left the directory (R89, R91). -/
theorem queuedTo_after_stale {x : TransferEntry}
    (hx : x ∈ (reselect (labelsWhere (queuedTo bay) s) [] (withoutEntry bay s)).table) : queuedTo bay x = false := by
  rw [Bool.eq_false_iff]
  intro hq
  rcases reselect_entry hx with ⟨hno, hx⟩ | ⟨-, hc | ⟨d, hd, -, hc⟩⟩
  · rw [List.append_nil] at hno
    exact hno (List.mem_map_of_mem (List.mem_filter.2 ⟨hx, hq⟩))
  · cases hc.symm.trans (queuedTo_iff.1 hq)
  · have hbay : d.bay = bay := by simpa using hc.symm.trans (queuedTo_iff.1 hq)
    exact absurd hbay (by simpa using (List.mem_filter.1 hd).2)

/-- An entry OFFERED or ACCEPTED toward the bay is left alone, its label being its own (R91). -/
theorem mem_after_stale {x : TransferEntry} (hx : x ∈ s.table) (hstate : offeredTo bay x = true ∨ acceptedTo bay x = true)
    (hown : ∀ y ∈ s.table, y.label = x.label → y = x) :
    x ∈ (reselect (labelsWhere (queuedTo bay) s) [] (withoutEntry bay s)).table := by
  refine mem_reselect_of_notMem hx fun hl => ?_
  rw [List.append_nil] at hl
  obtain ⟨y, hy, hyl⟩ := List.mem_map.1 hl
  obtain ⟨hy, hq⟩ := List.mem_filter.1 hy
  obtain rfl := hown y hy hyl
  rw [offeredTo, acceptedTo, queuedTo_iff.1 hq] at hstate
  exact hstate.elim Bool.false_ne_true Bool.false_ne_true

theorem directoryEntry_expires (bay : Nat) (s : State) (e : DirEntry) (hr : s.pins.resetHeld = false)
    (he : dirEntry s bay = some e) (hdue : 3 * e.interval ≤ e.since) :
    ∃ t, exec (.directoryEntryExpiry bay) s = .next t
      ∧ t.dir = { s.dir with entries := s.dir.entries.filter (fun x => x.bay != bay) }
      ∧ (∀ x ∈ t.table, queuedTo bay x = false)
      ∧ (∀ x ∈ s.table, offeredTo bay x = true ∨ acceptedTo bay x = true →
          (∀ y ∈ s.table, y.label = x.label → y = x) → x ∈ t.table)
      ∧ t = { s with
          dir := t.dir, table := t.table, asm := t.asm, notes := t.notes, link := { s.link with queue := t.link.queue } } := by
  have hexec : exec (.directoryEntryExpiry bay) s =
      .next (reselect (labelsWhere (queuedTo bay) s) [] (withoutEntry bay s)) := by
    rw [← expireEntry_stale he hdue]
    exact congrArg Host.Outcome.next (live_free _ hr)
  have hkeep : keepTable _ = keepTable (withoutEntry bay s) :=
    reselect_keep (labelsWhere (queuedTo bay) s) [] (withoutEntry bay s)
  exact ⟨_, hexec, dir_of_keepTable hkeep, fun x => queuedTo_after_stale, fun x hx => mem_after_stale hx,
    eq_of_keepTable_dir hkeep⟩

theorem expireUnreachable_due {e : DirEntry} (he : dirEntry s bay = some e) (hdue : e.unreachable = some 0) :
    expireUnreachable bay s = reselect [] (parkedLabels s) (setUnreachable bay none s) := by
  rw [expireUnreachable, he]
  exact if_pos hdue

theorem unreachableMark_expires (bay : Nat) (s : State) (e : DirEntry) (hr : s.pins.resetHeld = false)
    (he : dirEntry s bay = some e) (hdue : e.unreachable = some 0) :
    ∃ t, exec (.unreachableMarkExpiry bay) s = .next t
      ∧ t.dir = { s.dir with
          entries := s.dir.entries.map (fun x => if x.bay = bay then { x with unreachable := none } else x) }
      ∧ t.table.map (·.label) = s.table.map (·.label)
      ∧ t = { s with
          dir := t.dir, table := t.table, asm := t.asm, notes := t.notes, link := { s.link with queue := t.link.queue } } := by
  have hexec : exec (.unreachableMarkExpiry bay) s =
      .next (reselect [] (parkedLabels s) (setUnreachable bay none s)) := by
    rw [← expireUnreachable_due he hdue]
    exact congrArg Host.Outcome.next (live_free _ hr)
  have hkeep : keepTable _ = keepTable (setUnreachable bay none s) :=
    reselect_keep [] (parkedLabels s) (setUnreachable bay none s)
  exact ⟨_, hexec, dir_of_keepTable hkeep, reselect_kept _ (fun _ _ => rfl) _ _ _, eq_of_keepTable_dir hkeep⟩

/-- Settles O57: the beacon that goes at its timer, and the entries whose selection runs again where the directory loses
an entry or a mark. -/
theorem directoryTimersExpire : Obligations.DirectoryTimersExpire :=
  ⟨beaconTimer_expires, beaconTimer_dropped, directoryEntry_expires, unreachableMark_expires⟩

end Sys2Proof.Machine
end


section
/-! SUPPORT. What settling leaves (R139, R141), and what a DONE or a VACANT beacon does to the Transfer Table (R115). -/

namespace Sys2Proof.Machine

variable {s t u : State} {x y : TransferEntry} {bay : Nat} {parked : List Nat} {j : NoticeKind}

/-! ## Settling -/

theorem link_of_keepSettle (h : keepSettle t = keepSettle s) :
    t.link = { s.link with queue := t.link.queue, beaconWaiting := t.link.beaconWaiting } := by
  have hlink : ({ t.link with queue := [], beaconWaiting := false } : Link) =
      { s.link with queue := [], beaconWaiting := false } := congrArg State.link h
  exact (congrArg (fun l : Link => { l with queue := t.link.queue, beaconWaiting := t.link.beaconWaiting }) hlink :)

theorem entries_of_keepSettle (h : keepSettle t = keepSettle s) : t.dir.entries = s.dir.entries :=
  (congrArg (fun x : State => x.dir.entries) h :)

theorem changes_of_keepSettle (h : keepSettle t = keepSettle s) : t.dir.changes = s.dir.changes :=
  (congrArg (fun x : State => x.dir.changes) h :)

/-- What settling leaves alone, the queue and the mark of the waiting beacon being all it takes of the link. -/
theorem settle_blocks (s : State) : settle s = { s with
    dep := (settle s).dep, notes := (settle s).notes, dir := (settle s).dir
    link := { s.link with queue := (settle s).link.queue, beaconWaiting := (settle s).link.beaconWaiting } } := by
  rw [← link_of_keepSettle (settle_keep s)]
  exact eq_of_keepSettle (settle_keep s)

theorem settle_sameChoice (s : State) : SameChoice s (settle s) :=
  ⟨(settle_table s).symm, (entries_of_keepSettle (settle_keep s)).symm, (settle_straps s).symm⟩

/-- READY hangs on these blocks alone (R139). -/
theorem readyNow_congr (h1 : t.dep.state = u.dep.state) (h2 : t.store = u.store) (h3 : t.lane = u.lane) :
    readyNow t = readyNow u := by
  rw [readyNow, readyNow, h1, h2, h3]

theorem autoStart_ready (c : StartCause) (h : s.dep.ready = readyNow s) :
    (autoStart c s).dep.ready = readyNow (autoStart c s) := by
  unfold autoStart
  split
  · rw [readyNow, startCall_dep]
    rfl
  · split
    · exact h
    · exact h

/-- READY stands as it is worked out, a call that it starts included (R139, R142). -/
theorem settle_ready (s : State) : (settle s).dep.ready = readyNow (settle s) := by
  have hready : (checkReady s).dep.ready = readyNow (checkReady s) := by
    rw [checkReady_eq]
    exact readyNow_congr rfl rfl rfl
  unfold settle checkAutoclose
  dsimp only
  split
  · exact autoStart_ready _ (hready.trans (readyNow_congr rfl rfl rfl))
  · exact hready.trans (readyNow_congr rfl rfl rfl)

/-- Where no call can start by AUTOCLOSE, settling leaves the link and the directory (R139, R141). -/
theorem settle_quiet (h : NoAutoclose s) : (settle s).dep =
    { s.dep with ready := readyNow (settle s), autoWas := autocloseNow (settle s) }
      ∧ (settle s).dir = s.dir ∧ (settle s).link = s.link := by
  rw [settle_eq h]
  exact ⟨rfl, rfl, rfl⟩

/-- Settling after the table, the groups and the Hold Table have changed. -/
theorem settle_after (h : s = { u with
      table := s.table, asm := s.asm, notes := s.notes, store := s.store, link := { u.link with queue := s.link.queue } }) :
    settle s = { u with
      table := (settle s).table, asm := (settle s).asm, notes := (settle s).notes, store := (settle s).store
      dep := (settle s).dep, dir := (settle s).dir
      link := { u.link with queue := (settle s).link.queue, beaconWaiting := (settle s).link.beaconWaiting } } := by
  have hblocks := settle_blocks s
  rw [settle_table, settle_asm, settle_store]
  generalize settle s = t at hblocks ⊢
  generalize s.table = table, s.asm = asm, s.notes = notes, s.store = store, s.link.queue = q at h ⊢
  subst h
  exact hblocks

theorem hasFlag_settle_of (h : hasFlag s.notes.summary j = true) : hasFlag (settle s).notes.summary j = true := by
  rw [settle, checkAutoclose_notes, checkReady_eq]
  dsimp only
  split
  · exact hasFlag_raise_of _ _ _ h
  · exact h

/-! ## An origin forgotten -/

/-- The owing list and the kept numbers without a bay (R119, R135). -/
def forgotten (bay : Nat) (h : HoldTable) : HoldTable :=
  { h with owing := h.owing.filter (fun b => b != bay), kept := h.kept.filter (fun k => k.bay != bay) }

theorem forgetOrigin_eq (bay : Nat) (s : State) : forgetOrigin bay s = settle (setStore (forgotten bay s.store) s) := rfl

/-! ## Flags that selection leaves set -/

theorem hasFlag_selectTarget_of (notify : Bool) (label : Nat) (h : hasFlag s.notes.summary j = true) :
    hasFlag (selectTarget notify label s).notes.summary j = true := by
  unfold selectTarget
  split
  · exact h
  · split
    · rw [tidyGroups_notes, joinGroup_notes]
      exact h
    · dsimp only
      split
      · exact hasFlag_raise_of _ _ _ h
      · exact h

theorem hasFlag_reselect_of (back parked : List Nat) (h : hasFlag s.notes.summary j = true) :
    hasFlag (reselect back parked s).notes.summary j = true := by
  have hfold (notify : Nat → Bool) (ls : List Nat) (t : State) (ht : hasFlag t.notes.summary j = true) :
      hasFlag (ls.foldl (fun u l => selectTarget (notify l) l u) t).notes.summary j = true := by
    induction ls generalizing t with
    | nil => exact ht
    | cons l ls ih => exact ih _ (hasFlag_selectTarget_of _ _ ht)
  refine hfold (fun l => back.contains l) _ _ ?_
  rw [tidyGroups_notes, foldl_keep State.notes (fun u l => goBack l u) (fun _ _ => rfl)]
  exact h

/-! ## What was ACCEPTED -/

/-- Entries that were ACCEPTED toward a bay become PARKED, each with MISSED (R115). -/
def missAll (bay : Nat) (ls : List Nat) (s : State) : State :=
  ls.foldl (fun t l => raise .missed l bay (setTransferState l .parked t)) s

theorem applyDone_eq (bay : Nat) (parked : List Nat) (s : State) : applyDone bay parked s =
    reselect (labelsWhere (fun e => queuedTo bay e || offeredTo bay e) s) parked
      (missAll bay (labelsWhere (acceptedTo bay) s) s) := rfl

theorem missAll_table (bay : Nat) (ls : List Nat) (s : State) : (missAll bay ls s).table = s.table.map (sentBack ls) := by
  have hback : (missAll bay ls s).table = (ls.foldl (fun u l => goBack l u) s).table := by
    unfold missAll
    induction ls generalizing s with
    | nil => rfl
    | cons l ls ih =>
      have hcongr (k : List Nat) {v w : State} (h : v.table = w.table) :
          (k.foldl (fun u l => goBack l u) v).table = (k.foldl (fun u l => goBack l u) w).table := by
        rw [goBacks_table, goBacks_table, h]
      rw [List.foldl_cons, List.foldl_cons, ih]
      exact hcongr ls rfl
  rw [hback, goBacks_table]

theorem missAll_keep (bay : Nat) (ls : List Nat) (s : State) : keepTable (missAll bay ls s) = keepTable s :=
  foldl_keep keepTable _ (fun t l => (keepTable_of_notes (raise_keep _ _ _ _)).trans (setTransferState_keep l .parked t)) ls s

theorem hasFlag_missAll {ls : List Nat} (h : ls ≠ []) : hasFlag (missAll bay ls s).notes.summary .missed = true := by
  have hmore (ls : List Nat) (t : State) (ht : hasFlag t.notes.summary .missed = true) :
      hasFlag (missAll bay ls t).notes.summary .missed = true := by
    induction ls generalizing t with
    | nil => exact ht
    | cons l ls ih => exact ih _ (hasFlag_raise _ _ _ _)
  cases ls with
  | nil => exact absurd rfl h
  | cons l ls => exact hmore ls _ (hasFlag_raise _ _ _ _)

theorem hasFlag_applyDone (h : ∃ e ∈ s.table, acceptedTo bay e = true) :
    hasFlag (applyDone bay parked s).notes.summary .missed = true := by
  obtain ⟨e, he, ha⟩ := h
  exact hasFlag_reselect_of _ _ (hasFlag_missAll (List.ne_nil_of_mem (List.mem_map_of_mem (List.mem_filter.2 ⟨he, ha⟩))))

/-! ## The table after it -/

theorem target_iff : x.state.target = some bay ↔ queuedTo bay x = true ∨ offeredTo bay x = true ∨ acceptedTo bay x = true := by
  unfold queuedTo offeredTo acceptedTo
  cases x.state <;> simp [TransferState.target]

theorem not_accepted_of_target (h : queuedTo bay x = true ∨ offeredTo bay x = true) : acceptedTo bay x = false := by
  unfold queuedTo offeredTo at h
  unfold acceptedTo
  cases hx : x.state <;> simp_all

theorem missAll_distinct {ls : List Nat} (hs : TableDistinct s) : TableDistinct (missAll bay ls s) := by
  have hsame : (missAll bay ls s).table.map (·.label) = s.table.map (·.label) := by
    rw [missAll_table, List.map_map]
    exact List.map_congr_left fun e _ => sentBack_label ls e
  rw [TableDistinct, hsame]
  exact hs

/-- An entry ACCEPTED toward the bay is PARKED now (R115). -/
theorem mem_missAll_accepted (hx : x ∈ s.table) (ha : acceptedTo bay x = true) :
    { x with state := .parked } ∈ (missAll bay (labelsWhere (acceptedTo bay) s) s).table := by
  rw [missAll_table]
  exact List.mem_map.2 ⟨x, hx, if_pos (List.mem_map_of_mem (List.mem_filter.2 ⟨hx, ha⟩))⟩

/-- Every other entry stays (R115). -/
theorem mem_missAll_other (hs : TableDistinct s) (hx : x ∈ s.table) (ha : acceptedTo bay x = false) :
    x ∈ (missAll bay (labelsWhere (acceptedTo bay) s) s).table := by
  rw [missAll_table]
  refine List.mem_map.2 ⟨x, hx, if_neg fun hl => ?_⟩
  exact absurd ((mem_labelsWhere hs hx).1 hl) (by simp [ha])

theorem missAll_parked (hp : ∀ x ∈ s.table, x.label ∈ parked → x.state = .parked) :
    ∀ x ∈ (missAll bay (labelsWhere (acceptedTo bay) s) s).table, x.label ∈ parked → x.state = .parked := by
  intro x hx hl
  rw [missAll_table] at hx
  obtain ⟨z, hz, rfl⟩ := List.mem_map.1 hx
  rw [sentBack_label] at hl
  unfold sentBack
  split
  · rfl
  · exact hp z hz hl

theorem applyDone_accepted (hs : TableDistinct s) (hp : ∀ x ∈ s.table, x.label ∈ parked → x.state = .parked)
    (hx : x ∈ s.table) (ha : acceptedTo bay x = true) :
    { x with state := .parked } ∈ (applyDone bay parked s).table := by
  rw [applyDone_eq]
  refine mem_reselect_of_notMem (mem_missAll_accepted hx ha) fun hl => ?_
  rcases List.mem_append.1 hl with hl | hl
  · have hq := (mem_labelsWhere hs hx).1 hl
    rw [not_accepted_of_target ((Bool.or_eq_true _ _).mp hq)] at ha
    cases ha
  · rw [acceptedTo, hp x hx hl] at ha
    cases ha

theorem applyDone_other (hs : TableDistinct s) (hx : x ∈ s.table) (ht : x.state.target ≠ some bay) (hl : x.label ∉ parked) :
    x ∈ (applyDone bay parked s).table := by
  simp only [ne_eq, target_iff, not_or, Bool.not_eq_true] at ht
  obtain ⟨hq, ho, ha⟩ := ht
  rw [applyDone_eq]
  refine mem_reselect_of_notMem (mem_missAll_other hs hx ha) fun hm => ?_
  rcases List.mem_append.1 hm with hm | hm
  · have := (mem_labelsWhere hs hx).1 hm
    rw [hq, ho] at this
    cases this
  · exact hl hm

theorem applyDone_selected (hs : TableDistinct s) (hp : ∀ x ∈ s.table, x.label ∈ parked → x.state = .parked)
    (hsorted : s.dir.entries.Pairwise (fun x y => x.bay < y.bay)) (hx : x ∈ s.table)
    (ha : acceptedTo bay x = false) (hl : x.state.target = some bay ∨ x.label ∈ parked) :
    Selected x (applyDone bay parked s) := by
  rw [applyDone_eq]
  refine reselect_selected (missAll_distinct hs) ?_ (missAll_parked hp) (mem_missAll_other hs hx ha) ?_
  · rw [dir_of_keepTable (missAll_keep _ _ _)]
    exact hsorted
  · refine List.mem_append.2 (hl.imp_left fun ht => (mem_labelsWhere hs hx).2 ?_)
    rw [target_iff, ha] at ht
    simpa using ht

/-- Toward the bay nothing stands but what selection has chosen for it again (R93, R115). -/
theorem applyDone_toward (hs : TableDistinct s) (hy : y ∈ (applyDone bay parked s).table) (ht : y.state.target = some bay) :
    y.state = .queued bay ∧ ∃ d ∈ s.dir.entries, d.bayState = .docked ∧ d.bay = bay := by
  have hdir := dir_of_keepTable (missAll_keep bay (labelsWhere (acceptedTo bay) s) s)
  rw [applyDone_eq] at hy
  rcases reselect_entry hy with ⟨hno, hy⟩ | ⟨-, hc | ⟨d, hd, hdocked, hc⟩⟩
  · rw [missAll_table] at hy
    obtain ⟨z, hz, rfl⟩ := List.mem_map.1 hy
    rw [sentBack_label] at hno
    exfalso
    unfold sentBack at ht
    split at ht
    · cases ht
    next hna =>
      rcases target_iff.1 ht with h | h | h
      · exact hno (List.mem_append_left _ ((mem_labelsWhere hs hz).2 (by simp [h])))
      · exact hno (List.mem_append_left _ ((mem_labelsWhere hs hz).2 (by simp [h])))
      · exact hna ((mem_labelsWhere hs hz).2 h)
  · rw [hc] at ht
    cases ht
  · rw [hc] at ht ⊢
    obtain rfl : d.bay = bay := Option.some.inj ht
    exact ⟨rfl, d, hdir ▸ hd, hdocked, rfl⟩

end Sys2Proof.Machine
end


section
/-! PROOF. DONE (O50). -/

namespace Sys2Proof.Machine

variable {s t : State} {key : Nat} {bay : Nat} {x : TransferEntry}

/-! ## An origin that leaves -/

theorem applyDone_kept {β : Type} (φ : TransferEntry → β) (hφ : ∀ e st, φ { e with state := st } = φ e) (bay : Nat)
    (parked : List Nat) (s : State) : (applyDone bay parked s).table.map φ = s.table.map φ := by
  rw [applyDone_eq, reselect_kept φ hφ, missAll_table, List.map_map]
  refine List.map_congr_left fun e _ => ?_
  rw [Function.comp, sentBack]
  split
  · exact hφ e _
  · rfl

/-- What a DONE or a VACANT beacon leaves, of the Transfer Table, of the Hold Table and of READY (R115, R119, R135). -/
structure Departed (bay : Nat) (parked : List Nat) (u t : State) : Prop where
  same : SameChoice (applyDone bay parked u) t
  missed : (∃ e ∈ u.table, acceptedTo bay e = true) → hasFlag t.notes.summary .missed = true
  store : t.store = forgotten bay u.store
  ready : t.dep.ready = readyNow t
  blocks : t = { u with
    table := t.table, asm := t.asm, notes := t.notes, store := t.store, dep := t.dep, dir := t.dir
    link := { u.link with queue := t.link.queue, beaconWaiting := t.link.beaconWaiting } }
  quiet : NoAutoclose u → t.dep = { u.dep with ready := readyNow t, autoWas := autocloseNow t } ∧ t.dir = u.dir
    ∧ t.link.beaconWaiting = u.link.beaconWaiting

theorem forgetOrigin_departed (bay : Nat) (parked : List Nat) (u : State) :
    Departed bay parked u (forgetOrigin bay (applyDone bay parked u)) where
  same := by
    obtain ⟨h1, h2, h3⟩ := settle_sameChoice (setStore (forgotten bay (applyDone bay parked u).store) (applyDone bay parked u))
    exact ⟨h1, h2, h3⟩
  missed h := hasFlag_settle_of (hasFlag_applyDone h)
  store := (settle_store _).trans (congrArg (forgotten bay) (store_of_keepTable (applyDone_keep bay parked u)))
  ready := settle_ready _
  blocks := settle_after (congrArg (setStore (forgotten bay (applyDone bay parked u).store))
    (eq_of_keepTable (applyDone_keep bay parked u)))
  quiet h := by
    have hwaiting : (applyDone bay parked u).link.beaconWaiting = u.link.beaconWaiting :=
      (congrArg (fun x : State => x.link.beaconWaiting) (applyDone_keep bay parked u) :)
    have hdep : (applyDone bay parked u).dep = u.dep := dep_of_keepTable (applyDone_keep bay parked u)
    have hstraps : (applyDone bay parked u).straps = u.straps := straps_of_keepTable (applyDone_keep bay parked u)
    have hquiet : NoAutoclose (setStore (forgotten bay (applyDone bay parked u).store) (applyDone bay parked u)) := by
      rw [NoAutoclose, setStore_straps, setStore_dep, hstraps, hdep]
      exact h
    obtain ⟨h1, h2, h3⟩ := settle_quiet hquiet
    rw [setStore_dep, hdep] at h1
    rw [setStore_dir, dir_of_keepTable (applyDone_keep bay parked u)] at h2
    exact ⟨h1, h2, (congrArg Link.beaconWaiting h3).trans hwaiting⟩

/-! ## DONE -/

theorem exec_done {m : DoneMsg} (h : Hears key (.done m) s) :
    exec (.done key m) s = .next (forgetOrigin m.bay (applyDone m.bay [] (heardIn s))) := exec_heard h

/-- Settles O50: the entries toward the bay by their states, and the Hold Table and READY after them. -/
theorem doneParksWhatWasAccepted : Obligations.DoneParksWhatWasAccepted := by
  intro key m s h hs
  have hd := forgetOrigin_departed m.bay [] (heardIn s)
  have hexec := exec_done h
  generalize forgetOrigin m.bay (applyDone m.bay [] (heardIn s)) = t at hd hexec
  have hs : TableDistinct (heardIn s) := hs
  have hp : ∀ x ∈ (heardIn s).table, x.label ∈ ([] : List Nat) → x.state = .parked := nofun
  have haccepted {x : TransferEntry} (hx : x ∈ s.table) (ha : acceptedTo m.bay x = true) :
      { x with state := .parked } ∈ t.table := hd.same.table ▸ applyDone_accepted hs hp hx ha
  have hother {x : TransferEntry} (hx : x ∈ s.table) (ht : x.state.target ≠ some m.bay) : x ∈ t.table :=
    hd.same.table ▸ applyDone_other hs hx ht List.not_mem_nil
  refine ⟨t, hexec, fun e he => haccepted he, fun e he => hother he, fun e he => ?_, hd.missed, hd.store, hd.ready,
    fun hsorted x hx => ?_, ?_, hd.quiet, hd.blocks⟩
  · rw [← hd.same.table] at he
    constructor
    · rw [Bool.eq_false_iff]
      intro ha
      have hq := (applyDone_toward hs he (target_iff.2 (.inr (.inr ha)))).1
      rw [acceptedTo, hq] at ha
      cases ha
    · rw [Bool.eq_false_iff]
      intro ho
      have hq := (applyDone_toward hs he (target_iff.2 (.inr (.inl ho)))).1
      rw [offeredTo, hq] at ho
      cases ho
  · split
    next ha => exact haccepted hx ha
    next ha =>
      split
      next ht => exact hd.same.selected (applyDone_selected hs hp hsorted hx (Bool.eq_false_iff.2 ha) (.inl ht))
      next ht => exact hother hx ht
  · rw [← hd.same.table]
    exact applyDone_kept _ (fun _ _ => rfl) m.bay [] (heardIn s)

end Sys2Proof.Machine
end


section
/-! PROOF. RELEASE and RECEIPT (O48). -/

namespace Sys2Proof.Machine

variable {s t u : State} {key label : Nat} {h : Hold}

/-! ## A hold removed -/

/-- The named set once a label is released (R144). -/
def namedWithout (label : Nat) (s : State) : List NamedRecord :=
  if s.dep.state = some .calling then s.dep.named.filter (fun n => n.label != label) else s.dep.named

theorem unname_eq (label : Nat) (s : State) : unname label s = setDep { s.dep with named := namedWithout label s } s := by
  unfold unname namedWithout
  split <;> rfl

/-- The state without a label's hold and its place in the named set (R129, R144). -/
def unheld (label : Nat) (s : State) : State := { s with
  store := { s.store with holds := s.store.holds.filter (fun x => x.label != label) }
  dep := { s.dep with named := namedWithout label s } }

/-- The removal with the beacon it may bring (R121). -/
def announceUnheld (label : Nat) (s : State) : State := announce s (unheld label s)

theorem removeHold_unname (label : Nat) (s : State) : removeHold label (unname label s) = announceUnheld label s := by
  rw [unname_eq]
  rfl

theorem announceUnheld_blocks (label : Nat) (s : State) : announceUnheld label s = { unheld label s with
    link := (announceUnheld label s).link, dir := (announceUnheld label s).dir } := by
  refine state_eq ?_ ?_ ?_ ?_ ?_ ?_ ?_ ?_ ?_ ?_ rfl rfl ?_ ?_ ?_ ?_ ?_ <;> simp [announceUnheld]

theorem announceUnheld_keep (label : Nat) (s : State) : keepClosing (announceUnheld label s) = keepClosing s :=
  (keepClosing_of_settle (keepSettle_of_beacon (announce_keep s (unheld label s)))).trans rfl

theorem find_hold_eq_none : s.store.holds.find? (fun x => x.label == label) = none ↔ inHolds s label = false := by
  simp [inHolds, List.find?_eq_none]

theorem takeRelease_held {m : ReleaseMsg} (ht : m.target = s.straps.bay)
    (hf : s.store.holds.find? (fun x => x.label == m.label) = some h) (ho : h.origin = m.origin) :
    takeRelease m s = holdGone (settle (announceUnheld m.label s)) := by
  rw [takeRelease, if_pos ht, hf, ← removeHold_unname]
  exact if_pos ho

theorem takeRelease_ignored {m : ReleaseMsg} (hno : m.target ≠ s.straps.bay
    ∨ (∃ x ∈ s.store.holds.find? (fun y : Hold => y.label == m.label), x.origin ≠ m.origin)
    ∨ (inHolds s m.label = false ∧ inLane s m.label = false ∧ onDeck s m.label = false)) : takeRelease m s = s := by
  unfold takeRelease
  split
  next ht =>
    rcases hno with h | ⟨x, hx, ho⟩ | ⟨hh, hl, hd⟩
    · exact absurd ht h
    · rw [Option.mem_def.1 hx]
      exact if_neg ho
    · rw [find_hold_eq_none.2 hh, hl, hd]
      rfl
  next => rfl

theorem takeRelease_late {m : ReleaseMsg} (ht : m.target = s.straps.bay) (hh : inHolds s m.label = false)
    (hin : inLane s m.label = true ∨ onDeck s m.label = true) :
    takeRelease m s = raise .lateRelease m.label m.origin s := by
  rw [takeRelease, if_pos ht, find_hold_eq_none.2 hh]
  exact if_pos (by simpa using hin)

theorem exec_release {m : ReleaseMsg} (h : Hears key (.release m) s) :
    exec (.release key m) s = .next (takeRelease m (heardIn s)) := exec_heard h

/-! ## The door stays open, or calls -/

theorem announce_line (a s : State) : (announce a s).link.line = s.link.line := by
  unfold announce
  split
  · exact beaconedChange_line s
  · rfl

theorem announce_queue_length (a s : State) : (announce a s).link.queue.length ≤ s.link.queue.length + 1 := by
  unfold announce
  split
  · exact beaconedChange_queue_length s
  · exact Nat.le_succ _

theorem eq_of_keepClosing (h : keepClosing t = keepClosing s) : t = { s with
    store := t.store, dep := t.dep, notes := t.notes, dir := t.dir
    link := { s.link with queue := t.link.queue, beaconWaiting := t.link.beaconWaiting } } := by
  have hlink : ({ t.link with queue := [], beaconWaiting := false } : Link) =
      { s.link with queue := [], beaconWaiting := false } := congrArg State.link h
  have hlink' : t.link = { s.link with queue := t.link.queue, beaconWaiting := t.link.beaconWaiting } :=
    (congrArg (fun l : Link => { l with queue := t.link.queue, beaconWaiting := t.link.beaconWaiting }) hlink :)
  rw [← hlink']
  exact (congrArg (fun y : State => { y with
    store := t.store, dep := t.dep, notes := t.notes, dir := t.dir, link := t.link }) h :)

theorem holdGone_idle (h : s.dep.state ≠ some .waiting ∨ s.store.holds ≠ []) : holdGone s = s := by
  refine if_neg ?_
  rintro ⟨hw, hn⟩
  exact h.elim (· hw) (· hn)

/-- A hold removed where the door neither closes nor calls (R121, R129, R139). -/
theorem release_settles (key : Nat) (m : ReleaseMsg) (s : State) (hd : Hold) (h : Hears key (.release m) s)
    (ht : m.target = s.straps.bay) (hf : s.store.holds.find? (fun x => x.label == m.label) = some hd)
    (ho : hd.origin = m.origin)
    (hw : s.dep.state ≠ some .waiting ∨ s.store.holds.filter (fun x => x.label != m.label) ≠ []) (hno : NoAutoclose s) :
    ∃ t, exec (.release key m) s = .next t
      ∧ t.store = { s.store with holds := s.store.holds.filter (fun x => x.label != m.label) }
      ∧ t.dep.named = (if s.dep.state = some .calling then s.dep.named.filter (fun n => n.label != m.label)
          else s.dep.named)
      ∧ t.dep = { s.dep with named := t.dep.named, ready := readyNow t, autoWas := autocloseNow t }
      ∧ BeaconIf ((contentNow t).free != (contentNow s).free && (contentNow t).free != s.dir.last.free)
          { s with link := heardLink s } t
      ∧ (Settled s t)
      ∧ t = { s with store := t.store, dep := t.dep, notes := t.notes, dir := t.dir, link := t.link } := by
  have hexec := (exec_release h).trans
    (congrArg Host.Outcome.next (takeRelease_held (s := heardIn s) ht hf ho))
  have hblocks := announceUnheld_blocks m.label (heardIn s)
  have hbeacon (t : State) := announce_beacon (s := heardIn s) (t := t) (y := heardIn s) (x := unheld m.label (heardIn s))
    rfl rfl rfl rfl rfl
  change ∀ t : State, t.link = (announceUnheld m.label (heardIn s)).link →
    t.dir = (announceUnheld m.label (heardIn s)).dir → _ at hbeacon
  generalize announceUnheld m.label (heardIn s) = w at hexec hblocks hbeacon
  generalize w.link = l, w.dir = d at hblocks hbeacon
  subst hblocks
  rw [settle_eq (s := { unheld m.label (heardIn s) with link := l, dir := d }) hno, holdGone_idle hw] at hexec
  exact ⟨_, hexec, rfl, rfl, rfl, hbeacon _ rfl rfl ⟨rfl, rfl, rfl, rfl, rfl⟩, ⟨rfl, rfl, rfl⟩, rfl⟩

/-- The removal that makes the bay READY with O at E or above starts the call where it can (R141, R142). -/
theorem release_calls (key : Nat) (m : ReleaseMsg) (s : State) (d : Docking) (hd : Hold) (h : Hears key (.release m) s)
    (ht : m.target = s.straps.bay) (hdock : s.docking = some d) (hholds : s.store.holds = [hd]) (hlabel : hd.label = m.label)
    (ho : hd.origin = m.origin) (hauto : s.straps.autoClose = true) (hopen : s.dep.state = some .openBay)
    (hwas : s.dep.autoWas = false) (hlane : s.lane = []) (howing : s.store.owing = [])
    (hE : d.expected ≤ outboundCount s.deck) (hrun : s.run.mode = none) (hline : s.link.line = .joined ∨ s.time.m = 0)
    (hq : s.link.queue.length < 15) :
    ∃ t, exec (.release key m) s = .next t
      ∧ t.store = { s.store with holds := [] } ∧ t.dep = calledDep s
      ∧ (∃ f ∈ t.link.queue, f.body = .call { bay := s.straps.bay, number := (s.dep.callNumber + 1) % 256 })
      ∧ t.notes = (if s.dep.ready = true then s.notes else (raise .ready (outboundCount s.deck) d.expected s).notes)
      ∧ t = { s with
          store := t.store, dep := t.dep, notes := t.notes, dir := t.dir,
          link := { (heardLink s) with queue := t.link.queue, beaconWaiting := t.link.beaconWaiting } } := by
  have hf : s.store.holds.find? (fun x => x.label == m.label) = some hd := by simp [hholds, hlabel]
  have hexec := (exec_release h).trans
    (congrArg Host.Outcome.next (takeRelease_held (s := heardIn s) ht hf ho))
  have hnone : (unheld m.label (heardIn s)).store.holds = [] := by simp [unheld, heardIn, hholds, hlabel]
  have hnamed : namedWithout m.label (heardIn s) = s.dep.named := if_neg (by simp [heardIn, hopen])
  have hblocks := announceUnheld_blocks m.label (heardIn s)
  have hroom : hasRoom 0 (announceUnheld m.label (heardIn s)).link.queue = true :=
    hasRoom_call (q := s.link.queue) hq (announce_queue_length (heardIn s) (unheld m.label (heardIn s)))
  have hlineAfter : (announceUnheld m.label (heardIn s)).link.line = s.link.line :=
    announce_line (heardIn s) (unheld m.label (heardIn s))
  have hkeep := announceUnheld_keep m.label (heardIn s)
  generalize announceUnheld m.label (heardIn s) = w at hexec hblocks hroom hlineAfter hkeep
  have hdep : w.dep = s.dep := by
    rw [hblocks]
    exact congrArg (fun l => { s.dep with named := l }) hnamed
  have hstore : w.store = { s.store with holds := [] } := by
    rw [hblocks]
    exact congrArg (fun l => { s.store with holds := l }) hnone
  have hnotes : w.notes = s.notes := by rw [hblocks]; rfl
  have hstraps : w.straps = s.straps := (straps_of_keepClosing hkeep :)
  have hrunAfter : w.run = s.run := (run_of_keepClosing hkeep :)
  have htime : w.time = s.time := (time_of_keepClosing hkeep :)
  have hdeck : w.deck = s.deck := (deck_of_keepClosing hkeep :)
  have hload : expectedLoad w = d.expected := by
    rw [expectedLoad, docking_of_keepClosing hkeep]
    simp [heardIn, hdock]
  have hready : readyNow w = true := by
    rw [readyNow, hdep, hblocks, hnone]
    simp [unheld, heardIn, hopen, howing, hlane]
  have hcan : canStart w = true := by
    rw [canStart_iff, hlineAfter]
    exact ⟨(congrArg RunCounter.mode hrunAfter).trans hrun, hroom, htime ▸ hline⟩
  have hcalls : settle w = startCall (readied w) :=
    settle_starts (hstraps ▸ hauto) hready (by rw [hload, hdeck]; exact hE) (hdep ▸ hwas) hcan
  have hcalling : (startCall (readied w)).dep.state = some .calling := by
    rw [startCall_dep]
    rfl
  rw [hcalls, holdGone_idle (.inl (by rw [hcalling]; decide))] at hexec
  refine ⟨_, hexec, ?_, ?_, ?_, ?_, ?_⟩
  · rw [startCall_store]
    exact hstore
  · rw [startCall_dep]
    simp only [calledDep, readied, hdep]
  · exact exists_call_startCall hroom hstraps (by rw [← hdep]; rfl)
  · have hraise := raise_notes_congr .ready (outboundCount w.deck) (expectedLoad w) hnotes htime
    rw [startCall_notes, readied, checkReady_eq, hready, hdep, hnotes, hraise, hload, hdeck]
    cases s.dep.ready <;> rfl
  · exact eq_of_keepClosing ((keepClosing_of_settle (startCall_keep (readied w))).trans hkeep)

/-! ## The door closes -/

/-- With no hold to void, CLOSED is the only notice of entering CLOSED (R149). -/
theorem enterClosed_notes (c : CloseCause) (h : s.store.holds = []) :
    (enterClosed c s).notes = (raise .closed c.code s.dep.callNumber s).notes := by
  have hvoid : voidHolds (fun _ => true) s = s := by
    unfold voidHolds
    rw [h]
    rfl
  obtain ⟨hnumber, hnotes, htime⟩ : (askDone s).dep.callNumber = s.dep.callNumber ∧ (askDone s).notes = s.notes
      ∧ (askDone s).time = s.time := by
    rcases askDone_cases s with e | ⟨f, -, e⟩ <;> rw [e] <;> exact ⟨rfl, rfl, rfl⟩
  rw [enterClosed_eq, setDep_notes, hvoid, hnumber]
  exact raise_notes_congr _ _ _ ((beaconedChange_notes _).trans hnotes) ((beaconedChange_time _).trans htime)

/-- The last hold removed in WAITING closes the door (R121, R148, R149). -/
theorem release_closes (key : Nat) (m : ReleaseMsg) (s : State) (hd : Hold) (h : Hears key (.release m) s)
    (ht : m.target = s.straps.bay) (hf : s.store.holds.find? (fun x => x.label == m.label) = some hd)
    (ho : hd.origin = m.origin) (hwait : s.dep.state = some .waiting)
    (hlast : s.store.holds.filter (fun x => x.label != m.label) = []) :
    ∃ t, exec (.release key m) s = .next t
      ∧ t.store = { s.store with holds := [] }
      ∧ t.dep = { s.dep with
          state := some .closed, lamp := true, window := none, allowance := none, named := [], doneOwed := t.dep.doneOwed,
          ready := false, autoWas := false }
      ∧ (t.dep.doneOwed = true ∨ ∃ f ∈ t.link.queue, f.body = .done { bay := s.straps.bay })
      ∧ t.notes = (raise .closed 2 s.dep.callNumber s).notes
      ∧ t = { s with
          store := t.store, dep := t.dep, notes := t.notes, dir := t.dir,
          link := { (heardLink s) with queue := t.link.queue, beaconWaiting := t.link.beaconWaiting } } := by
  have hexec := (exec_release h).trans
    (congrArg Host.Outcome.next (takeRelease_held (s := heardIn s) ht hf ho))
  have hblocks := announceUnheld_blocks m.label (heardIn s)
  have hkeep := announceUnheld_keep m.label (heardIn s)
  generalize announceUnheld m.label (heardIn s) = w at hexec hblocks hkeep
  generalize w.link = l, w.dir = d at hblocks
  subst hblocks
  have hnot : readyNow { unheld m.label (heardIn s) with link := l, dir := d } = false := by
    simp [readyNow, unheld, heardIn, hwait]
  rw [settle_not_ready hnot, holdGone, if_pos ⟨hwait, hlast⟩] at hexec
  have hkeep' := (enterClosed_keep .waitEmpty (setDep { s.dep with
    named := namedWithout m.label (heardIn s), ready := false, autoWas := false }
    { unheld m.label (heardIn s) with link := l, dir := d })).trans
      ((keepClosing_of_settle (setDep_keep _ _)).trans hkeep)
  refine ⟨_, hexec, ?_, enterClosed_dep _ _, enterClosed_done _ _, ?_, eq_of_keepClosing hkeep'⟩
  · rw [enterClosed_store]
    rfl
  · rw [enterClosed_notes _ hlast]
    exact raise_notes_congr _ _ _ rfl rfl

/-! ## RECEIPT -/

theorem exec_receipt {m : ReceiptMsg} (h : Hears key (.receipt m) s) :
    exec (.receipt key m) s = .next (takeReceipt m (heardIn s)) := exec_heard h

theorem removeEntry_table (label : Nat) (s : State) :
    (removeEntry label s).table = s.table.filter (fun e => e.label != label) := tidyGroups_table _

/-- An entry removed stands in no group (R100). -/
theorem removeEntry_ungrouped (label : Nat) (s : State) : grouped (removeEntry label s).asm label = false := by
  rw [Bool.eq_false_iff]
  intro hg
  obtain ⟨T, hT⟩ := grouped_iff.1 hg
  rcases tidyGroups_member hT with hm | ⟨e, he, hl, -⟩
  · exact (leaveGroups_member hm).2 rfl
  · have he : e ∈ s.table.filter (fun e => e.label != label) := he
    simpa [hl] using (List.mem_filter.1 he).2

theorem takeReceipt_known {m : ReceiptMsg} (ho : m.origin = s.straps.bay ∨ m.origin = 0) (hin : inTable s m.label = true) :
    takeReceipt m s = raise .delivered m.label m.bay (removeEntry m.label s) := by
  rw [takeReceipt, if_pos ho, if_pos hin]

theorem takeReceipt_stray {m : ReceiptMsg} (hin : inTable s m.label = false) :
    takeReceipt m s = if m.origin = s.straps.bay then raise .strayReceipt m.label m.bay s else s := by
  unfold takeReceipt
  rw [hin]
  by_cases ho : m.origin = s.straps.bay
  · simp [ho]
  · simp [ho]

theorem receipt_delivers (key : Nat) (m : ReceiptMsg) (s : State) (h : Hears key (.receipt m) s)
    (ho : m.origin = s.straps.bay ∨ m.origin = 0) (hin : inTable s m.label = true) :
    ∃ t, exec (.receipt key m) s = .next t
      ∧ t.table = s.table.filter (fun x => x.label != m.label) ∧ grouped t.asm m.label = false
      ∧ t.notes = (raise .delivered m.label m.bay s).notes
      ∧ t = { s with table := t.table, asm := t.asm, notes := t.notes, link := { (heardLink s) with queue := t.link.queue } } := by
  have hexec := (exec_receipt h).trans (congrArg Host.Outcome.next (takeReceipt_known (s := heardIn s) ho hin))
  have hkeep : keepTable (raise .delivered m.label m.bay (removeEntry m.label (heardIn s))) = keepTable (heardIn s) :=
    (keepTable_of_notes (raise_keep _ _ _ _)).trans (removeEntry_keep m.label (heardIn s))
  refine ⟨_, hexec, removeEntry_table m.label (heardIn s), removeEntry_ungrouped m.label (heardIn s), ?_,
    eq_of_keepTable hkeep⟩
  exact raise_notes_congr _ _ _ (tidyGroups_notes _) (tidyGroups_time _)

/-- Settles O48: a hold removed leaves the door as it is, closes it, or starts its call, and a RECEIPT removes an entry. -/
theorem releaseAndReceiptRetire : Obligations.ReleaseAndReceiptRetire := by
  refine ⟨release_settles, release_closes, release_calls, fun key m s h hno => ?_, fun key m s h ht hh hin => ?_,
    receipt_delivers, fun key m s h hin => ?_⟩
  · exact (exec_release h).trans (congrArg Host.Outcome.next (takeRelease_ignored (s := heardIn s) hno))
  · exact (exec_release h).trans (congrArg Host.Outcome.next (takeRelease_late (s := heardIn s) ht hh hin))
  · refine ((exec_receipt h).trans (congrArg Host.Outcome.next (takeReceipt_stray (s := heardIn s) hin))).trans
      (congrArg Host.Outcome.next ?_)
    by_cases ho : m.origin = s.straps.bay
    · rw [if_pos (show m.origin = (heardIn s).straps.bay from ho), if_pos ho]
      rfl
    · rw [if_neg (show ¬ m.origin = (heardIn s).straps.bay from ho), if_neg ho]
      rfl

end Sys2Proof.Machine
end


section
/-! SUPPORT. A sound BEACON written into the directory (R87, R88): the entry, the change count and the stamps. -/

namespace Sys2Proof.Machine

variable {s t u : State} {m : BeaconMsg} {b : BayState} {d : Option DepState} {e : DirEntry}

/-! ## An entry put in its place -/

/-- The entry put in is the one found for its bay. -/
theorem find_putEntry (e : DirEntry) (l : List DirEntry) : (putEntry e l).find? (fun x => x.bay == e.bay) = some e := by
  induction l with
  | nil => simp [putEntry]
  | cons x l ih =>
    unfold putEntry
    split
    · simp
    split
    · simp
    · next hne => rw [List.find?_cons_of_neg (by simpa using Ne.symm hne), ih]

/-- The entries of the other bays stay. -/
theorem putEntry_others (e : DirEntry) (l : List DirEntry) :
    (putEntry e l).filter (fun x => x.bay != e.bay) = l.filter (fun x => x.bay != e.bay) := by
  induction l with
  | nil => simp [putEntry]
  | cons x l ih =>
    unfold putEntry
    split
    · simp
    split
    · next heq => simp [heq]
    · rw [List.filter_cons, List.filter_cons, ih]

theorem others_of_absent (h : dirEntry s m.bay = none) : s.dir.entries.filter (fun x => x.bay != m.bay) = s.dir.entries := by
  refine List.filter_eq_self.2 fun x hx => ?_
  simpa using List.find?_eq_none.1 h x hx

/-! ## The change count -/

theorem nextCount_eq (n : Nat) : nextCount n = if n < 4294967295 then n + 1 else 0 := by
  unfold nextCount Config.changeLimit
  split <;> split <;> omega

theorem advanceCount_changes (s : State) : (advanceCount s).dir.changes = nextCount s.dir.changes := by
  unfold advanceCount
  dsimp only
  split <;> rfl

theorem advanceCount_keep (s : State) : keepTable (advanceCount s) = keepTable (setDir (advanceCount s).dir s) := by
  unfold advanceCount
  dsimp only
  split <;> rfl

/-- Below the last value of the change count no stamp is lost (R87). -/
theorem advanceCount_below (h : s.dir.changes < 4294967295) :
    advanceCount s = setDir { s.dir with changes := s.dir.changes + 1 } s := by
  have hn : nextCount s.dir.changes = s.dir.changes + 1 := by rw [nextCount_eq, if_pos h]
  unfold advanceCount
  dsimp only
  rw [hn, if_neg (Nat.succ_ne_zero _)]

/-! ## The beacon written -/

/-- The directory with a beacon's entry (R88): a new or a changed entry takes the next change count as its stamp. -/
def written (m : BeaconMsg) (b : BayState) (d : Option DepState) (s : State) : State :=
  match dirEntry s m.bay with
  | none => storeEntry (entryOfBeacon m b d (advanceCount s).dir.changes none) (advanceCount s)
  | some e =>
    if entryChanged e m b d then
      storeEntry (entryOfBeacon m b d (advanceCount s).dir.changes e.unreachable) (advanceCount s)
    else storeEntry (entryOfBeacon m b d e.stamp e.unreachable) s

theorem noteBeacon_eq (m : BeaconMsg) (b : BayState) (d : Option DepState) (s : State) : noteBeacon m b d s =
    beaconEvent m b d (dirEntry s m.bay) (parkedLabels s) (written m b d s) := by
  unfold noteBeacon written
  cases dirEntry s m.bay with
  | none => rfl
  | some e =>
    dsimp only
    split <;> rfl

theorem written_new (h : dirEntry s m.bay = none) : written m b d s =
    storeEntry (entryOfBeacon m b d (nextCount s.dir.changes) none) (advanceCount s) := by
  rw [written, h, ← advanceCount_changes]

theorem written_changed (h : dirEntry s m.bay = some e) (hc : entryChanged e m b d = true) : written m b d s =
    storeEntry (entryOfBeacon m b d (nextCount s.dir.changes) e.unreachable) (advanceCount s) := by
  rw [written, h, ← advanceCount_changes]
  exact if_pos hc

theorem written_same (h : dirEntry s m.bay = some e) (hc : entryChanged e m b d = false) : written m b d s =
    storeEntry (entryOfBeacon m b d e.stamp e.unreachable) s := by
  rw [written, h]
  exact if_neg (by simp [hc])

/-- Whatever its stamp and its mark, one entry of the bay is put in the directory (R88). -/
theorem written_entries (m : BeaconMsg) (b : BayState) (d : Option DepState) (s : State) : ∃ stamp mark,
    (written m b d s).dir.entries = putEntry (entryOfBeacon m b d stamp mark) s.dir.entries := by
  have hstore (stamp : Nat) (mark : Option Nat) : (storeEntry (entryOfBeacon m b d stamp mark) (advanceCount s)).dir.entries
      = putEntry (entryOfBeacon m b d stamp mark) s.dir.entries := by
    rw [storeEntry, setDir_dir, advanceCount_entries]
  cases h : dirEntry s m.bay with
  | none => exact ⟨_, _, by rw [written_new h, hstore]⟩
  | some e =>
    cases hc : entryChanged e m b d with
    | true => exact ⟨_, _, by rw [written_changed h hc, hstore]⟩
    | false => exact ⟨_, _, by rw [written_same h hc]; rfl⟩

theorem written_others (m : BeaconMsg) (b : BayState) (d : Option DepState) (s : State) :
    (written m b d s).dir.entries.filter (fun x => x.bay != m.bay) = s.dir.entries.filter (fun x => x.bay != m.bay) := by
  obtain ⟨stamp, mark, h⟩ := written_entries m b d s
  rw [h]
  exact putEntry_others (entryOfBeacon m b d stamp mark) s.dir.entries

theorem written_sorted (hs : s.dir.entries.Pairwise (fun x y => x.bay < y.bay)) :
    (written m b d s).dir.entries.Pairwise (fun x y => x.bay < y.bay) := by
  obtain ⟨stamp, mark, h⟩ := written_entries m b d s
  rw [h]
  exact putEntry_sorted hs

/-- The bay's entry shows what the beacon shows (R88). -/
theorem written_bayState (hs : s.dir.entries.Pairwise (fun x y => x.bay < y.bay)) {x : DirEntry}
    (hx : x ∈ (written m b d s).dir.entries) (hb : x.bay = m.bay) : x.bayState = b := by
  have hfound := dirEntry_of_mem (written_sorted hs) hx
  obtain ⟨stamp, mark, h⟩ := written_entries m b d s
  rw [dirEntry, h, hb] at hfound
  have := Option.some.inj ((find_putEntry (entryOfBeacon m b d stamp mark) s.dir.entries).symm.trans hfound)
  rw [← this]
  rfl

theorem written_keep (m : BeaconMsg) (b : BayState) (d : Option DepState) (s : State) :
    keepTable (written m b d s) = keepTable (setDir (written m b d s).dir s) := by
  have hstore (e : DirEntry) : keepTable (storeEntry e (advanceCount s)) =
      keepTable (setDir (storeEntry e (advanceCount s)).dir s) :=
    (congrArg (fun x : State => { x with dir := (storeEntry e (advanceCount s)).dir }) (advanceCount_keep s) :)
  unfold written
  split
  · exact hstore _
  · split
    · exact hstore _
    · rfl

/-- Below the last value of the change count a beacon writes the directory alone (R87, R88). -/
theorem written_below (h : s.dir.changes < 4294967295) : written m b d s = setDir (written m b d s).dir s := by
  unfold written
  rw [advanceCount_below h]
  split
  · rfl
  · split <;> rfl

end Sys2Proof.Machine
end


section
/-! PROOF. BEACON (O45). -/

namespace Sys2Proof.Machine

variable {s t u : State} {m : BeaconMsg} {b : BayState} {d : Option DepState} {e : DirEntry} {x : TransferEntry} {key : Nat}

/-! ## What a beacon is -/

theorem entryChanged_iff : entryChanged e m b d = true ↔ e.bayState ≠ b ∨ e.departure ≠ d ∨ e.drops ≠ m.drops
    ∨ e.free ≠ m.free ∨ significant e.urgency m.urgency = true := by
  simp [entryChanged, or_assoc]

theorem poorer_iff : poorer e m d = true ↔ e.drops ≠ m.drops ∨ d ≠ some .openBay ∨ m.free = 0 := by
  simp [poorer, or_assoc]

/-- The bay state that a beacon names, by its code (Log 15). -/
theorem vacant_iff (h : beaconStates m = some (b, d)) : m.bayCode = BayState.vacant.code ↔ b = .vacant := by
  have hcode : BayState.ofCode m.bayCode = some b := by
    unfold beaconStates at h
    split at h
    next hb _ =>
      cases h
      exact hb
    next => cases h
  rw [BayState.code]
  unfold BayState.ofCode at hcode
  split at hcode
  next h1 => cases hcode; simp [h1]
  next h2 => cases hcode; simp [h2]
  next => cases hcode

theorem beaconSeen_sound (h : beaconStates m = some (b, d)) (hs : beaconSound m b d = true) :
    beaconSeen m s = noteBeacon m b d s := by
  rw [beaconSeen, h]
  exact if_pos hs

theorem takeBeacon_docked (h : beaconStates m = some (.docked, d)) (hs : beaconSound m .docked d = true) :
    takeBeacon m s = noteBeacon m .docked d s := by
  rw [takeBeacon_eq, if_neg (mt (vacant_iff h).1 (by decide)), beaconSeen_sound h hs]

theorem takeBeacon_vacant (h : beaconStates m = some (.vacant, d)) (hs : beaconSound m .vacant d = true) :
    takeBeacon m s = forgetOrigin m.bay (noteBeacon m .vacant d s) := by
  rw [takeBeacon_eq, if_pos ((vacant_iff h).2 rfl), beaconSeen_sound h hs]

theorem takeBeacon_unsound (hv : m.bayCode ≠ 1) (h : ∀ x ∈ beaconStates m, beaconSound m x.1 x.2 = false) :
    takeBeacon m s = s := by
  rw [takeBeacon_eq, if_neg (show ¬ m.bayCode = BayState.vacant.code from hv), beaconSeen]
  split
  next b d hb => exact if_neg (by simp [h (b, d) hb])
  next => rfl

theorem exec_beacon (h : Hears key (.beacon m) s) : exec (.beacon key m) s = .next (takeBeacon m (heardIn s)) :=
  exec_heard h

/-! ## The directory -/

theorem beaconEvent_keep (m : BeaconMsg) (b : BayState) (d : Option DepState) (old : Option DirEntry) (parked : List Nat)
    (s : State) : keepTable (beaconEvent m b d old parked s) = keepTable s := by
  unfold beaconEvent
  split
  · split
    · exact applyDone_keep _ _ s
    · exact reselect_keep _ _ s
  · split
    · exact applyDone_keep _ _ s
    · split
      · exact reselect_keep _ _ s
      · rfl

/-- Whatever the beacon's event brings, the directory's entries and its change count are those written (R88). -/
theorem takeBeacon_shelf (h : beaconStates m = some (b, d)) (hs : beaconSound m b d = true) :
    (takeBeacon m s).dir.entries = (written m b d s).dir.entries
      ∧ (takeBeacon m s).dir.changes = (written m b d s).dir.changes := by
  have hdir : (noteBeacon m b d s).dir = (written m b d s).dir := by
    rw [noteBeacon_eq]
    exact dir_of_keepTable (beaconEvent_keep _ _ _ _ _ _)
  rw [← hdir]
  cases b with
  | docked => rw [takeBeacon_docked h hs]; exact ⟨rfl, rfl⟩
  | vacant =>
    rw [takeBeacon_vacant h hs, forgetOrigin_eq]
    have hkeep := settle_keep (setStore (forgotten m.bay (noteBeacon m .vacant d s).store) (noteBeacon m .vacant d s))
    exact ⟨(entries_of_keepSettle hkeep :), (changes_of_keepSettle hkeep :)⟩

/-- A DOCKED bay's beacon touches the directory, the table, the groups, the notices and the queue (R91, R92). -/
theorem takeBeacon_docked_blocks (h : beaconStates m = some (.docked, d)) (hs : beaconSound m .docked d = true) :
    takeBeacon m s = { s with
      dir := (takeBeacon m s).dir, table := (takeBeacon m s).table, asm := (takeBeacon m s).asm
      notes := (takeBeacon m s).notes, link := { s.link with queue := (takeBeacon m s).link.queue } } := by
  rw [takeBeacon_docked h hs, noteBeacon_eq]
  exact eq_of_keepTable_dir ((beaconEvent_keep _ _ _ _ _ _).trans (written_keep m .docked d s))

/-! ## The entries re-evaluated -/

/-- The entries of the table as the statements' words have them, after a selection of those in a list (R92). -/
theorem reselected_written {back : List Nat} (hs : TableDistinct s) (hsorted : s.dir.entries.Pairwise (fun x y => x.bay < y.bay))
    (hbelow : s.dir.changes < 4294967295) (hx : x ∈ s.table) :
    (x.label ∈ back ∨ x.state = .parked → Selected x (reselect back (parkedLabels s) (written m b d s)))
      ∧ (¬ (x.label ∈ back ∨ x.state = .parked) → x ∈ (reselect back (parkedLabels s) (written m b d s)).table) := by
  have hsorted := written_sorted (m := m) (b := b) (d := d) hsorted
  have hw := written_below (m := m) (b := b) (d := d) hbelow
  generalize written m b d s = w at hsorted hw ⊢
  have htable : w.table = s.table := by rw [hw]; rfl
  have hparked {z : TransferEntry} (hz : z ∈ s.table) : z.label ∈ parkedLabels s ↔ z.state = .parked :=
    (mem_labelsWhere hs hz).trans beq_iff_eq
  have hmem : x.label ∈ back ++ parkedLabels s ↔ x.label ∈ back ∨ x.state = .parked := by
    rw [List.mem_append, hparked hx]
  rw [← hmem]
  refine ⟨fun hl => reselect_selected ?_ hsorted ?_ (htable ▸ hx) hl, fun hl => mem_reselect_of_notMem (htable ▸ hx) hl⟩
  · rw [TableDistinct, htable]
    exact hs
  · rw [htable]
    exact fun z hz => (hparked hz).1

theorem takeBeacon_docked_new (h : beaconStates m = some (.docked, d)) (hs : beaconSound m .docked d = true)
    (hold : dirEntry s m.bay = none) : takeBeacon m s = reselect [] (parkedLabels s) (written m .docked d s) := by
  rw [takeBeacon_docked h hs, noteBeacon_eq, hold]
  rfl

theorem takeBeacon_docked_changed (h : beaconStates m = some (.docked, d)) (hs : beaconSound m .docked d = true)
    (hold : dirEntry s m.bay = some e) (hc : entryChanged e m .docked d = true) : takeBeacon m s =
      reselect (if poorer e m d then labelsWhere (queuedTo m.bay) (written m .docked d s) else []) (parkedLabels s)
        (written m .docked d s) := by
  rw [takeBeacon_docked h hs, noteBeacon_eq, hold]
  exact if_pos hc

theorem takeBeacon_docked_same (h : beaconStates m = some (.docked, d)) (hs : beaconSound m .docked d = true)
    (hold : dirEntry s m.bay = some e) (hc : entryChanged e m .docked d = false) :
    takeBeacon m s = written m .docked d s := by
  rw [takeBeacon_docked h hs, noteBeacon_eq, hold]
  exact if_neg (by simp [hc])

/-! ## The statement's clauses -/

/-- A bay with no entry gets one, with the next change count as its stamp and no unreachable mark (R88). -/
theorem beacon_enters (key : Nat) (m : BeaconMsg) (s : State) (b : BayState) (d : Option DepState)
    (h : Hears key (.beacon m) s) (hst : beaconStates m = some (b, d)) (hsound : beaconSound m b d = true)
    (hsorted : s.dir.entries.Pairwise (fun x y => x.bay < y.bay)) (hold : dirEntry s m.bay = none) :
    ∃ t, exec (.beacon key m) s = .next t
      ∧ t.dir.changes = (if s.dir.changes < 4294967295 then s.dir.changes + 1 else 0)
      ∧ dirEntry t m.bay = some ⟨m.bay, b, d, m.drops, m.minutes, 0, m.urgency, m.free, m.interval, t.dir.changes, none⟩
      ∧ t.dir.entries.filter (fun x => x.bay != m.bay) = s.dir.entries
      ∧ (b = .docked → s.dir.changes < 4294967295 → (s.table.map (·.label)).Nodup →
          ∀ x ∈ s.table, if x.state = .parked then Selected x t else x ∈ t.table)
      ∧ (b = .docked → t = { s with
          dir := t.dir, table := t.table, asm := t.asm, notes := t.notes,
          link := { (heardLink s) with queue := t.link.queue } }) := by
  have hold : dirEntry (heardIn s) m.bay = none := hold
  obtain ⟨hentries, hchanges⟩ := takeBeacon_shelf (s := heardIn s) hst hsound
  have hothers := written_others m b d (heardIn s)
  rw [← hentries, others_of_absent hold] at hothers
  have hput : (written m b d (heardIn s)).dir.entries =
      putEntry (entryOfBeacon m b d (nextCount s.dir.changes) none) s.dir.entries := by
    rw [written_new hold, storeEntry, setDir_dir, advanceCount_entries]
    rfl
  have hcount : (takeBeacon m (heardIn s)).dir.changes = nextCount s.dir.changes := by
    rw [hchanges, written_new hold]
    exact advanceCount_changes (heardIn s)
  refine ⟨_, exec_beacon h, hcount.trans (nextCount_eq _), ?_, hothers, fun hb hbelow hs x hx => ?_, fun hb => ?_⟩
  · rw [dirEntry, hentries, hput, hcount]
    exact find_putEntry (entryOfBeacon m b d (nextCount s.dir.changes) none) s.dir.entries
  · subst hb
    have hsel := reselected_written (s := heardIn s) (m := m) (b := .docked) (d := d) (back := []) hs hsorted hbelow hx
    rw [takeBeacon_docked_new hst hsound hold]
    split
    next hp => exact hsel.1 (.inr hp)
    next hp => exact hsel.2 (not_or.2 ⟨List.not_mem_nil, hp⟩)
  · subst hb
    exact takeBeacon_docked_blocks hst hsound

/-- A bay's entry refreshed, with the next change count as its stamp where it is changed (R88). -/
theorem beacon_refreshes (key : Nat) (m : BeaconMsg) (s : State) (b : BayState) (d : Option DepState) (e : DirEntry)
    (h : Hears key (.beacon m) s) (hst : beaconStates m = some (b, d)) (hsound : beaconSound m b d = true)
    (hsorted : s.dir.entries.Pairwise (fun x y => x.bay < y.bay)) (hold : dirEntry s m.bay = some e) :
    ∃ t, exec (.beacon key m) s = .next t
      ∧ (if e.bayState ≠ b ∨ e.departure ≠ d ∨ e.drops ≠ m.drops ∨ e.free ≠ m.free ∨ significant e.urgency m.urgency = true
          then t.dir.changes = (if s.dir.changes < 4294967295 then s.dir.changes + 1 else 0)
            ∧ dirEntry t m.bay =
              some ⟨m.bay, b, d, m.drops, m.minutes, 0, m.urgency, m.free, m.interval, t.dir.changes, e.unreachable⟩
          else t.dir.changes = s.dir.changes
            ∧ dirEntry t m.bay =
              some ⟨m.bay, b, d, m.drops, m.minutes, 0, m.urgency, m.free, m.interval, e.stamp, e.unreachable⟩)
      ∧ t.dir.entries.filter (fun x => x.bay != m.bay) = s.dir.entries.filter (fun x => x.bay != m.bay)
      ∧ (b = .docked → s.dir.changes < 4294967295 → (s.table.map (·.label)).Nodup →
          if e.bayState ≠ b ∨ e.departure ≠ d ∨ e.drops ≠ m.drops ∨ e.free ≠ m.free ∨ significant e.urgency m.urgency = true
          then ∀ x ∈ s.table,
            if x.state = .parked
              ∨ (queuedTo m.bay x = true ∧ (e.drops ≠ m.drops ∨ d ≠ some .openBay ∨ m.free = 0))
            then Selected x t else x ∈ t.table
          else t.table = s.table ∧ t.asm = s.asm ∧ t.notes = s.notes ∧ t.link = heardLink s)
      ∧ (b = .docked → t = { s with
          dir := t.dir, table := t.table, asm := t.asm, notes := t.notes,
          link := { (heardLink s) with queue := t.link.queue } }) := by
  have hold : dirEntry (heardIn s) m.bay = some e := hold
  obtain ⟨hentries, hchanges⟩ := takeBeacon_shelf (s := heardIn s) hst hsound
  have hothers := written_others m b d (heardIn s)
  rw [← hentries] at hothers
  simp only [← entryChanged_iff, ← poorer_iff]
  refine ⟨_, exec_beacon h, ?_, hothers, fun hb hbelow hs => ?_, fun hb => ?_⟩
  · split
    next hc =>
      have hput : (written m b d (heardIn s)).dir.entries =
          putEntry (entryOfBeacon m b d (nextCount s.dir.changes) e.unreachable) s.dir.entries := by
        rw [written_changed hold hc, storeEntry, setDir_dir, advanceCount_entries]
        rfl
      have hcount : (takeBeacon m (heardIn s)).dir.changes = nextCount s.dir.changes := by
        rw [hchanges, written_changed hold hc]
        exact advanceCount_changes (heardIn s)
      refine ⟨hcount.trans (nextCount_eq _), ?_⟩
      rw [dirEntry, hentries, hput, hcount]
      exact find_putEntry (entryOfBeacon m b d (nextCount s.dir.changes) e.unreachable) s.dir.entries
    next hc =>
      rw [Bool.not_eq_true] at hc
      rw [hchanges, dirEntry, hentries, written_same hold hc]
      exact ⟨rfl, find_putEntry (entryOfBeacon m b d e.stamp e.unreachable) s.dir.entries⟩
  · subst hb
    split
    next hc =>
      intro x hx
      rw [takeBeacon_docked_changed hst hsound hold hc]
      have hsel (back : List Nat) :=
        reselected_written (s := heardIn s) (m := m) (b := .docked) (d := d) (back := back) hs hsorted hbelow hx
      have hlabels : labelsWhere (queuedTo m.bay) (written m .docked d (heardIn s)) = labelsWhere (queuedTo m.bay) s := by
        rw [written_below (s := heardIn s) hbelow]
        rfl
      have hmem : x.label ∈ (if poorer e m d = true then labelsWhere (queuedTo m.bay) s else []) ↔
          queuedTo m.bay x = true ∧ poorer e m d = true := by
        split
        next hpoor => rw [mem_labelsWhere hs hx, and_iff_left hpoor]
        next hpoor => simp [hpoor]
      rw [hlabels]
      split
      next hp => exact (hsel _).1 (hp.symm.imp_left hmem.2)
      next hp => exact (hsel _).2 fun hp' => hp (hp'.symm.imp_right hmem.1)
    next hc =>
      rw [Bool.not_eq_true] at hc
      rw [takeBeacon_docked_same hst hsound hold hc, written_below (s := heardIn s) hbelow]
      exact ⟨rfl, rfl, rfl, rfl⟩
  · subst hb
    exact takeBeacon_docked_blocks hst hsound

/-! ## A VACANT bay -/

/-- The entries re-evaluated beside those toward a VACANT bay are the PARKED ones, where its entry is new or changed. -/
theorem takeBeacon_vacant_applied (h : beaconStates m = some (.vacant, d)) (hs : beaconSound m .vacant d = true) :
    ∃ parked, (parked = parkedLabels s ∨ parked = []) ∧ takeBeacon m s =
      forgetOrigin m.bay (applyDone m.bay parked (written m .vacant d s)) := by
  rw [takeBeacon_vacant h hs, noteBeacon_eq]
  cases dirEntry s m.bay with
  | none => exact ⟨_, .inl rfl, rfl⟩
  | some e =>
    refine ⟨if entryChanged e m .vacant d then parkedLabels s else [], ?_, rfl⟩
    split
    · exact .inl rfl
    · exact .inr rfl

theorem beacon_vacates (key : Nat) (m : BeaconMsg) (s : State)
    (h : Hears key (.beacon m) s) (hst : beaconStates m = some (.vacant, none)) (hsound : beaconSound m .vacant none = true)
    (hsorted : s.dir.entries.Pairwise (fun x y => x.bay < y.bay)) (hs : (s.table.map (·.label)).Nodup)
    (hbelow : s.dir.changes < 4294967295) :
    ∃ t, exec (.beacon key m) s = .next t
      ∧ (∀ x ∈ s.table,
          if acceptedTo m.bay x = true then { x with state := .parked } ∈ t.table
          else if x.state.target = some m.bay then Selected x t
          else if x.state = .parked then x ∈ t.table ∨ Selected x t
          else x ∈ t.table)
      ∧ (∀ y ∈ t.table, y.state.target ≠ some m.bay)
      ∧ ((∃ x ∈ s.table, acceptedTo m.bay x = true) → hasFlag t.notes.summary .missed = true)
      ∧ t.store = { s.store with
          owing := s.store.owing.filter (fun b => b != m.bay), kept := s.store.kept.filter (fun k => k.bay != m.bay) }
      ∧ t.dep.ready = readyNow t
      ∧ t = { s with
          dir := t.dir, table := t.table, asm := t.asm, notes := t.notes, store := t.store, dep := t.dep,
          link := { (heardLink s) with queue := t.link.queue, beaconWaiting := t.link.beaconWaiting } } := by
  obtain ⟨parked, hparked, htake⟩ := takeBeacon_vacant_applied (s := heardIn s) hst hsound
  have hexec := (exec_beacon h).trans (congrArg Host.Outcome.next htake)
  have hvacant : ∀ x ∈ (written m .vacant none (heardIn s)).dir.entries, x.bay = m.bay → x.bayState = .vacant :=
    fun x => written_bayState (s := heardIn s) hsorted
  have hsortedw := written_sorted (m := m) (b := .vacant) (d := none) (s := heardIn s) hsorted
  have hw := written_below (m := m) (b := .vacant) (d := none) (s := heardIn s) hbelow
  generalize written m .vacant none (heardIn s) = w at hexec hvacant hsortedw hw
  generalize w.dir = dir at hw
  subst hw
  have hd := forgetOrigin_departed m.bay parked (setDir dir (heardIn s))
  generalize forgetOrigin m.bay (applyDone m.bay parked (setDir dir (heardIn s))) = t at hexec hd
  have hs : TableDistinct (setDir dir (heardIn s)) := hs
  have hlabel : ∀ x ∈ s.table, x.label ∈ parked → x.state = .parked := by
    intro x hx hl
    rcases hparked with rfl | rfl
    · exact beq_iff_eq.1 ((mem_labelsWhere hs hx).1 hl)
    · cases hl
  refine ⟨t, hexec, fun x hx => ?_, fun y hy ht => ?_, hd.missed, hd.store, hd.ready, hd.blocks⟩
  · have hother (hno : x.label ∉ parked) (ht : x.state.target ≠ some m.bay) : x ∈ t.table :=
      hd.same.table ▸ applyDone_other hs hx ht hno
    split
    next ha => exact hd.same.table ▸ applyDone_accepted hs hlabel hx ha
    next ha =>
      have hsel (hl : x.state.target = some m.bay ∨ x.label ∈ parked) : Selected x t :=
        hd.same.selected (applyDone_selected hs hlabel hsortedw hx (Bool.eq_false_iff.2 ha) hl)
      split
      next ht => exact hsel (.inl ht)
      next ht =>
        split
        next hp =>
          by_cases hl : x.label ∈ parked
          · exact .inr (hsel (.inr hl))
          · exact .inl (hother hl ht)
        next hp => exact hother (mt (hlabel x hx) hp) ht
  · rw [← hd.same.table] at hy
    obtain ⟨-, e, he, hdocked, hbay⟩ := applyDone_toward hs hy ht
    cases hdocked.symm.trans (hvacant e he hbay)

/-- Settles O45: the entry that is written, the entries that run their selection for it, and what a VACANT bay leaves. -/
theorem beaconWritesTheDirectory : Obligations.BeaconWritesTheDirectory :=
  ⟨beacon_enters, beacon_refreshes, beacon_vacates, fun _ _ s h hv hno =>
    (exec_beacon h).trans (congrArg Host.Outcome.next (takeBeacon_unsound (s := heardIn s) hv hno))⟩

end Sys2Proof.Machine
end
